-- ==== Sys2Proof/Word.lean ====
section
/-! DEFINITION. The octet, the unit every frame, image and panel record is made of (R164, R167, R168). -/

namespace Sys2Proof

/-- One octet of a frame, of the configuration image or of a panel record. Multi-octet values are
read from octets, high octet first, and are held as plain numbers. -/
abbrev Byte := BitVec 8

end Sys2Proof
end

