-- ==== Sys2Proof/Syntax.lean ====
section
/-! DEFINITION. The commands of the PZN-420: one constructor of `Instr` per row of
spec/opcode_table.json, each with the operands its row needs. -/

namespace Sys2Proof

/-- The two corridor bus ports (chapter 10). -/
inductive Port
  | a
  | b
deriving DecidableEq, Repr

/-- The panel kind given by the PN_KIND strap: low PAPER, high LIT (R169, pin summary 12.3). -/
inductive PanelKind
  | paper
  | lit
deriving DecidableEq, Repr

/-- The part of a received frame that its class does not fix: the header fields after the class
octet and the payload (R164). Header fields are the numbers their octets spell. -/
structure RxFrame where
  /-- octet 1 -/
  hop : Nat
  /-- octets 2..3 -/
  sender : Nat
  /-- octets 4..5 -/
  origin : Nat
  /-- octets 7 onward; its length is octet 6 -/
  payload : List Byte
deriving DecidableEq, Repr

/-- The commands. A reset command carries the level of the strap it samples. A frame command carries
the port the frame arrived on and the frame; a deadline command carries the number of the entry,
line, timer, group or port whose deadline is reached. -/
inductive Instr
  | powerOn (strap : PanelKind)
  | lineReset (strap : PanelKind) (pulseMicros : Nat)
  | configReadEnd (image : List Byte)
  | listenPeriodEnd
  | alarmFrame (port : Port) (frame : RxFrame)
  | zoneFrame (port : Port) (frame : RxFrame)
  | reassignFrame (port : Port) (frame : RxFrame)
  | sweepFrame (port : Port) (frame : RxFrame)
  | advertFrame (port : Port) (frame : RxFrame)
  | beaconFrame (port : Port) (frame : RxFrame)
  | solicitFrame (port : Port) (frame : RxFrame)
  | serviceFrame (port : Port) (frame : RxFrame)
  | cabinFrame (port : Port) (frame : RxFrame)
  | statusFrame (port : Port) (frame : RxFrame)
  | queryFrame (port : Port) (frame : RxFrame)
  | itemFrame (port : Port) (frame : RxFrame)
  | withdrawFrame (port : Port) (frame : RxFrame)
  | frameReceiveError (port : Port) (octets : List Byte)
  | transmissionStart (port : Port)
  | sent (port : Port)
  | arbitrationLost (port : Port)
  | transmitFault (port : Port)
  | cellExpiry (dest : Nat) (slot : Fin 6)
  | holdDownDeadline (dest : Nat)
  | flush (dest : Nat)
  | periodicFullRequest
  | gapExpiry (port : Port)
  | returnDeadline
  | inputLineTransition (line : Fin 8) (high : Bool)
  | debounceDeadline (line : Fin 8)
  | sourceExpiry (sender : Nat)
  | slewTick
  | staleDeadline
  | minuteNotice
  | beaconDeadline
  | intervalTimerTick (timer : Fin 2)
  | intervalTimerExpiry (timer : Fin 2)
  | dwellDeadline
  | spotlightDeadline
  | presenceDeadline
  | loadEnd
  | panelBusyFall
  | panelBusyRise
  | gapAnyExpiry
  | gapSameExpiry (group : Fin 4)
  | windowEntryExpiry
  | refreshTimeout
  | busyWatchExpiry
  | retryDeadline
  | rampTick
  | blinkEdge
  | responseDeadline (port : Port)
  | abandonLampEdge
deriving DecidableEq, Repr

end Sys2Proof
end

