-- ==== Sys2Proof/Decode.lean ====
section
/-! DEFINITION. The command a word spells by the table's bits. The rows of spec/opcode_table.json give no
bits: a command of this block is an event at a port or a pin, not a word. -/

namespace Sys2Proof

/-- No row of the table gives bits, so no word spells a command (log entry 6). -/
def decodeTableWord (_nbits _w : Nat) : Option Instr := none

end Sys2Proof
end

