-- ==== Sys2Proof/Machine/Vocabulary.lean ====
section
/-! DEFINITION. The named values of the manual (states, kinds, levels, frame classes, stock texts) and
the codes they are sent and stored under (R164, R165, R166, R167, R168, R178). -/

namespace Sys2Proof.Machine

/-- The thirteen frame classes of the bus chapter's class table. -/
inductive FrameClass
  | alarm | zone | reassign | sweep | advert | beacon | solicit | service | cabin | status | query
  | item | withdraw
deriving DecidableEq, Repr

/-- The class code, which is also the queue and line priority: the lower code wins (R153, R158). -/
def FrameClass.code : FrameClass → Nat
  | .alarm => 0
  | .zone => 1
  | .reassign => 2
  | .sweep => 3
  | .advert => 4
  | .beacon => 5
  | .solicit => 6
  | .service => 7
  | .cabin => 8
  | .status => 9
  | .query => 10
  | .item => 11
  | .withdraw => 12

/-- The class of a class octet; test 3 of R155 fails where there is none. -/
def FrameClass.ofCode : Nat → Option FrameClass
  | 0 => some .alarm
  | 1 => some .zone
  | 2 => some .reassign
  | 3 => some .sweep
  | 4 => some .advert
  | 5 => some .beacon
  | 6 => some .solicit
  | 7 => some .service
  | 8 => some .cabin
  | 9 => some .status
  | 10 => some .query
  | 11 => some .item
  | 12 => some .withdraw
  | _ => none

/-- The lifecycle states of the start block (chapter 11). -/
inductive Lifecycle
  | loading | configFault | listening | operating
deriving DecidableEq, Repr

/-- The lifecycle code of the IDENTITY item (R178). -/
def Lifecycle.code : Lifecycle → Nat
  | .loading => 0
  | .configFault => 1
  | .listening => 2
  | .operating => 3

/-- Whether the blocks take their events as in LISTENING and OPERATING. -/
def Lifecycle.running : Lifecycle → Bool
  | .loading => false
  | .configFault => false
  | .listening => true
  | .operating => true

/-- The cause held by the reset-cause record (R169). -/
inductive ResetCause
  | power | line
deriving DecidableEq, Repr

/-- The reset cause code of the IDENTITY item (R178). -/
def ResetCause.code : ResetCause → Nat
  | .power => 0
  | .line => 1

/-- Node roles, in the order of R168. -/
inductive Role
  | corridor | stair | cabin | assembly
deriving DecidableEq, Repr

/-- The role code (R168). -/
def Role.code : Role → Nat
  | .corridor => 0
  | .stair => 1
  | .cabin => 2
  | .assembly => 3

/-- The role of a clamped role octet (R172: beyond the last code, the last). -/
def Role.ofCode : Nat → Role
  | 0 => .corridor
  | 1 => .stair
  | 2 => .cabin
  | _ => .assembly

/-- The ship's alarm levels (R29), NORMAL < ALERT < GENERAL < ABANDON. -/
inductive Level
  | normal | alert | general | abandon
deriving DecidableEq, Repr

/-- The level code of R30, which also gives the order of the levels. -/
def Level.code : Level → Nat
  | .normal => 0
  | .alert => 1
  | .general => 2
  | .abandon => 3

/-- The level of a code 0..3; a code of 4 or above makes an ALARM frame malformed (R30). -/
def Level.ofCode : Nat → Option Level
  | 0 => some .normal
  | 1 => some .alert
  | 2 => some .general
  | 3 => some .abandon
  | _ => none

/-- GENERAL or ABANDON. -/
def Level.emergency : Level → Bool
  | .normal => false
  | .alert => false
  | .general => true
  | .abandon => true

/-- The higher of two levels (R31). -/
def Level.max (x y : Level) : Level :=
  if x.code < y.code then y else x

/-- The sweep event marked in an alarm notice (R33). -/
inductive SweepEvent
  | onset | ending | none
deriving DecidableEq, Repr

/-- Zone report states by severity, CLEAR < CAUTION < SMOKE < FIRE (R36). -/
inductive ZoneState
  | clear | caution | smoke | fire
deriving DecidableEq, Repr

/-- The zone state code of R37, which is also the severity. -/
def ZoneState.code : ZoneState → Nat
  | .clear => 0
  | .caution => 1
  | .smoke => 2
  | .fire => 3

/-- The zone state of a code 0..3 (R37). -/
def ZoneState.ofCode : Nat → Option ZoneState
  | 0 => some .clear
  | 1 => some .caution
  | 2 => some .smoke
  | 3 => some .fire
  | _ => none

/-- SMOKE or FIRE: a link into such a location is blocked (R11) and a destination there is not
eligible (R49). -/
def ZoneState.blocks : ZoneState → Bool
  | .clear => false
  | .caution => false
  | .smoke => true
  | .fire => true

/-- The higher severity of two (R41). -/
def ZoneState.max (x y : ZoneState) : ZoneState :=
  if x.code < y.code then y else x

/-- Destination kinds (R2, R166). -/
inductive DestKind
  | assembly | embark | venue
deriving DecidableEq, Repr

/-- The kind code of R166 and R168. -/
def DestKind.code : DestKind → Nat
  | .assembly => 0
  | .embark => 1
  | .venue => 2

/-- The kind of a code 0..2; an advertisement entry of another code is skipped (R8). -/
def DestKind.ofCode : Nat → Option DestKind
  | 0 => some .assembly
  | 1 => some .embark
  | 2 => some .venue
  | _ => none

/-- The kinds of a reassignment and of the muster record: ASSEMBLY or EMBARK (R42, R47). -/
inductive PointKind
  | assembly | embark
deriving DecidableEq, Repr

/-- The kind code of R43. -/
def PointKind.code : PointKind → Nat
  | .assembly => 0
  | .embark => 1

/-- The point kind of a code 0 or 1; a code of 2 or above makes a REASSIGN frame malformed (R43). -/
def PointKind.ofCode : Nat → Option PointKind
  | 0 => some .assembly
  | 1 => some .embark
  | _ => none

/-- The destination kind a point kind names. -/
def PointKind.destKind : PointKind → DestKind
  | .assembly => .assembly
  | .embark => .embark

/-- Neighbour link kinds (R11). -/
inductive LinkKind
  | level | stairUp | stairDown
deriving DecidableEq, Repr

/-- The link kind of a clamped code (R168, R172). -/
def LinkKind.ofCode : Nat → LinkKind
  | 0 => .level
  | 1 => .stairUp
  | _ => .stairDown

/-- Bearings in the order of R26. -/
inductive Bearing
  | ahead | aheadRight | right | backRight | back | backLeft | left | aheadLeft | up | down
deriving DecidableEq, Repr

/-- The bearing code 0..9 (R167). -/
def Bearing.code : Bearing → Nat
  | .ahead => 0
  | .aheadRight => 1
  | .right => 2
  | .backRight => 3
  | .back => 4
  | .backLeft => 5
  | .left => 6
  | .aheadLeft => 7
  | .up => 8
  | .down => 9

/-- The bearing of a clamped code (R168, R172). -/
def Bearing.ofCode : Nat → Bearing
  | 0 => .ahead
  | 1 => .aheadRight
  | 2 => .right
  | 3 => .backRight
  | 4 => .back
  | 5 => .backLeft
  | 6 => .left
  | 7 => .aheadLeft
  | 8 => .up
  | _ => .down

/-- Route entry states (R2). -/
inductive EntryState
  | anchor | reachable | holdDown | unreachable
deriving DecidableEq, Repr

/-- The entry state code of the ROUTE item (R178). -/
def EntryState.code : EntryState → Nat
  | .anchor => 0
  | .reachable => 1
  | .holdDown => 2
  | .unreachable => 3

/-- Cell states (R6). -/
inductive CellState
  | empty | live | expired
deriving DecidableEq, Repr

/-- The cell state code of the ROUTE item (R178). -/
def CellState.code : CellState → Nat
  | .empty => 0
  | .live => 1
  | .expired => 2

/-- The next hop of a route entry (R2). -/
inductive NextHop
  | slot (n : Nat)
  | self
  | none
deriving DecidableEq, Repr

/-- The condition of a changed mark (R23). -/
inductive Mark
  | clear | set | carried
deriving DecidableEq, Repr

/-- Time states (R103). -/
inductive TimeState
  | unset | synced | holdover | stale
deriving DecidableEq, Repr

/-- The time state code of R97. -/
def TimeState.code : TimeState → Nat
  | .unset => 0
  | .synced => 1
  | .holdover => 2
  | .stale => 3

/-- The time state of a code 0..3 (R97). -/
def TimeState.ofCode : Nat → Option TimeState
  | 0 => some .unset
  | 1 => some .synced
  | 2 => some .holdover
  | 3 => some .stale
  | _ => none

/-- Every state but UNSET: ship time has a meaning (R69, R73, R88, R128). -/
def TimeState.known : TimeState → Bool
  | .unset => false
  | .synced => true
  | .holdover => true
  | .stale => true

/-- SYNCED or HOLDOVER: MINUTE occurrences, lead detection and countdowns run (R103). -/
def TimeState.disciplined : TimeState → Bool
  | .unset => false
  | .synced => true
  | .holdover => true
  | .stale => false

/-- The kind of a step of ship time (R105). -/
inductive StepKind
  | first | forwardShort | forwardLong | backward
deriving DecidableEq, Repr

/-- Ranks of a muster candidate (R48). -/
inductive MusterRank
  | r0 | r1 | r2 | r3 | held
deriving DecidableEq, Repr

/-- The rank code of the MUSTER item, 4 for HELD (R178); a lower code is a better rank. -/
def MusterRank.code : MusterRank → Nat
  | .r0 => 0
  | .r1 => 1
  | .r2 => 2
  | .r3 => 3
  | .held => 4

/-- Programme item categories (R58). -/
inductive Category
  | show | dining | excursion | activity | notice
deriving DecidableEq, Repr

/-- The category of a code 0..4 (R59). -/
def Category.ofCode : Nat → Option Category
  | 0 => some .show
  | 1 => some .dining
  | 2 => some .excursion
  | 3 => some .activity
  | 4 => some .notice
  | _ => none

/-- Input line functions (R79). -/
inductive LineFunction
  | none | entryContact | privacyButton | makeupButton | crewClear | crewAssist | presence
  | triggerOnly
deriving DecidableEq, Repr

/-- The line function of a clamped code (R168, R172). -/
def LineFunction.ofCode : Nat → LineFunction
  | 0 => .none
  | 1 => .entryContact
  | 2 => .privacyButton
  | 3 => .makeupButton
  | 4 => .crewClear
  | 5 => .crewAssist
  | 6 => .presence
  | _ => .triggerOnly

/-- A line available to trigger sets: function PRESENCE or TRIGGER_ONLY (R82). -/
def LineFunction.available : LineFunction → Bool
  | .none => false
  | .entryContact => false
  | .privacyButton => false
  | .makeupButton => false
  | .crewClear => false
  | .crewAssist => false
  | .presence => true
  | .triggerOnly => true

/-- Active edges (R79). -/
inductive ActiveEdge
  | rise | fall | both
deriving DecidableEq, Repr

/-- The active edge of a clamped code (R168, R172). -/
def ActiveEdge.ofCode : Nat → ActiveEdge
  | 0 => .rise
  | 1 => .fall
  | _ => .both

/-- Service states (R83). -/
inductive ServiceState
  | none | privacy | makeup
deriving DecidableEq, Repr

/-- The service state code of R85. -/
def ServiceState.code : ServiceState → Nat
  | .none => 0
  | .privacy => 1
  | .makeup => 2

/-- Sweep states (R88). -/
inductive SweepState
  | idle | unchecked | cleared | assist | reopened
deriving DecidableEq, Repr

/-- The sweep state code of R90. -/
def SweepState.code : SweepState → Nat
  | .idle => 0
  | .unchecked => 1
  | .cleared => 2
  | .assist => 3
  | .reopened => 4

/-- The sweep state of a code 0..4; a code of 5 or above makes a SWEEP frame malformed (R90). -/
def SweepState.ofCode : Nat → Option SweepState
  | 0 => some .idle
  | 1 => some .unchecked
  | 2 => some .cleared
  | 3 => some .assist
  | 4 => some .reopened
  | _ => none

/-- Cabin occupancy (R86). -/
inductive Occupancy
  | vacant | occupied
deriving DecidableEq, Repr

/-- Trigger factors, in the order of R108. -/
inductive Factor
  | none | minute | programmeLead | input | alarmChange | routeChange | timer
deriving DecidableEq, Repr

/-- The factor of a clamped code (R168, R172). -/
def Factor.ofCode : Nat → Factor
  | 0 => .none
  | 1 => .minute
  | 2 => .programmeLead
  | 3 => .input
  | 4 => .alarmChange
  | 5 => .routeChange
  | _ => .timer

/-- The factor code of a capture record: the order R116 lists the record's values in, which has no
NONE (DEDUCED, log entry 12). -/
def Factor.captureCode : Factor → Nat
  | .none => 0
  | .minute => 0
  | .programmeLead => 1
  | .input => 2
  | .alarmChange => 3
  | .routeChange => 4
  | .timer => 5

/-- Trigger actions, in the order of R108. -/
inductive Action
  | none | showPage | capture | timerStart | timerStop | luminance | quietEnter | quietLeave
  | enableSets | disableSets
deriving DecidableEq, Repr

/-- The action of a clamped code (R168, R172). -/
def Action.ofCode : Nat → Action
  | 0 => .none
  | 1 => .showPage
  | 2 => .capture
  | 3 => .timerStart
  | 4 => .timerStop
  | 5 => .luminance
  | 6 => .quietEnter
  | 7 => .quietLeave
  | 8 => .enableSets
  | _ => .disableSets

/-- The pages a SHOW_PAGE request names (R114). -/
inductive ShowPage
  | spotlight | route | programme
deriving DecidableEq, Repr

/-- The SHOW_PAGE argument of a clamped code (R168). -/
def ShowPage.ofCode : Nat → ShowPage
  | 0 => .spotlight
  | 1 => .route
  | _ => .programme

/-- Trigger set states (R108). -/
inductive SetState
  | enabled | disabled | suspended
deriving DecidableEq, Repr

/-- The set state code of the CAPTURE item (R178). -/
def SetState.code : SetState → Nat
  | .enabled => 0
  | .disabled => 1
  | .suspended => 2

/-- Interval timer modes (R117). -/
inductive TimerMode
  | single | repeating
deriving DecidableEq, Repr

/-- The timer mode of a clamped code (R168). -/
def TimerMode.ofCode : Nat → TimerMode
  | 0 => .single
  | _ => .repeating

/-- Port states (R152). -/
inductive PortState
  | up | down
deriving DecidableEq, Repr

/-- Port bit rates (R152). -/
inductive BitRate
  | kbit125 | kbit250
deriving DecidableEq, Repr

/-- The bit rate of a clamped code (R168). -/
def BitRate.ofCode : Nat → BitRate
  | 0 => .kbit125
  | _ => .kbit250

/-- The port of a clamped neighbour port code (R168). -/
def portOfCode : Nat → Port
  | 0 => .a
  | _ => .b

/-- The pages of the rotation (R120); programme pages are numbered 1..4. -/
inductive RotationPage
  | route
  | programme (k : Nat)
deriving DecidableEq, Repr

/-- The pages (R120). -/
inductive Page
  | fallback | abandon | muster | spotlight | cabin
  | rotation (r : RotationPage)
deriving DecidableEq, Repr

/-- Whether a page is a rotation page (R121). -/
def Page.isRotation : Page → Bool
  | .fallback => false
  | .abandon => false
  | .muster => false
  | .spotlight => false
  | .cabin => false
  | .rotation _ => true

/-- Field record attributes (R127). -/
inductive FieldAttr
  | normal | inverse | blink
deriving DecidableEq, Repr

/-- The attribute octet of a field record (R167). -/
def FieldAttr.code : FieldAttr → Nat
  | .normal => 0
  | .inverse => 1
  | .blink => 2

/-- Symbols (R167). -/
inductive PanelSymbol
  | none | crewAlert | privacy | makeup
deriving DecidableEq, Repr

/-- The symbol octet of a field record (R167). -/
def PanelSymbol.code : PanelSymbol → Nat
  | .none => 0
  | .crewAlert => 1
  | .privacy => 2
  | .makeup => 3

/-- The stock texts quoted in the manual: glyph strings fixed within the part (R127). -/
inductive StockText
  | outOfService | emergencyFollowCrew
  | goToAssembly | goToEmbarkation | awaitCrew
  | here | noRoute | routePending
  | cancelled | now | soon | inWord | minWord
  | deck | vacant | occupied
  | unchecked | cleared | assist | reopened
  | show | dining | excursion | activity | notice
deriving DecidableEq, Repr

/-- One piece of a TEXT content: a glyph octet taken from a received or configured text, or one of the
part's own glyphs or fixed runs of glyphs, whose codes the manual does not give. `joint` stands
between two parts of a text where the manual does not say what separates them. -/
inductive TextPiece
  | octet (g : Byte)
  | stock (t : StockText)
  | digit (d : Nat)
  | arrow (b : Bearing)
  | space
  | colon
  | slash
  | moreThan
  | metres
  | joint
deriving DecidableEq, Repr

/-- The content of a field record (R127); a blank arrow is `arrow none`. -/
inductive FieldContent
  | text (pieces : List TextPiece)
  | arrow (bearing : Option Bearing)
  | number (n : Nat)
  | symbol (y : PanelSymbol)
deriving DecidableEq, Repr

/-- The kind octet of a field record (R167). -/
def FieldContent.kindCode : FieldContent → Nat
  | .text _ => 0
  | .arrow _ => 1
  | .number _ => 2
  | .symbol _ => 3

/-- Panel states (R140, R148). -/
inductive PanelState
  | idle | sending | busy | faultWait | dead
deriving DecidableEq, Repr

/-- The panel state code of the PANEL item (R178). -/
def PanelState.code : PanelState → Nat
  | .idle => 0
  | .sending => 1
  | .busy => 2
  | .faultWait => 3
  | .dead => 4

/-- The panel kind code of the PANEL item: the order in which chapter 9 lists the kinds (R178). -/
def panelKindCode : PanelKind → Nat
  | .paper => 0
  | .lit => 1

/-- Panel command records (R137, R167). -/
inductive PanelCommand
  | refreshFull
  | refreshPartial (groups : List Nat)
  | show
deriving DecidableEq, Repr

/-- The origin mark of a hand-over (R136). -/
inductive OriginMark
  | none | cabinInput | cabinInformation
deriving DecidableEq, Repr

end Sys2Proof.Machine
end

