-- ==== Sys2Proof/Config.lean ====
section
/-! DEFINITION. What the manual leaves open and the model does not decide (free values without a body),
and the reset values the model had to name itself. -/

namespace Sys2Proof.Config

/-- The glyph codes of one piece of the part's own text. The manual gives no glyph table: stock texts are
"fixed within" the part (R127). FREE VALUE (log entry 1): no body, so nothing can be proved of it. -/
opaque glyphCodes : Machine.TextPiece → List Byte

/-- The strap level that `State.reset` samples: DESIGN CHOICE (log entry 2), the strap is a pin. -/
def resetStrap : PanelKind := .paper

/-- The level of the input pins in `State.reset`: DESIGN CHOICE (log entry 3), high as the 50 kΩ pull-up
of the pin summary leaves an open input. -/
def resetLineHigh : Bool := true

/-- The panel busy pin in `State.reset`: DESIGN CHOICE (log entry 3), low, the module not redrawing. -/
def resetBusyHigh : Bool := false

/-- The day level in use before the image gives one: DESIGN CHOICE (log entry 4), the default of the
parameter table of chapter 9. -/
def resetDayLevel : Nat := 800

end Sys2Proof.Config
end

