-- ==== Sys2Proof/Machine/State.lean ====
section
/-! DEFINITION. The state of one PZN-420 node: every register, table, queue, mode, counter and pin the
manual gives it, block by block, the queue of waiting commands, and the values after power-on. -/

namespace Sys2Proof.Machine

/-- A machine fault. The manual gives every command an effect in every state, so no meaning raises one:
the type has no constructor (NOTES.md, Stops; DEDUCED, log entry 33). -/
inductive Fault
deriving DecidableEq, Repr

/-- A refused command. -/
inductive Refusal
  /-- Raised by `exec` alone, for a command that has no meaning yet; safe, since the model stops where
  the part goes on. Every command of the table has its meaning, so no arm of `exec` raises it. -/
  | notModelled (mnemonic : String)
deriving DecidableEq, Repr

/-- One value for each port. -/
structure PerPort (α : Type) where
  a : α
  b : α
deriving DecidableEq, Repr

/-! ### The configuration copy (R168, R172) -/

/-- One configured neighbour slot (R11, R168). -/
structure NeighbourCfg where
  /-- neighbour node, 1..4095 -/
  node : Nat
  port : Port
  /-- link distance L in dm, 1..2000 -/
  distance : Nat
  kind : LinkKind
  boundary : Bool
  /-- neighbour zone, 1..15 -/
  zone : Nat
  /-- neighbour deck, 0..31 -/
  deck : Nat
  bearing : Bearing
deriving DecidableEq, Repr

/-- One anchored destination (R4). -/
structure AnchoredCfg where
  dest : Nat
  kind : DestKind
deriving DecidableEq, Repr

/-- One entry of the label table (R4, R49, R56). -/
structure LabelCfg where
  dest : Nat
  kind : DestKind
  deck : Nat
  zone : Nat
  label : List Byte
deriving DecidableEq, Repr

/-- One signposted destination (R129). -/
structure SignpostCfg where
  dest : Nat
  label : List Byte
deriving DecidableEq, Repr

/-- The configuration of one input line (R79). -/
structure LineCfg where
  function : LineFunction
  edge : ActiveEdge
  /-- debounce in ms, 0..255 -/
  debounce : Nat
deriving DecidableEq, Repr

/-- The configured fields of one trigger set (R108). -/
structure TriggerCfg where
  factor : Factor
  factorArg : Nat
  action : Action
  actionArg : Nat
  /-- bit n marks set n -/
  chain : BitVec 4
  repeats : Bool
  normalOnly : Bool
  enabledAtStart : Bool
deriving DecidableEq, Repr

/-- The configuration of one interval timer (R117). -/
structure TimerCfg where
  /-- terminal count in units of 100 ms, 1..65535 -/
  terminal : Nat
  mode : TimerMode
deriving DecidableEq, Repr

/-- The panel parameters (chapter 9). -/
structure PanelCfg where
  groupCount : Nat
  windowCount : Nat
  /-- T_W in seconds -/
  windowSeconds : Nat
  gapAnyMicros : Nat
  gapAnyFrames : Nat
  gapSameMicros : Nat
  gapSameFrames : Nat
  framePeriodMicros : Nat
  ghostLimit : Nat
  /-- seconds -/
  refreshTimeout : Nat
  dayLevel : Nat
  nightLevel : Nat
  rampInitial : Nat
  rampAcceleration : Nat
  rampMaximum : Nat
deriving DecidableEq, Repr

/-- The default of every panel parameter, as in CONFIG_FAULT (the table of chapter 9). -/
def PanelCfg.default : PanelCfg where
  groupCount := 3
  windowCount := 4
  windowSeconds := 600
  gapAnyMicros := 500000
  gapAnyFrames := 0
  gapSameMicros := 1800000
  gapSameFrames := 90
  framePeriodMicros := 20000
  ghostLimit := 8
  refreshTimeout := 10
  dayLevel := 800
  nightLevel := 150
  rampInitial := 4
  rampAcceleration := 1
  rampMaximum := 40

/-- The configuration copy: the clamped values of a good image (R168, R172). Times are in the units of
the image. -/
structure ConfigCopy where
  nodeNumber : Nat
  deck : Nat
  zone : Nat
  role : Role
  bothPorts : Bool
  bitRate : BitRate
  neighbours : List NeighbourCfg
  anchored : List AnchoredCfg
  labels : List LabelCfg
  signposted : List SignpostCfg
  /-- sweep ranges, first and last cabin -/
  sweepRanges : List (Nat × Nat)
  assemblyPrimary : Nat
  assemblyAlternate : Nat
  embarkPrimary : Nat
  embarkAlternate : Nat
  stairUpFactor : Nat
  stairDownFactor : Nat
  cautionPenalty : Nat
  boundaryPenalty : Nat
  hysteresis : Nat
  /-- seconds -/
  advertInterval : Nat
  triggeredThreshold : Nat
  /-- ms -/
  triggeredGap : Nat
  /-- seconds -/
  holdDown : Nat
  /-- seconds -/
  returnDelay : Nat
  /-- seconds -/
  beaconInterval : Nat
  /-- ms -/
  slewWindow : Nat
  /-- ms -/
  transitAllowance : Nat
  /-- minutes -/
  staleLimit : Nat
  /-- minutes -/
  lookahead : Nat
  linesPerPage : Nat
  /-- seconds -/
  dwell : Nat
  /-- seconds -/
  spotlightDwell : Nat
  /-- seconds -/
  presenceDwell : Nat
  cabinNumber : Nat
  lines : List LineCfg
  triggers : List TriggerCfg
  timers : List TimerCfg
  panel : PanelCfg
  /-- ms -/
  blinkPeriod : Nat
  /-- ms -/
  blinkOnTime : Nat
  /-- seconds -/
  listenPeriod : Nat
deriving DecidableEq, Repr

/-- What a block reads while the configuration copy is empty: the defaults of the parameter tables, no
neighbour, list or range, and no node, cabin or destination number (DESIGN CHOICE, log entry 32). -/
def ConfigCopy.unset : ConfigCopy where
  nodeNumber := 0
  deck := 0
  zone := 0
  role := .corridor
  bothPorts := false
  bitRate := .kbit125
  neighbours := []
  anchored := []
  labels := []
  signposted := []
  sweepRanges := []
  assemblyPrimary := 0
  assemblyAlternate := 0
  embarkPrimary := 0
  embarkAlternate := 0
  stairUpFactor := 12
  stairDownFactor := 10
  cautionPenalty := 300
  boundaryPenalty := 150
  hysteresis := 20
  advertInterval := 10
  triggeredThreshold := 30
  triggeredGap := 500
  holdDown := 4
  returnDelay := 15
  beaconInterval := 8
  slewWindow := 50
  transitAllowance := 2
  staleLimit := 240
  lookahead := 180
  linesPerPage := 5
  dwell := 8
  spotlightDwell := 12
  presenceDwell := 60
  cabinNumber := 0
  lines := []
  triggers := []
  timers := []
  panel := PanelCfg.default
  blinkPeriod := 1000
  blinkOnTime := 500
  listenPeriod := 20

/-! ### Port controllers and frame handler (chapter 10) -/

/-- Queue keys (the class table of chapter 10, R156). `whole` is the key of a class that keeps one entry. -/
inductive QueueKey
  | whole
  | zoneReport (origin number : Nat)
  | place (zone kind : Nat)
  | cabin (number : Nat)
  | token
  | statusItem (item argument : Nat)
  | itemId (id : Nat)
deriving DecidableEq, Repr

/-- A frame to be sent (R164, less length and check, which follow from these fields). -/
structure TxFrame where
  cls : FrameClass
  hop : Nat
  sender : Nat
  origin : Nat
  payload : List Byte
deriving DecidableEq, Repr

/-- The kind of a queued advertisement token; a FULL token holds its cursor (R160). -/
inductive TokenKind
  | full (cursor : Nat)
  | triggered
deriving DecidableEq, Repr

/-- What a queue entry holds: a frame fixed when queued, a BEACON whose content is taken when its
transmission starts (R106), or the advertisement token (R160). -/
inductive QueueContent
  | fixed (frame : TxFrame)
  | beacon
  | token (kind : TokenKind)
deriving DecidableEq, Repr

/-- One entry of a transmit queue (R158). -/
structure QueueEntry where
  cls : FrameClass
  key : QueueKey
  age : Nat
  content : QueueContent
deriving DecidableEq, Repr

/-- How an in-flight frame returns when it is not sent: as itself, as a BEACON entry, or through its
token, which restarts a FULL round at the first id of the lost frame (R153, R162). -/
inductive FlightOrigin
  | fixed
  | beacon
  | fullToken (firstId : Nat)
  | triggeredToken
deriving DecidableEq, Repr

/-- The in-flight frame with the key and age of the entry it left the queue from (R153). -/
structure InFlight where
  key : QueueKey
  age : Nat
  source : FlightOrigin
  frame : TxFrame
deriving DecidableEq, Repr

/-- One port controller (R152) with its counters (R163). -/
structure PortCtl where
  inUse : Bool
  bitRate : Option BitRate
  state : PortState
  queue : List QueueEntry
  /-- the age the next joining entry takes (R158) -/
  nextAge : Nat
  inFlight : Option InFlight
  faultRun : Nat
  goodRun : Nat
  framesReceived : Nat
  framesSent : Nat
  arbitrationLosses : Nat
  transmitFaults : Nat
  queueDrops : Nat
  downEntries : Nat
  lostAtDown : Nat
  refusedWhileDown : Nat
deriving DecidableEq, Repr

/-- The per-node counters of the frame handler (R163). -/
structure BusCounters where
  lengthErrors : Nat
  checkErrors : Nat
  unknownClasses : Nat
  malformedFrames : Nat
  relayedCopies : Nat
deriving DecidableEq, Repr

/-! ### Start block (chapter 11) -/

/-- A pending solicit response with its suppression marks (R174, R175). -/
structure Schedule where
  deadline : Nat
  alarmMark : Bool
  /-- keys (origin, report number) of the marked zone reports -/
  zoneMarks : List (Nat × Nat)
  /-- marked places of the reassignment list -/
  placeMarks : List (Nat × PointKind)
deriving DecidableEq, Repr

/-- The start block. -/
structure StartBlock where
  lifecycle : Lifecycle
  config : Option ConfigCopy
  /-- the configuration check: none without a result, then good or failed (R169, R176) -/
  configGood : Option Bool
  clamped : Bool
  cause : ResetCause
  startCount : Nat
  /-- end of the listen period, present in LISTENING (R173) -/
  listenDeadline : Option Nat
  /-- solicit response schedules: none is idle (R174) -/
  schedules : PerPort (Option Schedule)
  clamps : Nat
  solicitsAnswered : Nat
  suppressedItems : Nat
deriving DecidableEq, Repr

/-! ### Ship time unit (chapter 6) -/

/-- One entry of the source table (R98). -/
structure TimeSource where
  sender : Nat
  stratum : Nat
  lastBeacon : Nat
deriving DecidableEq, Repr

/-- The ship time unit (R95) with its counters (R107). Offset, slew and residue are signed ms. -/
structure TimeUnit where
  offset : Int
  slewRemaining : Int
  slewTick : Option Nat
  state : TimeState
  staleDeadline : Option Nat
  sources : List TimeSource
  selected : Option Nat
  ownStratum : Option Nat
  confirm : Option Int
  notifiedMinute : Nat
  beaconDeadline : Option Nat
  stepsTaken : Nat
  unconfirmedSteps : Nat
  unusableBeacons : Nat
  refusedSources : Nat
deriving DecidableEq, Repr

/-! ### Alarm state unit (chapter 2) -/

/-- One zone report (R36). -/
structure ZoneReport where
  origin : Nat
  number : Nat
  sequence : Nat
  zone : Nat
  deckLow : Nat
  deckHigh : Nat
  state : ZoneState
  received : Nat
deriving DecidableEq, Repr

/-- One record of the reassignment list (R42). -/
structure Reassignment where
  zone : Nat
  kind : PointKind
  dest : Nat
  epoch : Nat
  sequence : Nat
  origin : Nat
deriving DecidableEq, Repr

/-- The alarm state unit: alarm record (R29), zone report list (R36), reassignment list (R42; a place
with no record is empty) and counters (R46). -/
structure AlarmUnit where
  /-- none is NONE -/
  epoch : Option Nat
  level : Level
  origin : Nat
  changedAt : Option Nat
  reports : List ZoneReport
  reassignments : List Reassignment
  olderAlarmFrames : Nat
  droppedReports : Nat
  evictedReports : Nat
  otherEpochReassignments : Nat
deriving DecidableEq, Repr

/-! ### Route engine (chapter 1) -/

/-- One neighbour cell (R6). -/
structure Cell where
  state : CellState
  cost : Nat
  hop : Nat
  nextNode : Nat
  viaStair : Bool
  viaBoundary : Bool
  refreshed : Nat
deriving DecidableEq, Repr

/-- The EMPTY cell. R6 gives it no values: its five fields hold zeros, which the ROUTE item sends (DESIGN
CHOICE, log entry 29). -/
def Cell.empty : Cell := ⟨.empty, 0, 0, 0, false, false, 0⟩

/-- One entry of the destination table (R2). -/
structure RouteEntry where
  dest : Nat
  kind : DestKind
  state : EntryState
  cost : Nat
  hop : Nat
  nextHop : NextHop
  viaStair : Bool
  viaBoundary : Bool
  marks : PerPort Mark
  pinned : Bool
  holdDownDeadline : Option Nat
  unreachableSince : Option Nat
  /-- six cells, one per neighbour slot -/
  cells : List Cell
deriving DecidableEq, Repr

/-- The route engine: destination table (R3), advertisement schedule (R24, R25) and counters (R28). -/
structure RouteEngine where
  entries : List RouteEntry
  /-- next periodic FULL request (R24) -/
  nextFull : Option Nat
  lastRequest : PerPort (Option Nat)
  gapExpiry : PerPort (Option Nat)
  nonNeighbourAdverts : Nat
  skippedEntries : Nat
  droppedDestinations : Nat
  evictedEntries : Nat
  flushedEntries : Nat
  holdDownsEntered : Nat
deriving DecidableEq, Repr

/-! ### Muster selector (chapter 3) -/

/-- The muster target record (R47) and the counters of R57. -/
structure MusterSelector where
  kind : Option PointKind
  dest : Option Nat
  rank : Option MusterRank
  candidate : Option Nat
  candidateRank : Option MusterRank
  returnDeadline : Option Nat
  switchesOnLoss : Nat
  returns : Nat
deriving DecidableEq, Repr

/-! ### Programme store (chapter 4) -/

/-- One programme item record (R58). The lead is present exactly while HIGHLIGHT is set. -/
structure Item where
  id : Nat
  version : Nat
  start : Nat
  last : Nat
  category : Category
  venue : Nat
  venueLabel : List Byte
  title : List Byte
  detail : List Byte
  deckMask : BitVec 32
  zoneMask : BitVec 16
  highlight : Option Nat
  cancelled : Bool
deriving DecidableEq, Repr

/-- One tombstone (R65). -/
structure Tombstone where
  id : Nat
  version : Nat
deriving DecidableEq, Repr

/-- The programme store: item list in store order (R61), tombstone queue, oldest first (R65), spotlight
list, oldest first (R72), and counters (R78). -/
structure ProgrammeStore where
  items : List Item
  tombstones : List Tombstone
  spotlight : List Nat
  clampedItems : Nat
  tombstoneHits : Nat
  droppedItems : Nat
  evictedItems : Nat
  withdrawnItems : Nat
  evictedTombstones : Nat
  expiredItems : Nat
  spotlightOverflows : Nat
deriving DecidableEq, Repr

/-! ### Cabin unit (chapter 5) -/

/-- One line record (R79); the contact level of an ENTRY_CONTACT line follows from its stable level
(R81). -/
structure LineRecord where
  function : LineFunction
  edge : ActiveEdge
  debounce : Nat
  /-- none is no stable level; true is high -/
  stable : Option Bool
  deadline : Option Nat
deriving DecidableEq, Repr

/-- The cabin info record (R86). -/
structure CabinInfo where
  version : Nat
  greeting : List Byte
  occupancy : Occupancy
  embarkDay : Nat
  disembarkDay : Nat
deriving DecidableEq, Repr

/-- One entry of the corridor tally (R92). -/
structure TallyEntry where
  cabin : Nat
  sweep : SweepState
deriving DecidableEq, Repr

/-- The cabin unit with its counters (R94). -/
structure CabinUnit where
  /-- eight line records -/
  lines : List LineRecord
  service : ServiceState
  request : Nat
  sweep : SweepState
  /-- none is unknown -/
  sweepMinute : Option Nat
  info : Option CabinInfo
  tally : Option (List TallyEntry)
  rejectedBounces : Nat
  ignoredButtonEdges : Nat
  staleServiceDone : Nat
deriving DecidableEq, Repr

/-! ### Trigger unit (chapter 7) -/

/-- One trigger set (R108). -/
structure TriggerSet where
  cfg : TriggerCfg
  state : SetState
deriving DecidableEq, Repr

/-- The running state of one interval timer (R117). -/
structure TimerState where
  running : Bool
  count : Nat
  tick : Option Nat
deriving DecidableEq, Repr

/-- The time of a capture: ship time, or the node clock with the UNSET flag set (R116). -/
inductive CaptureTime
  | ship (seconds millis : Nat)
  | clock (value : Nat)
deriving DecidableEq, Repr

/-- One capture record (R116). -/
structure Capture where
  time : CaptureTime
  setNumber : Nat
  chained : Bool
  factor : Factor
  detail : Nat
deriving DecidableEq, Repr

/-- The trigger unit: four sets, two timers, four capture slots, the level in use (R111) and counters
(R119). -/
structure TriggerUnit where
  sets : List TriggerSet
  timers : List TimerState
  captures : List (Option Capture)
  level : Level
  activations : Nat
  expiries : Nat
  suspensions : Nat
deriving DecidableEq, Repr

/-! ### Page selector (chapter 8) -/

/-- One field record (R127) with the regions its field lies in. -/
structure FieldRecord where
  num : Nat
  attr : FieldAttr
  content : FieldContent
  regions : List Nat
deriving DecidableEq, Repr

/-- The contents last handed to the panel controller (R120). -/
structure Handed where
  page : Page
  fields : List FieldRecord
deriving DecidableEq, Repr

/-- The page selector (R120) with its counters (R136). Spotlight showing is in progress exactly while
a current item is present. -/
structure PageSelector where
  selected : Page
  rotation : RotationPage
  dwell : Option Nat
  spotItem : Option Nat
  spotDeadline : Option Nat
  quiet : Bool
  presence : Option Nat
  level : Level
  handed : Option Handed
  pageChanges : Nat
  refusedRequests : Nat
deriving DecidableEq, Repr

/-! ### Panel controller (chapter 9) -/

/-- One entry of the held field table: the record last handed and its groups (R137). -/
structure HeldField where
  record : FieldRecord
  groups : List Nat
deriving DecidableEq, Repr

/-- One member of the pending field set: a field number with its groups (R138). -/
structure PendingField where
  num : Nat
  groups : List Nat
deriving DecidableEq, Repr

/-- The FULL request of a PAPER panel (R138). -/
structure FullRequest where
  urgent : Bool
  forced : Bool
deriving DecidableEq, Repr

/-- The PARTIAL request of one group (R138). -/
structure PartialRequest where
  group : Nat
  urgent : Bool
  exempt : Bool
  time : Nat
deriving DecidableEq, Repr

/-- The record kept for one group (R140). -/
structure GroupRecord where
  partialCount : Nat
  lastStart : Option Nat
deriving DecidableEq, Repr

/-- One entry of the full-refresh window list (R142). -/
structure WindowEntry where
  start : Nat
  urgent : Bool
deriving DecidableEq, Repr

/-- One field record of a load as sent; `blanked` is a BLINK record sent with content length 0 (R180). -/
structure LoadRecord where
  num : Nat
  attr : FieldAttr
  content : FieldContent
  blanked : Bool
deriving DecidableEq, Repr

/-- A load: a run of field records and one command record (R137; DESIGN CHOICE, log entry 35). -/
structure Load where
  records : List LoadRecord
  command : PanelCommand
deriving DecidableEq, Repr

/-- The panel controller: R137, R140, R148, R149 and the counters of R151. -/
structure PanelCtl where
  kind : PanelKind
  state : PanelState
  /-- at most one entry per field number, in ascending order -/
  held : List HeldField
  /-- in ascending field number order -/
  pending : List PendingField
  /-- the page change mark of a LIT panel's pending load (R148) -/
  pageMark : Bool
  full : Option FullRequest
  partials : List PartialRequest
  /-- the records of groups 1..4 -/
  groups : List GroupRecord
  window : List WindowEntry
  lastCompletion : Option Nat
  /-- the refresh timeout, present in BUSY -/
  refreshDeadline : Option Nat
  /-- the load being sent, present in SENDING -/
  load : Option Load
  /-- busy rose and fell while the load was being sent (R146) -/
  fellInLoad : Bool
  /-- the urgency of the last refresh started, read by R147 -/
  refreshUrgent : Bool
  timeoutRun : Nat
  retryDeadline : Option Nat
  busyWatch : Option Nat
  luminance : Nat
  target : Option Nat
  stepCount : Nat
  rampTick : Option Nat
  dayLevel : Nat
  /-- the quiet value the page selector last told -/
  quiet : Bool
  /-- the level after of the last alarm notice taken -/
  level : Level
  fullRefreshes : Nat
  partialRefreshes : Nat
  forcedFullRefreshes : Nat
  panelTimeouts : Nat
deriving DecidableEq, Repr

/-! ### Indicator unit, status responder and pins (chapter 12) -/

/-- The indicator unit (R180, R181): the phase at the last generator edge, the level last told, and the
two lines. -/
structure Indicator where
  phaseOn : Bool
  level : Level
  lamp : Bool
  /-- the fault line asserted -/
  fault : Bool
deriving DecidableEq, Repr

/-- The status responder's counter (R177, R179). -/
structure StatusResponder where
  queriesAnswered : Nat
deriving DecidableEq, Repr

/-- The input pins as they stand: IN0..IN7 and PN_BUSY (pin summary 12.3); true is high. -/
structure Pins where
  lines : List Bool
  busy : Bool
deriving DecidableEq, Repr

/-- The whole node and the queue of commands that wait for it, first in, first out. -/
structure State where
  /-- the node clock in ms (R95; unbounded, DESIGN CHOICE, log entry 9) -/
  clock : Nat
  start : StartBlock
  ports : PerPort PortCtl
  bus : BusCounters
  time : TimeUnit
  alarm : AlarmUnit
  route : RouteEngine
  muster : MusterSelector
  prog : ProgrammeStore
  cabin : CabinUnit
  trig : TriggerUnit
  page : PageSelector
  panel : PanelCtl
  ind : Indicator
  status : StatusResponder
  pins : Pins
  pending : List Instr
deriving DecidableEq, Repr

/-! ### Values after either reset -/

/-- A port controller after either reset (R152). -/
def PortCtl.reset : PortCtl where
  inUse := false
  bitRate := none
  state := .up
  queue := []
  nextAge := 0
  inFlight := none
  faultRun := 0
  goodRun := 0
  framesReceived := 0
  framesSent := 0
  arbitrationLosses := 0
  transmitFaults := 0
  queueDrops := 0
  downEntries := 0
  lostAtDown := 0
  refusedWhileDown := 0

/-- The frame handler's counters after either reset. -/
def BusCounters.reset : BusCounters := ⟨0, 0, 0, 0, 0⟩

/-- The start block after a reset of the given cause with the given start count (R169). -/
def StartBlock.reset (cause : ResetCause) (count : Nat) : StartBlock where
  lifecycle := .loading
  config := none
  configGood := none
  clamped := false
  cause := cause
  startCount := count
  listenDeadline := none
  schedules := ⟨none, none⟩
  clamps := 0
  solicitsAnswered := 0
  suppressedItems := 0

/-- The ship time unit after either reset (R95). -/
def TimeUnit.reset : TimeUnit where
  offset := 0
  slewRemaining := 0
  slewTick := none
  state := .unset
  staleDeadline := none
  sources := []
  selected := none
  ownStratum := none
  confirm := none
  notifiedMinute := 0
  beaconDeadline := none
  stepsTaken := 0
  unconfirmedSteps := 0
  unusableBeacons := 0
  refusedSources := 0

/-- The alarm state unit after either reset (R29, R36, R42). -/
def AlarmUnit.reset : AlarmUnit where
  epoch := none
  level := .normal
  origin := 0
  changedAt := none
  reports := []
  reassignments := []
  olderAlarmFrames := 0
  droppedReports := 0
  evictedReports := 0
  otherEpochReassignments := 0

/-- The route engine after either reset (R3, R24, R25). -/
def RouteEngine.reset : RouteEngine where
  entries := []
  nextFull := none
  lastRequest := ⟨none, none⟩
  gapExpiry := ⟨none, none⟩
  nonNeighbourAdverts := 0
  skippedEntries := 0
  droppedDestinations := 0
  evictedEntries := 0
  flushedEntries := 0
  holdDownsEntered := 0

/-- The muster selector after either reset (R47). -/
def MusterSelector.reset : MusterSelector := ⟨none, none, none, none, none, none, 0, 0⟩

/-- The programme store after either reset (chapter 4). -/
def ProgrammeStore.reset : ProgrammeStore := ⟨[], [], [], 0, 0, 0, 0, 0, 0, 0, 0⟩

/-- A line record after either reset (R79); edge and debounce are DESIGN CHOICE (log entry 4). -/
def LineRecord.reset : LineRecord := ⟨.none, .rise, 0, none, none⟩

/-- The cabin unit after either reset (R79, R83, R86, R88, R92). -/
def CabinUnit.reset : CabinUnit where
  lines := List.replicate 8 LineRecord.reset
  service := .none
  request := 0
  sweep := .idle
  sweepMinute := none
  info := none
  tally := none
  rejectedBounces := 0
  ignoredButtonEdges := 0
  staleServiceDone := 0

/-- A trigger set after either reset (R108); its arguments are DESIGN CHOICE (log entry 4). -/
def TriggerSet.reset : TriggerSet := ⟨⟨.none, 0, .none, 0, 0#4, false, false, false⟩, .disabled⟩

/-- A timer after either reset (R117). -/
def TimerState.reset : TimerState := ⟨false, 0, none⟩

/-- The trigger unit after either reset (R108, R111, R116, R117). -/
def TriggerUnit.reset : TriggerUnit where
  sets := List.replicate 4 TriggerSet.reset
  timers := List.replicate 2 TimerState.reset
  captures := List.replicate 4 none
  level := .normal
  activations := 0
  expiries := 0
  suspensions := 0

/-- The page selector after either reset (R120). -/
def PageSelector.reset : PageSelector :=
  ⟨.fallback, .route, none, none, none, false, none, .normal, none, 0, 0⟩

/-- The panel controller after either reset, with the sampled panel kind (R137, R140, R148, R149). -/
def PanelCtl.reset (kind : PanelKind) : PanelCtl where
  kind := kind
  state := .idle
  held := []
  pending := []
  pageMark := false
  full := none
  partials := []
  groups := List.replicate 4 ⟨0, none⟩
  window := []
  lastCompletion := none
  refreshDeadline := none
  load := none
  fellInLoad := false
  refreshUrgent := false
  timeoutRun := 0
  retryDeadline := none
  busyWatch := none
  luminance := 0
  target := none
  stepCount := 0
  rampTick := none
  dayLevel := Config.resetDayLevel
  quiet := false
  level := .normal
  fullRefreshes := 0
  partialRefreshes := 0
  forcedFullRefreshes := 0
  panelTimeouts := 0

/-- The indicator unit after either reset (R180, R181): the generator is on at node clock 0. -/
def Indicator.reset : Indicator := ⟨true, .normal, false, false⟩

/-- The whole node as a reset of the given cause, start count and strap leaves it (R169), with the pins
and the waiting commands as they stand outside it (DESIGN CHOICE, log entry 11). -/
def State.afterReset (cause : ResetCause) (count : Nat) (strap : PanelKind) (pins : Pins)
    (waiting : List Instr) : State where
  clock := 0
  start := StartBlock.reset cause count
  ports := ⟨PortCtl.reset, PortCtl.reset⟩
  bus := BusCounters.reset
  time := TimeUnit.reset
  alarm := AlarmUnit.reset
  route := RouteEngine.reset
  muster := MusterSelector.reset
  prog := ProgrammeStore.reset
  cabin := CabinUnit.reset
  trig := TriggerUnit.reset
  page := PageSelector.reset
  panel := PanelCtl.reset strap
  ind := Indicator.reset
  status := ⟨0⟩
  pins := pins
  pending := waiting

/-- The machine right after power-on (R169), with no command waiting. -/
def State.reset : State :=
  State.afterReset .power 0 Config.resetStrap
    ⟨List.replicate 8 Config.resetLineHigh, Config.resetBusyHigh⟩ []

end Sys2Proof.Machine
end

