-- ==== Sys2Proof/Machine/Ops.lean ====
section
/-! DEFINITION. The shared small operations: serial numbers, saturating counters, octets, per-port
access, deadlines, ship time, and the readings of configuration and alarm state every block uses. -/

namespace Sys2Proof.Machine

/-! ### Serial numbers and counters -/

/-- `newer n a b`: serial number a of n bits is newer than b (R1). -/
def newer (n a b : Nat) : Bool :=
  let d := (a % 2 ^ n + 2 ^ n - b % 2 ^ n) % 2 ^ n
  decide (1 ≤ d) && decide (d ≤ 2 ^ (n - 1) - 1)

/-- Raise a 16-bit counter that saturates at 65535 (00_scope, Counters). -/
def bump (n : Nat) : Nat := min 65535 (n + 1)

/-- Raise a saturating counter by k. -/
def bumpBy (n k : Nat) : Nat := min 65535 (n + k)

/-! ### Octets, high octet first -/

/-- The number two octets spell. -/
def word16 (hi lo : Byte) : Nat := hi.toNat * 256 + lo.toNat

/-- The number three octets spell. -/
def word24 (x y z : Byte) : Nat := (x.toNat * 256 + y.toNat) * 256 + z.toNat

/-- The number four octets spell. -/
def word32 (w x y z : Byte) : Nat := ((w.toNat * 256 + x.toNat) * 256 + y.toNat) * 256 + z.toNat

/-- One octet, the low eight bits of n. -/
def octets1 (n : Nat) : List Byte := [BitVec.ofNat 8 n]

/-- Two octets, high octet first, the low sixteen bits of n. -/
def octets2 (n : Nat) : List Byte := [BitVec.ofNat 8 (n / 256), BitVec.ofNat 8 n]

/-- Three octets, high octet first. -/
def octets3 (n : Nat) : List Byte :=
  [BitVec.ofNat 8 (n / 65536), BitVec.ofNat 8 (n / 256), BitVec.ofNat 8 n]

/-- Four octets, high octet first, the low thirty-two bits of n. -/
def octets4 (n : Nat) : List Byte :=
  [BitVec.ofNat 8 (n / 16777216), BitVec.ofNat 8 (n / 65536), BitVec.ofNat 8 (n / 256),
    BitVec.ofNat 8 n]

/-- A yes or no octet: 1 for yes or set (DESIGN CHOICE, log entry 29). -/
def boolCode (x : Bool) : Nat := if x then 1 else 0

/-! ### Per-port access -/

/-- The value of one port. -/
def PerPort.get {α : Type} (v : PerPort α) : Port → α
  | .a => v.a
  | .b => v.b

/-- Replace the value of one port. -/
def PerPort.put {α : Type} (v : PerPort α) (p : Port) (x : α) : PerPort α :=
  match p with
  | .a => { v with a := x }
  | .b => { v with b := x }

/-- The other port of a STAIR node. -/
def otherPort : Port → Port
  | .a => .b
  | .b => .a

/-- The ports in use, A before B. -/
def State.portsInUse (s : State) : List Port :=
  [Port.a, Port.b].filter (fun p => (s.ports.get p).inUse)

/-- Replace the state of one port controller. -/
def State.putPort (s : State) (p : Port) (c : PortCtl) : State :=
  { s with ports := s.ports.put p c }

/-! ### Deadlines -/

/-- A deadline is due when it is present and has been reached on the node clock (DESIGN CHOICE, log
entry 7). -/
def due (deadline : Option Nat) (now : Nat) : Bool :=
  match deadline with
  | none => false
  | some d => decide (d ≤ now)

/-! ### Readings -/

/-- The configuration every block reads; before the copy is formed, the unset one. -/
def State.cfg (s : State) : ConfigCopy := s.start.config.getD ConfigCopy.unset

/-- LISTENING or OPERATING. -/
def State.running (s : State) : Bool := s.start.lifecycle.running

/-- The panel parameters: those of the image from LISTENING, the defaults in CONFIG_FAULT (chapter 9). -/
def State.panelCfg (s : State) : PanelCfg := s.cfg.panel

/-- The largest ship time in ms (R96). -/
def shipTimeMax : Nat := 22118399999

/-- Ship time in ms: node clock plus offset, limited to its range (R96). -/
def State.shipMs (s : State) : Nat :=
  min shipTimeMax ((s.clock : Int) + s.time.offset).toNat

/-- The current programme minute (R96). -/
def State.programmeMinute (s : State) : Nat := s.shipMs / 60000

/-- The minute of day of a programme minute (R96). -/
def minuteOfDay (m : Nat) : Nat := m % 1440

/-- The effective zone state of (zone, deck): the highest severity among the covering reports (R41). -/
def effectiveZone (reports : List ZoneReport) (zone deck : Nat) : ZoneState :=
  reports.foldl
    (fun z r =>
      if r.zone = zone ∧ r.deckLow ≤ deck ∧ deck ≤ r.deckHigh then z.max r.state else z)
    .clear

/-- The reading of R41 at a state. -/
def State.zoneAt (s : State) (zone deck : Nat) : ZoneState := effectiveZone s.alarm.reports zone deck

/-- The destination table entry for a destination, where one is held. -/
def State.routeEntry (s : State) (dest : Nat) : Option RouteEntry :=
  s.route.entries.find? (fun e => e.dest == dest)

/-- The first label-table entry naming a destination (R49, R56). -/
def State.labelOf (s : State) (dest : Nat) : Option LabelCfg :=
  s.cfg.labels.find? (fun l => l.dest == dest)

/-- The held item record of an id. -/
def State.item (s : State) (id : Nat) : Option Item :=
  s.prog.items.find? (fun i => i.id == id)

/-- This node is in an item's audience: its deck and its fire zone are both marked (R68). -/
def inAudience (cfg : ConfigCopy) (i : Item) : Bool :=
  i.deckMask.getLsbD cfg.deck && i.zoneMask.getLsbD cfg.zone

/-! ### Ordered lists -/

/-- Insert before the first element the new one precedes. -/
def insertBy {α : Type} (lt : α → α → Bool) (x : α) : List α → List α
  | [] => [x]
  | y :: ys => if lt x y then x :: y :: ys else y :: insertBy lt x ys

/-- The first element no other element precedes. -/
def leastBy {α : Type} (lt : α → α → Bool) : List α → Option α
  | [] => none
  | x :: xs =>
    match leastBy lt xs with
    | none => some x
    | some y => if lt y x then some y else some x

end Sys2Proof.Machine
end

