-- ==== Sys2Proof/Machine/Operands.lean ====
section
/-! DEFINITION. The contents of frames: how the payload octets of each class are read, with the
malformed cases of R155 test 6 as `none` (a payload of another
length than its fixed layout among them, DEDUCED, log entry 15), and how a frame and a panel record are
laid out in octets. -/

namespace Sys2Proof.Machine

/-! ### Flood classes and BEACON (R30, R37, R43, R97, R165) -/

/-- ALARM payload (R30). -/
structure AlarmPayload where
  epoch : Nat
  level : Level
deriving DecidableEq, Repr

/-- Read an ALARM payload; malformed at a level code of 4 or above (R30). -/
def parseAlarm : List Byte → Option AlarmPayload
  | [e1, e0, l] => (Level.ofCode l.toNat).map (fun level => ⟨word16 e1 e0, level⟩)
  | _ => none

/-- ZONE payload (R37), decks as sent. -/
structure ZonePayload where
  number : Nat
  sequence : Nat
  zone : Nat
  deckLow : Nat
  deckHigh : Nat
  state : ZoneState
deriving DecidableEq, Repr

/-- Read a ZONE payload; malformed at zone 0 or above 15, a deck above 31 or a state code of 4 or above
(R37). -/
def parseZone : List Byte → Option ZonePayload
  | [n, q, z, lo, hi, st] =>
    if 1 ≤ z.toNat ∧ z.toNat ≤ 15 ∧ lo.toNat ≤ 31 ∧ hi.toNat ≤ 31 then
      (ZoneState.ofCode st.toNat).map
        (fun state => ⟨n.toNat, q.toNat, z.toNat, lo.toNat, hi.toNat, state⟩)
    else none
  | _ => none

/-- REASSIGN payload (R43). -/
structure ReassignPayload where
  epoch : Nat
  zone : Nat
  kind : PointKind
  dest : Nat
  sequence : Nat
deriving DecidableEq, Repr

/-- Read a REASSIGN payload; malformed at zone 0 or above 15 or a kind code of 2 or above (R43). -/
def parseReassign : List Byte → Option ReassignPayload
  | [e1, e0, z, k, d, q] =>
    if 1 ≤ z.toNat ∧ z.toNat ≤ 15 then
      (PointKind.ofCode k.toNat).map
        (fun kind => ⟨word16 e1 e0, z.toNat, kind, d.toNat, q.toNat⟩)
    else none
  | _ => none

/-- BEACON payload (R97). -/
structure BeaconPayload where
  seconds : Nat
  millis : Nat
  stratum : Nat
  state : TimeState
deriving DecidableEq, Repr

/-- Read a BEACON payload; malformed beyond any of the ranges of R97. -/
def parseBeacon : List Byte → Option BeaconPayload
  | [s3, s2, s1, s0, m1, m0, st, ts] =>
    if word32 s3 s2 s1 s0 ≤ 22118399 ∧ word16 m1 m0 ≤ 999 ∧ st.toNat ≤ 15 then
      (TimeState.ofCode ts.toNat).map
        (fun state => ⟨word32 s3 s2 s1 s0, word16 m1 m0, st.toNat, state⟩)
    else none
  | _ => none

/-! ### Cabin classes (R85, R86, R90) -/

/-- SWEEP payload (R90); no minute is the value 16,777,215, unknown. -/
structure SweepPayload where
  cabin : Nat
  sweep : SweepState
  minute : Option Nat
deriving DecidableEq, Repr

/-- Read a SWEEP payload; malformed as R90 lists. -/
def parseSweep : List Byte → Option SweepPayload
  | [c1, c0, st, m2, m1, m0] =>
    let minute := word24 m2 m1 m0
    if 1 ≤ word16 c1 c0 ∧ word16 c1 c0 ≤ 9999 ∧ (minute ≤ 368639 ∨ minute = 16777215) then
      (SweepState.ofCode st.toNat).map
        (fun sweep => ⟨word16 c1 c0, sweep, if minute = 16777215 then none else some minute⟩)
    else none
  | _ => none

/-- Whether a SERVICE payload is well formed (R85); its contents are not used by a node. -/
def wellFormedService : List Byte → Bool
  | [c1, c0, st, _] =>
    decide (1 ≤ word16 c1 c0 ∧ word16 c1 c0 ≤ 9999 ∧ st.toNat ≤ 2)
  | _ => false

/-- CABIN payload (R86). -/
structure CabinPayload where
  cabin : Nat
  version : Nat
  occupancy : Occupancy
  embarkDay : Nat
  disembarkDay : Nat
  serviceDone : Option Nat
  greeting : List Byte
deriving DecidableEq, Repr

/-- Read a CABIN payload; malformed as R86 lists. -/
def parseCabin : List Byte → Option CabinPayload
  | c1 :: c0 :: v :: oc :: em :: di :: pr :: dn :: len :: greeting =>
    if 1 ≤ word16 c1 c0 ∧ word16 c1 c0 ≤ 9999 ∧ oc.toNat ≤ 1 ∧ pr.toNat ≤ 1 ∧ len.toNat ≤ 32 ∧
        greeting.length = len.toNat then
      some
        { cabin := word16 c1 c0
          version := v.toNat
          occupancy := if oc.toNat = 0 then .vacant else .occupied
          embarkDay := em.toNat
          disembarkDay := di.toNat
          serviceDone := if pr.toNat = 1 then some dn.toNat else none
          greeting := greeting }
    else none
  | _ => none

/-! ### ADVERT (R8, R155, R166) -/

/-- One advertisement entry as sent (R166). -/
structure AdvertEntry where
  dest : Nat
  kindCode : Nat
  cost : Nat
  hop : Nat
  nextNode : Nat
  viaStair : Bool
  viaBoundary : Bool
deriving DecidableEq, Repr

/-- The entries of an ADVERT payload after its count octet, eight octets each. -/
def advertEntries : List Byte → List AdvertEntry
  | d :: k :: c1 :: c0 :: h :: n1 :: n0 :: fl :: rest =>
    { dest := d.toNat
      kindCode := k.toNat
      cost := word16 c1 c0
      hop := h.toNat
      nextNode := word16 n1 n0
      viaStair := fl.getLsbD 0
      viaBoundary := fl.getLsbD 1 } :: advertEntries rest
  | _ => []

/-- Read an ADVERT payload: test 6 looks at its shape alone (R155). -/
def parseAdvert : List Byte → Option (List AdvertEntry)
  | n :: rest =>
    if 1 ≤ n.toNat ∧ n.toNat ≤ 12 ∧ rest.length = 8 * n.toNat then some (advertEntries rest)
    else none
  | [] => none

/-! ### Programme classes (R59, R66, R166) -/

/-- ITEM payload as sent, before the clamps of R59. -/
structure ItemPayload where
  id : Nat
  version : Nat
  start : Nat
  last : Nat
  category : Category
  venue : Nat
  highlight : Bool
  cancelled : Bool
  lead : Nat
  deckMask : BitVec 32
  zoneMask : BitVec 16
  venueLabel : List Byte
  title : List Byte
  detail : List Byte
deriving DecidableEq, Repr

/-- A length octet and that many glyphs, with what follows them. -/
def takeGlyphs : List Byte → Option (List Byte × List Byte)
  | len :: rest =>
    if len.toNat ≤ rest.length then some (rest.take len.toNat, rest.drop len.toNat) else none
  | [] => none

/-- The three texts of an ITEM payload, which must fill it exactly (R59). -/
def itemTexts (octets : List Byte) : Option (List Byte × List Byte × List Byte) :=
  match takeGlyphs octets with
  | none => none
  | some (venueLabel, afterVenue) =>
    match takeGlyphs afterVenue with
    | none => none
    | some (title, afterTitle) =>
      match takeGlyphs afterTitle with
      | some (detail, []) =>
        if venueLabel.length ≤ 16 ∧ 1 ≤ title.length ∧ title.length ≤ 32 ∧ detail.length ≤ 40 then
          some (venueLabel, title, detail)
        else none
      | _ => none

/-- Read an ITEM payload; malformed as R59 lists. -/
def parseItem : List Byte → Option ItemPayload
  | i1 :: i0 :: v :: s2 :: s1 :: s0 :: e2 :: e1 :: e0 :: cat :: ven :: fl :: lead :: d3 :: d2 ::
      d1 :: d0 :: z1 :: z0 :: texts =>
    if word16 i1 i0 ≠ 0 ∧ word24 s2 s1 s0 ≤ 368639 ∧ word24 e2 e1 e0 ≤ 368639 then
      match Category.ofCode cat.toNat, itemTexts texts with
      | some category, some (venueLabel, title, detail) =>
        some
          { id := word16 i1 i0
            version := v.toNat
            start := word24 s2 s1 s0
            last := word24 e2 e1 e0
            category := category
            venue := ven.toNat
            highlight := fl.getLsbD 0
            cancelled := fl.getLsbD 1
            lead := lead.toNat
            deckMask := BitVec.ofNat 32 (word32 d3 d2 d1 d0)
            zoneMask := BitVec.ofNat 16 (word16 z1 z0)
            venueLabel := venueLabel
            title := title
            detail := detail }
      | _, _ => none
    else none
  | _ => none

/-- The first two clamps of R59: an end before the start becomes the start, an end more than 1440
minutes after it becomes the start plus 1440. -/
def clampedEnd (start last : Nat) : Nat :=
  if last < start then start else if start + 1440 < last then start + 1440 else last

/-- Whether any clamp of R59 applies to a frame. -/
def ItemPayload.clamps (p : ItemPayload) : Bool :=
  decide (clampedEnd p.start p.last ≠ p.last) || (p.highlight && decide (120 < p.lead))

/-- The record a well-formed ITEM frame is made into (R58, R59). -/
def ItemPayload.record (p : ItemPayload) : Item where
  id := p.id
  version := p.version
  start := p.start
  last := clampedEnd p.start p.last
  category := p.category
  venue := p.venue
  venueLabel := p.venueLabel
  title := p.title
  detail := p.detail
  deckMask := p.deckMask
  zoneMask := p.zoneMask
  highlight := if p.highlight then some (min 120 p.lead) else none
  cancelled := p.cancelled

/-- Read a WITHDRAW payload, item id and version; malformed as R66 says. -/
def parseWithdraw : List Byte → Option Tombstone
  | [i1, i0, v] => if word16 i1 i0 = 0 then none else some ⟨word16 i1 i0, v.toNat⟩
  | _ => none

/-! ### QUERY (R177) -/

/-- QUERY payload (R177). -/
structure QueryPayload where
  target : Nat
  item : Nat
  argument : Nat
deriving DecidableEq, Repr

/-- Read a QUERY payload; malformed as R177 says. -/
def parseQuery : List Byte → Option QueryPayload
  | [t1, t0, item, argument] =>
    if 1 ≤ word16 t1 t0 ∧ word16 t1 t0 ≤ 4095 then
      some ⟨word16 t1 t0, item.toNat, argument.toNat⟩
    else none
  | _ => none

/-! ### The check and the frame layout (R164) -/

/-- One bit step of the CRC-16 of polynomial 0x1021. -/
def crcShift (c : BitVec 16) : BitVec 16 :=
  if c.msb then (c <<< 1) ^^^ 0x1021#16 else c <<< 1

/-- The CRC after one more octet. -/
def crcOctet (c : BitVec 16) (o : Byte) : BitVec 16 :=
  crcShift (crcShift (crcShift (crcShift (crcShift (crcShift (crcShift (crcShift
    (c ^^^ (o.setWidth 16 <<< 8)))))))))

/-- The check of a run of octets: initial value 0xFFFF, nothing reflected or inverted (R164). -/
def crc16 (octets : List Byte) : BitVec 16 := octets.foldl crcOctet 0xFFFF#16

/-- The octets of a frame before its check (R164). -/
def frameBody (cls : FrameClass) (f : RxFrame) : List Byte :=
  octets1 cls.code ++ octets1 f.hop ++ octets2 f.sender ++ octets2 f.origin ++
    octets1 f.payload.length ++ f.payload

/-- The octets of a whole frame (R164). -/
def frameOctets (cls : FrameClass) (f : RxFrame) : List Byte :=
  frameBody cls f ++ octets2 (crc16 (frameBody cls f)).toNat

/-- The octets of a frame the node sends. -/
def TxFrame.octets (t : TxFrame) : List Byte :=
  frameOctets t.cls ⟨t.hop, t.sender, t.origin, t.payload⟩

/-- The outcome of tests 1 to 3 of R155 on the octets of a received frame. -/
inductive RawFrame
  | lengthError
  | checkError
  | unknownClass
  | good (cls : FrameClass) (frame : RxFrame)
deriving DecidableEq, Repr

/-- Tests 1, 2 and 3 of R155, in that order. -/
def parseFrame (octets : List Byte) : RawFrame :=
  match octets with
  | c :: h :: s1 :: s0 :: o1 :: o0 :: len :: rest =>
    if 120 < len.toNat ∨ rest.length ≠ len.toNat + 2 then .lengthError
    else if octets2 (crc16 (octets.take (7 + len.toNat))).toNat ≠ rest.drop len.toNat then
      .checkError
    else
      match FrameClass.ofCode c.toNat with
      | none => .unknownClass
      | some cls => .good cls ⟨h.toNat, word16 s1 s0, word16 o1 o0, rest.take len.toNat⟩
  | _ => .lengthError

/-! ### Panel records (R137, R167) -/

/-- The octets of a content; the glyph codes of the part's own texts are free values. -/
def FieldContent.octets : FieldContent → List Byte
  | .text pieces =>
    pieces.flatMap
      (fun p =>
        match p with
        | .octet g => [g]
        | .stock t => Config.glyphCodes (.stock t)
        | .digit d => Config.glyphCodes (.digit d)
        | .arrow b => Config.glyphCodes (.arrow b)
        | .space => Config.glyphCodes .space
        | .colon => Config.glyphCodes .colon
        | .slash => Config.glyphCodes .slash
        | .moreThan => Config.glyphCodes .moreThan
        | .metres => Config.glyphCodes .metres
        | .joint => Config.glyphCodes .joint)
  | .arrow none => octets1 255
  | .arrow (some b) => octets1 b.code
  | .number n => octets2 n
  | .symbol y => octets1 y.code

/-- The octets of a field record (R167). -/
def LoadRecord.octets (r : LoadRecord) : List Byte :=
  let content := if r.blanked then [] else r.content.octets
  octets1 1 ++ octets1 r.num ++ octets1 r.content.kindCode ++ octets1 r.attr.code ++
    octets1 content.length ++ content

/-- The group mask octet of a command record: bit g − 1 for group g (R167). -/
def groupMask (groups : List Nat) : Nat := (groups.map (fun g => 2 ^ (g - 1))).sum

/-- The octets of a command record (R167). -/
def PanelCommand.octets : PanelCommand → List Byte
  | .refreshFull => octets1 2 ++ octets1 0 ++ octets1 0
  | .refreshPartial groups => octets1 2 ++ octets1 1 ++ octets1 (groupMask groups)
  | .show => octets1 2 ++ octets1 2 ++ octets1 0

/-- What a load sends over the panel port (R137). -/
def Load.octets (l : Load) : List Byte := l.records.flatMap LoadRecord.octets ++ l.command.octets

end Sys2Proof.Machine
end

