-- ==== Sys2Proof/Machine/Flags.lean ====
section
/-! DEFINITION. The outputs that follow from state: the blink generator, the lamp line and the fault
line of the indicator unit (R180, R181). -/

namespace Sys2Proof.Machine

/-- The blink generator: on while the node clock modulo the period is below the on-time (R180). -/
def State.blinkOn (s : State) : Bool :=
  decide (s.clock % s.cfg.blinkPeriod < s.cfg.blinkOnTime)

/-- What the lamp line shows at a level (the table of R180). -/
def State.lampFor (s : State) (level : Level) : Bool :=
  match level with
  | .normal => false
  | .alert => true
  | .general => s.blinkOn
  | .abandon => decide (s.clock % (s.cfg.blinkPeriod / 2) < s.cfg.blinkOnTime / 2)

/-- The condition of the fault line (R181). -/
def State.faultCondition (s : State) : Bool :=
  decide (s.start.lifecycle = .configFault) ||
    (decide (s.panel.kind = .paper) &&
      (decide (s.panel.state = .faultWait) || decide (s.panel.state = .dead))) ||
    (s.ports.a.inUse && decide (s.ports.a.state = .down)) ||
    (s.ports.b.inUse && decide (s.ports.b.state = .down))

/-- The indicator unit works the fault line out afresh (R181). -/
def State.updateFault (s : State) : State :=
  { s with ind := { s.ind with fault := s.faultCondition } }

/-- The indicator unit takes a level: it drives the lamp line for it (R180). -/
def State.indicatorTakes (s : State) (level : Level) : State :=
  { s with ind := { s.ind with level := level, lamp := s.lampFor level } }

end Sys2Proof.Machine
end

