-- ==== Sys2Proof/Machine/Queue.lean ====
section
/-! DEFINITION. The transmit queue of a port: requests, the full queue, the advertisement token, and
what returns to it (R153, R154, R157, R158, R159, R160). -/

namespace Sys2Proof.Machine

/-- The most entries a transmit queue holds (R152). -/
def queueCap : Nat := 16

/-- The queue order: by class code, and within a class the oldest first (R158). -/
def QueueEntry.before (x y : QueueEntry) : Bool :=
  decide (x.cls.code < y.cls.code) || (decide (x.cls.code = y.cls.code) && decide (x.age < y.age))

/-- Two entries of the same class and key. -/
def QueueEntry.sameKey (x y : QueueEntry) : Bool :=
  decide (x.cls = y.cls) && decide (x.key = y.key)

/-- Put an entry at its place by class and age. -/
def enqueue (e : QueueEntry) (q : List QueueEntry) : List QueueEntry :=
  insertBy QueueEntry.before e q

/-- The result of a token request on a queued token (R160). -/
def mergeToken (queued requested : TokenKind) : TokenKind :=
  match queued, requested with
  | .full c, _ => .full c
  | .triggered, .full _ => .full 1
  | .triggered, .triggered => .triggered

/-- What a queued entry holds after a request of its class and key: the newer content in place, or for
the token the result of R160. -/
def mergeContent (queued requested : QueueContent) : QueueContent :=
  match queued, requested with
  | .token k, .token r => .token (mergeToken k r)
  | .token k, .fixed _ => .token k
  | .token k, .beacon => .token k
  | .fixed _, c => c
  | .beacon, c => c

/-- The queue without its last entry, the youngest of the highest class. -/
def dropYoungest (q : List QueueEntry) : List QueueEntry := q.dropLast

/-- The highest class code queued; 0 for an empty queue. -/
def highestClass (q : List QueueEntry) : Nat :=
  match q.getLast? with
  | none => 0
  | some e => e.cls.code

/-- A request to queue an entry on a port that is in use and UP, by cases 3 to 5 of R158 and R159. -/
def PortCtl.join (c : PortCtl) (cls : FrameClass) (key : QueueKey) (content : QueueContent) :
    PortCtl :=
  let e : QueueEntry := ⟨cls, key, c.nextAge, content⟩
  if c.queue.any (QueueEntry.sameKey e) then
    { c with
      queue := c.queue.map
        (fun x => if e.sameKey x then { x with content := mergeContent x.content content } else x) }
  else if c.queue.length < queueCap then
    { c with queue := enqueue e c.queue, nextAge := c.nextAge + 1 }
  else if cls.code < highestClass c.queue then
    { c with
      queue := enqueue e (dropYoungest c.queue)
      nextAge := c.nextAge + 1
      queueDrops := bump c.queueDrops }
  else { c with queueDrops := bump c.queueDrops }

/-- A request to queue an entry on a port (R158): refused out of use, outside OPERATING, or while DOWN. -/
def State.request (s : State) (p : Port) (cls : FrameClass) (key : QueueKey)
    (content : QueueContent) : State :=
  let c := s.ports.get p
  if c.inUse = false ∨ s.start.lifecycle ≠ .operating then s
  else if c.state = .down then s.putPort p { c with refusedWhileDown := bump c.refusedWhileDown }
  else s.putPort p (c.join cls key content)

/-- A request for an advertisement token (R160). -/
def State.requestToken (s : State) (p : Port) (kind : TokenKind) : State :=
  s.request p .advert .token (.token kind)

/-- A frame this node originates: sender and origin this node, hop limit 0. -/
def State.ownFrame (s : State) (cls : FrameClass) (payload : List Byte) : TxFrame :=
  { cls := cls, hop := 0, sender := s.cfg.nodeNumber, origin := s.cfg.nodeNumber, payload := payload }

/-- Request a frame this node originates on a port. -/
def State.requestOwn (s : State) (p : Port) (cls : FrameClass) (key : QueueKey)
    (payload : List Byte) : State :=
  s.request p cls key (.fixed (s.ownFrame cls payload))

/-- An entry returns to the queue with its original age (R153): where an entry of the same class and key
is queued, that entry becomes what `met` makes of it; otherwise it joins by class and age, and of 17
entries the youngest of the highest class is dropped and counted. -/
def PortCtl.putBack (c : PortCtl) (e : QueueEntry) (met : QueueEntry → QueueEntry) : PortCtl :=
  match c.queue.find? (QueueEntry.sameKey e) with
  | some x => { c with queue := enqueue (met x) (c.queue.filter (fun y => !e.sameKey y)) }
  | none =>
    if c.queue.length < queueCap then { c with queue := enqueue e c.queue }
    else { c with queue := dropYoungest (enqueue e c.queue), queueDrops := bump c.queueDrops }

/-- The in-flight frame returns: a queued entry of its key keeps its content and takes the frame's age
(R153); an ADVERT frame returns through its token, which takes the older age and, for a FULL round, goes
back to the first id of the lost frame (R162; DEDUCED, log entry 26). -/
def PortCtl.returnFlight (c : PortCtl) (f : InFlight) : PortCtl :=
  match f.source with
  | .fixed =>
    c.putBack ⟨f.frame.cls, f.key, f.age, .fixed f.frame⟩ (fun x => { x with age := f.age })
  | .beacon => c.putBack ⟨f.frame.cls, f.key, f.age, .beacon⟩ (fun x => { x with age := f.age })
  | .fullToken first =>
    c.putBack ⟨f.frame.cls, f.key, f.age, .token (.full first)⟩
      (fun x => { x with age := min x.age f.age, content := .token (.full first) })
  | .triggeredToken =>
    c.putBack ⟨f.frame.cls, f.key, f.age, .token .triggered⟩
      (fun x => { x with age := min x.age f.age })

/-- A port enters DOWN (R154): the queue is emptied, each entry counted as lost, both run counts become
0 and the entry is counted. -/
def PortCtl.goDown (c : PortCtl) : PortCtl :=
  { c with
    state := .down
    queue := []
    lostAtDown := bumpBy c.lostAtDown c.queue.length
    faultRun := 0
    goodRun := 0
    downEntries := bump c.downEntries }

/-- A received frame passes the length and check tests (R154): in UP the fault run becomes 0; in DOWN the
good-frame run rises, and the fourth brings the port UP and tells the indicator unit. -/
def State.noteGood (s : State) (p : Port) : State :=
  let c := s.ports.get p
  match c.state with
  | .up => s.putPort p { c with faultRun := 0 }
  | .down =>
    if 3 ≤ c.goodRun then
      (s.putPort p { c with state := .up, faultRun := 0, goodRun := 0 }).updateFault
    else s.putPort p { c with goodRun := c.goodRun + 1 }

/-- A received frame fails the length or the check test: a DOWN port's good-frame run becomes 0 (R154). -/
def State.noteBad (s : State) (p : Port) : State :=
  let c := s.ports.get p
  match c.state with
  | .up => s
  | .down => s.putPort p { c with goodRun := 0 }

/-- The queue key of a relayed flood frame (the class table of chapter 10); the payload has passed its
tests. -/
def relayKey (cls : FrameClass) (f : RxFrame) : QueueKey :=
  match cls, f.payload with
  | .zone, n :: _ => .zoneReport f.origin n.toNat
  | .reassign, _ :: _ :: z :: k :: _ => .place z.toNat k.toNat
  | .item, i1 :: i0 :: _ => .itemId (word16 i1 i0)
  | .withdraw, i1 :: i0 :: _ => .itemId (word16 i1 i0)
  | _, _ => .whole

/-- Relay a flood frame that was accepted as a change, where the conditions of R157 hold. -/
def State.relay (s : State) (p : Port) (cls : FrameClass) (f : RxFrame) (changed : Bool) : State :=
  if s.cfg.role = .stair ∧ s.ports.a.inUse = true ∧ s.ports.b.inUse = true ∧
      s.start.lifecycle = .operating ∧ changed = true ∧ 0 < f.hop then
    let s := { s with bus := { s.bus with relayedCopies := bump s.bus.relayedCopies } }
    s.request (otherPort p) cls (relayKey cls f)
      (.fixed ⟨cls, f.hop - 1, s.cfg.nodeNumber, f.origin, f.payload⟩)
  else s

end Sys2Proof.Machine
end

