-- ==== Sys2Proof/Machine/Image.lean ====
section
/-! DEFINITION. The configuration image: its check, its structural tests, its clamps and the
configuration copy they give (R168, R170, R171, R172). -/

namespace Sys2Proof.Machine

/-- Octets in a configuration image (R168). -/
def imageLength : Nat := 496

/-- Octet i of the image. -/
def imageOctet (image : List Byte) (i : Nat) : Nat := (image.getD i 0#8).toNat

/-- Two octets of the image from octet i. -/
def imageWord (image : List Byte) (i : Nat) : Nat :=
  imageOctet image i * 256 + imageOctet image (i + 1)

/-- Four octets of the image from octet i. -/
def imageLong (image : List Byte) (i : Nat) : Nat :=
  imageWord image i * 65536 + imageWord image (i + 2)

/-- Glyphs of the image: n octets from octet i. -/
def imageGlyphs (image : List Byte) (i n : Nat) : List Byte := (image.drop i).take n

/-- The sum of the words a list of octets makes, each taken high octet first. -/
def wordSum : List Byte → Nat
  | hi :: lo :: rest => word16 hi lo + wordSum rest
  | _ => 0

/-- The check of R170: the sum modulo 65536 of the 247 words of octets 0..493 equals the last word. -/
def imageCheckGood (image : List Byte) : Bool :=
  decide (wordSum (image.take 494) % 65536 = imageWord image 494)

/-- The structural tests of R171 that are made before the clamps. -/
def structureGood (image : List Byte) : Bool :=
  decide (imageOctet image 7 ≤ 6) && decide (imageOctet image 8 ≤ 2) &&
    decide (imageOctet image 9 ≤ 16) && decide (imageOctet image 10 ≤ 4) &&
    decide (imageOctet image 11 ≤ 2) &&
    decide (1 ≤ imageWord image 0 ∧ imageWord image 0 ≤ 4095)

/-- The cabins from first to last inclusive. -/
def rangeCabins (r : Nat × Nat) : List Nat := List.range' r.1 (r.2 + 1 - r.1)

/-- The distinct cabin numbers of the sweep ranges in ascending order (R92); an image gives at most two
ranges. -/
def tallyCabins : List (Nat × Nat) → List Nat
  | [] => []
  | [r] => rangeCabins r
  | r1 :: r2 :: _ =>
    let low := if r1.1 ≤ r2.1 then r1 else r2
    let high := if r1.1 ≤ r2.1 then r2 else r1
    rangeCabins low ++ rangeCabins (max high.1 (low.2 + 1), high.2)

/-! ### Clamping (R172)

A clamped reading is a value with the count of the fields moved so far. -/

/-- A reading that counts the fields it moves into range. -/
abbrev Clamp := StateM Nat

/-- Bring a field into lo..hi; each field moved raises the count by one. -/
def clampTo (lo hi v : Nat) : Clamp Nat := fun n =>
  if v < lo then (lo, n + 1) else if hi < v then (hi, n + 1) else (v, n)

/-- Read one neighbour slot (R168). Of the octet of the boundary flag bit 0 alone is read (DESIGN CHOICE, log
entry 37). -/
def readNeighbour (image : List Byte) (i : Nat) : Clamp NeighbourCfg := do
  let at' := 12 + 10 * i
  let node ← clampTo 1 4095 (imageWord image at')
  let port ← clampTo 0 1 (imageOctet image (at' + 2))
  let distance ← clampTo 1 2000 (imageWord image (at' + 3))
  let kind ← clampTo 0 2 (imageOctet image (at' + 5))
  let zone ← clampTo 1 15 (imageOctet image (at' + 7))
  let deck ← clampTo 0 31 (imageOctet image (at' + 8))
  let bearing ← clampTo 0 9 (imageOctet image (at' + 9))
  return {
    node := node
    port := portOfCode port
    distance := distance
    kind := LinkKind.ofCode kind
    boundary := (imageOctet image (at' + 6)).testBit 0
    zone := zone
    deck := deck
    bearing := Bearing.ofCode bearing }

/-- The destination kind of a clamped code. -/
def clampedKind (code : Nat) : DestKind := (DestKind.ofCode code).getD .venue

/-- Read one anchored destination. -/
def readAnchored (image : List Byte) (i : Nat) : Clamp AnchoredCfg := do
  let dest ← clampTo 1 255 (imageOctet image (72 + 2 * i))
  let kind ← clampTo 0 2 (imageOctet image (73 + 2 * i))
  return { dest := dest, kind := clampedKind kind }

/-- Read one label-table entry. -/
def readLabel (image : List Byte) (i : Nat) : Clamp LabelCfg := do
  let at' := 80 + 13 * i
  let dest ← clampTo 1 255 (imageOctet image at')
  let kind ← clampTo 0 2 (imageOctet image (at' + 1))
  let deck ← clampTo 0 31 (imageOctet image (at' + 2))
  let zone ← clampTo 1 15 (imageOctet image (at' + 3))
  let len ← clampTo 0 8 (imageOctet image (at' + 4))
  return {
    dest := dest
    kind := clampedKind kind
    deck := deck
    zone := zone
    label := imageGlyphs image (at' + 5) len }

/-- Read one signposted destination. -/
def readSignpost (image : List Byte) (i : Nat) : Clamp SignpostCfg := do
  let at' := 288 + 18 * i
  let dest ← clampTo 1 255 (imageOctet image at')
  let len ← clampTo 0 16 (imageOctet image (at' + 1))
  return { dest := dest, label := imageGlyphs image (at' + 2) len }

/-- Read one sweep range; a first cabin above the last is exchanged with it, one clamp (R172). The two are
compared as clamped (DESIGN CHOICE, log entry 38). -/
def readRange (image : List Byte) (i : Nat) : Clamp (Nat × Nat) := do
  let first ← clampTo 1 9999 (imageWord image (389 + 4 * i))
  let last ← clampTo 1 9999 (imageWord image (391 + 4 * i))
  if last < first then
    modify (· + 1)
    return (last, first)
  else
    return (first, last)

/-- Read one input line. -/
def readLine (image : List Byte) (i : Nat) : Clamp LineCfg := do
  let function ← clampTo 0 7 (imageOctet image (397 + 3 * i))
  let edge ← clampTo 0 2 (imageOctet image (398 + 3 * i))
  return {
    function := LineFunction.ofCode function
    edge := ActiveEdge.ofCode edge
    debounce := imageOctet image (399 + 3 * i) }

/-- Bring a factor argument into the range its factor gives it (R110); a factor without an argument
reads none. -/
def clampFactorArg (f : Factor) (v : Nat) : Clamp Nat :=
  match f with
  | .none => pure 0
  | .minute => clampTo 0 1439 v
  | .programmeLead => pure 0
  | .input => clampTo 0 7 v
  | .alarmChange => clampTo 0 3 v
  | .routeChange => clampTo 0 255 v
  | .timer => clampTo 0 1 v

/-- Bring an action argument into the range its action gives it (section 7.3). A mask is not clamped (R172): of
its two octets bit n is read as the mark of set n, and the bits above 3 are not read (DESIGN CHOICE, log
entry 41). -/
def clampActionArg (x : Action) (v : Nat) : Clamp Nat :=
  match x with
  | .none => pure 0
  | .showPage => clampTo 0 2 v
  | .capture => clampTo 0 3 v
  | .timerStart => clampTo 0 1 v
  | .timerStop => clampTo 0 1 v
  | .luminance => clampTo 0 1023 v
  | .quietEnter => pure 0
  | .quietLeave => pure 0
  | .enableSets => pure (v % 16)
  | .disableSets => pure (v % 16)

/-- Read one trigger set. -/
def readTrigger (image : List Byte) (i : Nat) : Clamp TriggerCfg := do
  let at' := 421 + 8 * i
  let factor ← clampTo 0 6 (imageOctet image at')
  let factorArg ← clampFactorArg (Factor.ofCode factor) (imageWord image (at' + 1))
  let action ← clampTo 0 9 (imageOctet image (at' + 3))
  let actionArg ← clampActionArg (Action.ofCode action) (imageWord image (at' + 4))
  let flags := imageOctet image (at' + 7)
  return {
    factor := Factor.ofCode factor
    factorArg := factorArg
    action := Action.ofCode action
    actionArg := actionArg
    chain := BitVec.ofNat 4 (imageOctet image (at' + 6))
    repeats := flags.testBit 0
    normalOnly := flags.testBit 1
    enabledAtStart := flags.testBit 2 }

/-- Read one interval timer. -/
def readTimer (image : List Byte) (i : Nat) : Clamp TimerCfg := do
  let terminal ← clampTo 1 65535 (imageWord image (453 + 3 * i))
  let mode ← clampTo 0 1 (imageOctet image (455 + 3 * i))
  return { terminal := terminal, mode := TimerMode.ofCode mode }

/-- Read the panel parameters (chapter 9). -/
def readPanel (image : List Byte) : Clamp PanelCfg := do
  let groupCount ← clampTo 1 4 (imageOctet image 459)
  let windowCount ← clampTo 2 8 (imageOctet image 460)
  let windowSeconds ← clampTo 10 3600 (imageWord image 461)
  let gapAnyMicros ← clampTo 0 60000000 (imageLong image 463)
  let gapAnyFrames ← clampTo 0 600 (imageWord image 467)
  let gapSameMicros ← clampTo 0 60000000 (imageLong image 469)
  let gapSameFrames ← clampTo 0 600 (imageWord image 473)
  let framePeriodMicros ← clampTo 1000 100000 (imageLong image 475)
  let ghostLimit ← clampTo 1 32 (imageOctet image 479)
  let refreshTimeout ← clampTo 1 30 (imageOctet image 480)
  let dayLevel ← clampTo 0 1023 (imageWord image 481)
  let nightLevel ← clampTo 0 1023 (imageWord image 483)
  let rampInitial ← clampTo 1 255 (imageOctet image 485)
  let rampAcceleration ← clampTo 0 63 (imageOctet image 486)
  let rampMaximum ← clampTo 1 1023 (imageWord image 487)
  return {
    groupCount := groupCount
    windowCount := windowCount
    windowSeconds := windowSeconds
    gapAnyMicros := gapAnyMicros
    gapAnyFrames := gapAnyFrames
    gapSameMicros := gapSameMicros
    gapSameFrames := gapSameFrames
    framePeriodMicros := framePeriodMicros
    ghostLimit := ghostLimit
    refreshTimeout := refreshTimeout
    dayLevel := dayLevel
    nightLevel := nightLevel
    rampInitial := rampInitial
    rampAcceleration := rampAcceleration
    rampMaximum := rampMaximum }

/-- The sweep ranges are read for the roles that use them alone (R172). -/
def readRanges (image : List Byte) (role : Role) : Clamp (List (Nat × Nat)) :=
  match role with
  | .corridor => (List.range (imageOctet image 11)).mapM (readRange image)
  | .stair => (List.range (imageOctet image 11)).mapM (readRange image)
  | .cabin => pure []
  | .assembly => pure []

/-- The cabin number is read for the role that uses it alone (R172). -/
def readCabinNumber (image : List Byte) (role : Role) : Clamp Nat :=
  match role with
  | .corridor => pure 0
  | .stair => pure 0
  | .cabin => clampTo 1 9999 (imageWord image 387)
  | .assembly => pure 0

/-- The configuration copy of an image without a structural error, with its clamps counted (R168,
R172). -/
def readConfig (image : List Byte) : Clamp ConfigCopy := do
  let deck ← clampTo 0 31 (imageOctet image 2)
  let zone ← clampTo 1 15 (imageOctet image 3)
  let roleCode ← clampTo 0 3 (imageOctet image 4)
  let portsCode ← clampTo 0 1 (imageOctet image 5)
  let rateCode ← clampTo 0 1 (imageOctet image 6)
  let neighbours ← (List.range (imageOctet image 7)).mapM (readNeighbour image)
  let anchored ← (List.range (imageOctet image 8)).mapM (readAnchored image)
  let labels ← (List.range (imageOctet image 9)).mapM (readLabel image)
  let signposted ← (List.range (imageOctet image 10)).mapM (readSignpost image)
  let sweepRanges ← readRanges image (Role.ofCode roleCode)
  let stairUpFactor ← clampTo 8 32 (imageOctet image 360)
  let stairDownFactor ← clampTo 8 32 (imageOctet image 361)
  let cautionPenalty ← clampTo 0 5000 (imageWord image 362)
  let boundaryPenalty ← clampTo 0 500 (imageWord image 364)
  let hysteresis ← clampTo 0 255 (imageOctet image 366)
  let advertInterval ← clampTo 2 60 (imageOctet image 367)
  let triggeredThreshold ← clampTo 0 1000 (imageWord image 368)
  let triggeredGap ← clampTo 100 5000 (imageWord image 370)
  let holdDown ← clampTo 0 30 (imageOctet image 372)
  let returnDelay ← clampTo 0 120 (imageOctet image 373)
  let beaconInterval ← clampTo 1 60 (imageOctet image 374)
  let slewWindow ← clampTo 1 1000 (imageWord image 375)
  let transitAllowance ← clampTo 0 20 (imageOctet image 377)
  let staleLimit ← clampTo 10 1440 (imageWord image 378)
  let lookahead ← clampTo 0 720 (imageWord image 380)
  let linesPerPage ← clampTo 3 8 (imageOctet image 382)
  let dwell ← clampTo 2 60 (imageOctet image 383)
  let spotlightDwell ← clampTo 2 60 (imageOctet image 384)
  let presenceDwell ← clampTo 10 600 (imageWord image 385)
  let cabinNumber ← readCabinNumber image (Role.ofCode roleCode)
  let lines ← (List.range 8).mapM (readLine image)
  let triggers ← (List.range 4).mapM (readTrigger image)
  let timers ← (List.range 2).mapM (readTimer image)
  let panel ← readPanel image
  let blinkPeriod ← clampTo 100 5000 (imageWord image 489)
  let blinkOnTime ← clampTo 50 (blinkPeriod - 50) (imageWord image 491)
  let listenPeriod ← clampTo 2 60 (imageOctet image 493)
  return {
    nodeNumber := imageWord image 0
    deck := deck
    zone := zone
    role := Role.ofCode roleCode
    bothPorts := decide (portsCode = 1)
    bitRate := BitRate.ofCode rateCode
    neighbours := neighbours
    anchored := anchored
    labels := labels
    signposted := signposted
    sweepRanges := sweepRanges
    assemblyPrimary := imageOctet image 76
    assemblyAlternate := imageOctet image 77
    embarkPrimary := imageOctet image 78
    embarkAlternate := imageOctet image 79
    stairUpFactor := stairUpFactor
    stairDownFactor := stairDownFactor
    cautionPenalty := cautionPenalty
    boundaryPenalty := boundaryPenalty
    hysteresis := hysteresis
    advertInterval := advertInterval
    triggeredThreshold := triggeredThreshold
    triggeredGap := triggeredGap
    holdDown := holdDown
    returnDelay := returnDelay
    beaconInterval := beaconInterval
    slewWindow := slewWindow
    transitAllowance := transitAllowance
    staleLimit := staleLimit
    lookahead := lookahead
    linesPerPage := linesPerPage
    dwell := dwell
    spotlightDwell := spotlightDwell
    presenceDwell := presenceDwell
    cabinNumber := cabinNumber
    lines := lines
    triggers := triggers
    timers := timers
    panel := panel
    blinkPeriod := blinkPeriod
    blinkOnTime := blinkOnTime
    listenPeriod := listenPeriod }

/-- What the read of an image comes to (R170, R171). -/
inductive ImageResult
  | checkFailed
  | structuralError
  | good (config : ConfigCopy) (clamps : Nat)
deriving DecidableEq, Repr

/-- The check, the structural tests, the clamps, and last the test of the sweep ranges (R170, R171;
DEDUCED, log entry 25). -/
def readImage (image : List Byte) : ImageResult :=
  if imageCheckGood image then
    if structureGood image then
      match readConfig image 0 with
      | (config, clamps) =>
        if (tallyCabins config.sweepRanges).length ≤ 64 then .good config clamps
        else .structuralError
    else .structuralError
  else .checkFailed

end Sys2Proof.Machine
end

