-- ==== Sys2Proof/Machine/Panel.lean ====
section
/-! DEFINITION. The panel controller (chapter 9): hand-overs and requests, spacing and the window, the
choice and start of a refresh, completions and timeouts, LIT loads and luminance. -/

namespace Sys2Proof.Machine

/-- What the panel controller reads beside its own state. -/
structure PanelEnv where
  cfg : PanelCfg
  now : Nat
  /-- the busy input is high -/
  busy : Bool
  /-- the blink generator is on -/
  blinkOn : Bool
deriving DecidableEq, Repr

/-- The panel controller's readings at a state. -/
def State.panelEnv (s : State) : PanelEnv := ⟨s.panelCfg, s.clock, s.pins.busy, s.blinkOn⟩

/-- Let the panel controller work on its own state. -/
def State.panelDo (s : State) (f : PanelEnv → PanelCtl → PanelCtl) : State :=
  { s with panel := f s.panelEnv s.panel }

/-! ### Regions, groups and field tables (R127, R137, R138) -/

/-- A list without repeats, keeping first appearances. -/
def distinct : List Nat → List Nat
  | [] => []
  | x :: xs => x :: (distinct xs).filter (fun y => decide (y ≠ x))

/-- The groups of a field: region r belongs to group min(r, g) (R127). -/
def groupsOfRegions (groupCount : Nat) (regions : List Nat) : List Nat :=
  distinct (regions.map (fun r => min r groupCount))

/-- The blank record of a field number with no entry in the held field table (R137). -/
def blankRecord (n : Nat) : FieldRecord := ⟨n, .normal, .text [], []⟩

/-- The held record of a field number, or the blank one. -/
def PanelCtl.recordOf (p : PanelCtl) (n : Nat) : FieldRecord :=
  match p.held.find? (fun h => h.record.num == n) with
  | some h => h.record
  | none => blankRecord n

/-- The groups of a held field number; none for a number with no entry. -/
def PanelCtl.groupsOf (p : PanelCtl) (n : Nat) : List Nat :=
  match p.held.find? (fun h => h.record.num == n) with
  | some h => h.groups
  | none => []

/-- Replace or add a held field. -/
def holdField (h : HeldField) (t : List HeldField) : List HeldField :=
  insertBy (fun x y => decide (x.record.num < y.record.num)) h
    (t.filter (fun x => decide (x.record.num ≠ h.record.num)))

/-- Replace or add a pending field. -/
def pendField (f : PendingField) (t : List PendingField) : List PendingField :=
  insertBy (fun x y => decide (x.num < y.num)) f (t.filter (fun x => decide (x.num ≠ f.num)))

/-- Every field number 0..31 pending, each with its groups (R138, R147). -/
def PanelCtl.allPending (p : PanelCtl) : List PendingField :=
  (List.range 32).map (fun n => ⟨n, p.groupsOf n⟩)

/-! ### Spacing and window (R141, R142) -/

/-- The effective spacing in ms of a time and frame count pair (R141). -/
def effectiveGap (micros frames framePeriod : Nat) : Nat :=
  max ((micros + 999) / 1000) ((frames * framePeriod + 999) / 1000)

/-- gap_any has passed (R141); no last completion counts as passed (R140). -/
def PanelCtl.gapAnyPassed (e : PanelEnv) (p : PanelCtl) : Bool :=
  match p.lastCompletion with
  | none => true
  | some t =>
    decide (t + effectiveGap e.cfg.gapAnyMicros e.cfg.gapAnyFrames e.cfg.framePeriodMicros ≤ e.now)

/-- The record of a group 1..4. -/
def PanelCtl.groupRecord (p : PanelCtl) (g : Nat) : GroupRecord := p.groups.getD (g - 1) ⟨0, none⟩

/-- gap_same has passed for a group (R141). -/
def PanelCtl.gapSamePassed (e : PanelEnv) (p : PanelCtl) (g : Nat) : Bool :=
  match (p.groupRecord g).lastStart with
  | none => true
  | some t =>
    decide
      (t + effectiveGap e.cfg.gapSameMicros e.cfg.gapSameFrames e.cfg.framePeriodMicros ≤ e.now)

/-- The window entries that count: now is earlier than the start plus T_W (R142). -/
def PanelCtl.countingEntries (e : PanelEnv) (p : PanelCtl) : List WindowEntry :=
  p.window.filter (fun w => decide (e.now < w.start + e.cfg.windowSeconds * 1000))

/-- The window count (R142). -/
def PanelCtl.windowCount (e : PanelEnv) (p : PanelCtl) : Nat := (p.countingEntries e).length

/-- Reading the list removes the entries that no longer count (R142). -/
def PanelCtl.pruneWindow (e : PanelEnv) (p : PanelCtl) : PanelCtl :=
  { p with window := p.countingEntries e }

/-! ### Choosing (R143, R144) -/

/-- Quiet is in effect and the held level is below GENERAL (R143). -/
def PanelCtl.quietDefers (p : PanelCtl) : Bool := p.quiet && !p.level.emergency

/-- A FULL request is deferred (R143). -/
def PanelCtl.defersFull (p : PanelCtl) (r : FullRequest) : Bool :=
  p.quietDefers && !r.urgent && !r.forced

/-- A PARTIAL request is deferred (R143). -/
def PanelCtl.defersPartial (p : PanelCtl) (r : PartialRequest) : Bool :=
  p.quietDefers && !r.urgent && !r.exempt

/-- The groups of a mask with every group a pending field links to one of them (R144). -/
def growMask (pending : List PendingField) (mask : List Nat) : List Nat :=
  [1, 2, 3, 4].filter
    (fun g =>
      mask.contains g ||
        pending.any (fun f => f.groups.contains g && f.groups.any (fun h => mask.contains h)))

/-- The group mask of the partial refresh serving a group's request (R144). Three growths reach every
linked group of four. -/
def PanelCtl.maskOf (p : PanelCtl) (g : Nat) : List Nat :=
  growMask p.pending (growMask p.pending (growMask p.pending [g]))

/-- The partial refresh serving a group's request is startable (R144). -/
def PanelCtl.startable (e : PanelEnv) (p : PanelCtl) (g : Nat) : Bool :=
  (p.maskOf g).all (fun h => p.gapSamePassed e h)

/-- A partial is urgent when any request in its mask is urgent (R144). -/
def PanelCtl.maskUrgent (p : PanelCtl) (mask : List Nat) : Bool :=
  p.partials.any (fun r => r.urgent && mask.contains r.group)

/-- The order in which startable PARTIAL requests are taken: urgent first, then the earliest request
time, then the lowest group (R144). -/
def PartialRequest.before (x y : PartialRequest) : Bool :=
  if x.urgent != y.urgent then x.urgent
  else if x.time ≠ y.time then decide (x.time < y.time)
  else decide (x.group < y.group)

/-- A refresh the choice of R144 yields. -/
inductive RefreshChoice
  | full (urgent : Bool)
  | partials (mask : List Nat) (urgent : Bool)
deriving DecidableEq, Repr

/-- Step 5 of R144: the PARTIAL request served next. -/
def PanelCtl.choosePartial (e : PanelEnv) (p : PanelCtl) : Option RefreshChoice :=
  match leastBy PartialRequest.before
      (p.partials.filter (fun r => !p.defersPartial r && p.startable e r.group)) with
  | none => none
  | some r => some (.partials (p.maskOf r.group) (p.maskUrgent (p.maskOf r.group)))

/-- Step 4 of R144: an urgent PARTIAL request of two or more groups that is not startable. -/
def PanelCtl.converts (e : PanelEnv) (p : PanelCtl) : Bool :=
  p.partials.any
    (fun r => r.urgent && decide (2 ≤ (p.maskOf r.group).length) && !p.startable e r.group)

/-- The choice of the next refresh (R144). -/
def PanelCtl.choose (e : PanelEnv) (p : PanelCtl) : Option RefreshChoice :=
  let count := p.windowCount e
  match p.full with
  | some r =>
    if r.urgent = true ∧ count < e.cfg.windowCount then some (.full true)
    else if r.forced = true ∧ count < e.cfg.windowCount - 1 then some (.full false)
    else if p.defersFull r = false then
      if count < e.cfg.windowCount - 1 then some (.full false) else none
    else p.choosePartial e
  | none =>
    if count < e.cfg.windowCount ∧ p.converts e = true then some (.full true)
    else p.choosePartial e

/-! ### Loads and starts (R137, R145) -/

/-- A record as a load sends it on a PAPER panel. -/
def FieldRecord.toLoad (r : FieldRecord) : LoadRecord := ⟨r.num, r.attr, r.content, false⟩

/-- A record as a load sends it on a LIT panel: a BLINK record goes out with content length 0 while the
generator is off (R180). -/
def FieldRecord.toLitLoad (blinkOn : Bool) (r : FieldRecord) : LoadRecord :=
  ⟨r.num, r.attr, r.content, decide (r.attr = .blink) && !blinkOn⟩

/-- Start a full refresh (R145); urgent when chosen at step 1. -/
def PanelCtl.startFull (e : PanelEnv) (p : PanelCtl) (urgent : Bool) : PanelCtl :=
  let forced := match p.full with
    | some r => r.forced
    | none => false
  { p with
    state := .sending
    load := some ⟨(List.range 32).map (fun n => (p.recordOf n).toLoad), .refreshFull⟩
    fellInLoad := false
    refreshUrgent := urgent
    window := p.window ++ [⟨e.now, urgent⟩]
    full := none
    partials := []
    pending := []
    groups := p.groups.map (fun g => { g with partialCount := 0 })
    busyWatch := none
    fullRefreshes := bump p.fullRefreshes
    forcedFullRefreshes := if forced then bump p.forcedFullRefreshes else p.forcedFullRefreshes }

/-- Whether a pending field is carried by a partial refresh: its groups all lie in the mask (R145;
DEDUCED, log entry 20). -/
def PendingField.within (mask : List Nat) (f : PendingField) : Bool :=
  f.groups.all (fun g => mask.contains g)

/-- The group records after a partial refresh of a mask starts (R145). -/
def raiseGroups (now : Nat) (mask : List Nat) (groups : List GroupRecord) : List GroupRecord :=
  groups.mapIdx
    (fun i g => if mask.contains (i + 1) then ⟨g.partialCount + 1, some now⟩ else g)

/-- A forced FULL request, made when a group's partial count has reached the ghost limit (R145). -/
def forceFull (limit : Nat) (groups : List GroupRecord) (full : Option FullRequest) :
    Option FullRequest :=
  if groups.any (fun g => decide (limit ≤ g.partialCount)) then
    match full with
    | some r => some { r with forced := true }
    | none => some ⟨false, true⟩
  else full

/-- Start a partial refresh of a mask (R145). -/
def PanelCtl.startPartial (e : PanelEnv) (p : PanelCtl) (mask : List Nat) (urgent : Bool) :
    PanelCtl :=
  let groups := raiseGroups e.now mask p.groups
  { p with
    state := .sending
    load := some
      ⟨(p.pending.filter (PendingField.within mask)).map (fun f => (p.recordOf f.num).toLoad),
        .refreshPartial mask⟩
    fellInLoad := false
    refreshUrgent := urgent
    full := forceFull e.cfg.ghostLimit groups p.full
    partials := p.partials.filter (fun r => !mask.contains r.group)
    pending := p.pending.filter (fun f => !f.within mask)
    groups := groups
    busyWatch := none
    partialRefreshes := bump p.partialRefreshes }

/-- Test for a refresh choice on a PAPER panel (R144): the state is IDLE, busy is low and gap_any has
passed; the choice taken starts at once. -/
def PanelCtl.tryChoice (e : PanelEnv) (p : PanelCtl) : PanelCtl :=
  if p.kind = .paper ∧ p.state = .idle ∧ e.busy = false ∧ p.gapAnyPassed e = true then
    let p := p.pruneWindow e
    match p.choose e with
    | none => p
    | some (.full urgent) => p.startFull e urgent
    | some (.partials mask urgent) => p.startPartial e mask urgent
  else p

/-- Begin a LIT load from the pending load (R148): full after a page change, else the pending fields. -/
def PanelCtl.beginLit (e : PanelEnv) (p : PanelCtl) : PanelCtl :=
  if p.pageMark then
    { p with
      state := .sending
      load := some
        ⟨(List.range 32).map (fun n => (p.recordOf n).toLitLoad e.blinkOn), .show⟩
      pending := []
      pageMark := false
      fullRefreshes := bump p.fullRefreshes }
  else
    { p with
      state := .sending
      load := some ⟨p.pending.map (fun f => (p.recordOf f.num).toLitLoad e.blinkOn), .show⟩
      pending := []
      partialRefreshes := bump p.partialRefreshes }

/-- A LIT panel in IDLE with a pending load begins it (R148). -/
def PanelCtl.tryLit (e : PanelEnv) (p : PanelCtl) : PanelCtl :=
  if p.state = .idle ∧ (p.pageMark = true ∨ p.pending ≠ []) then p.beginLit e else p

/-- Start whatever the panel kind allows now. -/
def PanelCtl.tryStart (e : PanelEnv) (p : PanelCtl) : PanelCtl :=
  match p.kind with
  | .paper => p.tryChoice e
  | .lit => p.tryLit e

/-! ### Hand-overs (R136, R138, R139) -/

/-- A handed field record of a field change with its urgency and origin mark (R136). -/
structure HandedField where
  record : FieldRecord
  urgent : Bool
  mark : OriginMark
deriving DecidableEq, Repr

/-- Make a FULL request, merged into the one pending (R138). -/
def mergeFull (full : Option FullRequest) (urgent forced : Bool) : Option FullRequest :=
  match full with
  | none => some ⟨urgent, forced⟩
  | some r => some ⟨r.urgent || urgent, r.forced || forced⟩

/-- Make a PARTIAL request, merged into the one pending for its group (R138). -/
def mergePartial (r : PartialRequest) (t : List PartialRequest) : List PartialRequest :=
  match t.find? (fun x => x.group == r.group) with
  | some _ =>
    t.map
      (fun x =>
        if x.group = r.group then
          { x with
            urgent := x.urgent || r.urgent
            exempt := x.exempt || r.exempt
            time := min x.time r.time }
        else x)
  | none => insertBy (fun x y => decide (x.group < y.group)) r t

/-- A pending FULL request becomes urgent when an urgent request is made (R138). -/
def urgeFull (full : Option FullRequest) (urgent : Bool) : Option FullRequest :=
  match full with
  | none => none
  | some r => some { r with urgent := r.urgent || urgent }

/-- The held field table after a page change (R138). -/
def heldOfPage (groupCount : Nat) (fields : List FieldRecord) : List HeldField :=
  fields.foldl (fun t r => holdField ⟨r, groupsOfRegions groupCount r.regions⟩ t) []

/-- Take a page change (R138, R148). -/
def PanelCtl.takePageChange (e : PanelEnv) (fields : List FieldRecord) (urgent : Bool)
    (p : PanelCtl) : PanelCtl :=
  let p := { p with held := heldOfPage e.cfg.groupCount fields }
  if p.state = .dead then p
  else
    let p := { p with pending := p.allPending }
    match p.kind with
    | .paper => ({ p with full := mergeFull p.full urgent false }).tryChoice e
    | .lit => ({ p with pageMark := true }).tryLit e

/-- The PARTIAL requests one handed field makes, one for each of its groups (R138). -/
def requestPartials (now : Nat) (h : HandedField) (groups : List Nat) (t : List PartialRequest) :
    List PartialRequest :=
  groups.foldl
    (fun t g => mergePartial ⟨g, h.urgent, decide (h.mark ≠ .none), now⟩ t) t

/-- Take one record of a field change into the held field table, the pending fields and, on a PAPER
panel, the requests (R138). -/
def PanelCtl.takeField (e : PanelEnv) (h : HandedField) (p : PanelCtl) : PanelCtl :=
  let groups := groupsOfRegions e.cfg.groupCount h.record.regions
  let p := { p with held := holdField ⟨h.record, groups⟩ p.held }
  if p.state = .dead then p
  else
    let p := { p with pending := pendField ⟨h.record.num, groups⟩ p.pending }
    match p.kind with
    | .paper =>
      { p with
        partials := requestPartials e.now h groups p.partials
        full := urgeFull p.full h.urgent }
    | .lit => p

/-- Take a field change (R138, R148). -/
def PanelCtl.takeFieldChange (e : PanelEnv) (fields : List HandedField) (p : PanelCtl) : PanelCtl :=
  (fields.foldl (fun p h => p.takeField e h) p).tryStart e

/-- A PARTIAL request of a group holding a pending field among 16..20 becomes urgent (R139). -/
def urgePartial (pending : List PendingField) (r : PartialRequest) : PartialRequest :=
  if pending.any (fun f => decide (16 ≤ f.num ∧ f.num ≤ 20) && f.groups.contains r.group) then
    { r with urgent := true }
  else r

/-- The muster selector's urgency request (R139). -/
def PanelCtl.takeUrgency (e : PanelEnv) (p : PanelCtl) : PanelCtl :=
  match p.kind with
  | .lit => p
  | .paper =>
    ({ p with
      full := urgeFull p.full true
      partials := p.partials.map (urgePartial p.pending) : PanelCtl }).tryChoice e

/-! ### Completion and timeouts (R146, R147) -/

/-- IDLE is entered: with busy high the busy watch is set (R147). -/
def PanelCtl.enterIdle (e : PanelEnv) (p : PanelCtl) : PanelCtl :=
  { p with
    state := .idle
    busyWatch := if e.busy then some (e.now + e.cfg.refreshTimeout * 1000) else none }

/-- The completion of a refresh (R146). -/
def PanelCtl.complete (e : PanelEnv) (p : PanelCtl) : PanelCtl :=
  ({ p with
    refreshDeadline := none
    lastCompletion := some e.now
    timeoutRun := 0
    refreshUrgent := false }).enterIdle e

/-- A load has been sent (R146, R148; DEDUCED, log entry 23). -/
def PanelCtl.endLoad (e : PanelEnv) (p : PanelCtl) : PanelCtl :=
  match p.kind with
  | .lit => ({ p with state := .idle, load := none }).tryLit e
  | .paper =>
    if p.fellInLoad then
      (({ p with load := none, fellInLoad := false }).complete e).tryChoice e
    else
      { p with
        state := .busy
        load := none
        refreshDeadline := some (e.now + e.cfg.refreshTimeout * 1000) }

/-- The busy input falls on a PAPER panel (R146, R147). -/
def PanelCtl.busyFalls (e : PanelEnv) (p : PanelCtl) : PanelCtl :=
  match p.state with
  | .busy => (p.complete e).tryChoice e
  | .sending => { p with fellInLoad := true }
  | .idle => ({ p with busyWatch := none }).tryChoice e
  | .faultWait => p
  | .dead => p

/-- The busy input rises on a PAPER panel (R147). -/
def PanelCtl.busyRises (e : PanelEnv) (p : PanelCtl) : PanelCtl :=
  match p.state with
  | .idle => { p with busyWatch := some (e.now + e.cfg.refreshTimeout * 1000) }
  | .sending => p
  | .busy => p
  | .faultWait => p
  | .dead => p

/-- A timeout of a PAPER panel (R147): FAULT_WAIT, or DEAD on the third in a row. `urgent` is the urgency
of the refresh that timed out. -/
def PanelCtl.timeOut (e : PanelEnv) (urgent : Bool) (p : PanelCtl) : PanelCtl :=
  let p :=
    { p with
      panelTimeouts := bump p.panelTimeouts
      timeoutRun := p.timeoutRun + 1
      refreshDeadline := none
      busyWatch := none
      refreshUrgent := urgent }
  if p.timeoutRun < 3 then
    { p with state := .faultWait, retryDeadline := some (e.now + 30000) }
  else { p with state := .dead, pending := [], full := none, partials := [] }

/-- The retry deadline ends FAULT_WAIT (R147). -/
def PanelCtl.retry (e : PanelEnv) (p : PanelCtl) : PanelCtl :=
  let urgent := p.refreshUrgent || p.partials.any (fun r => r.urgent)
  (({ p with
    retryDeadline := none
    pending := p.allPending
    full := mergeFull p.full urgent false }).enterIdle e).tryChoice e

/-! ### Luminance (R149, R150) -/

/-- The luminance target (R149). -/
def PanelCtl.targetFor (e : PanelEnv) (p : PanelCtl) : Nat :=
  if p.level.emergency then 1023 else if p.quiet then e.cfg.nightLevel else p.dayLevel

/-- Work the target out afresh on a LIT panel (R149); the ramp ticks run while the level differs from it
and keep their phase (R150). -/
def PanelCtl.retarget (e : PanelEnv) (p : PanelCtl) : PanelCtl :=
  match p.kind with
  | .paper => p
  | .lit =>
    let t := p.targetFor e
    { p with
      target := some t
      stepCount := if p.target = some t then p.stepCount else 0
      rampTick :=
        if p.luminance = t then none
        else match p.rampTick with
          | some d => some d
          | none => some (e.now + 10) }

/-- The step of a ramp tick (R150). -/
def rampStep (cfg : PanelCfg) (k : Nat) : Nat :=
  min cfg.rampMaximum (cfg.rampInitial + cfg.rampAcceleration * k)

/-- The level moved towards the target by a step, stopping at the target (R150). -/
def moveToward (level target step : Nat) : Nat :=
  if level ≤ target then min target (level + step) else max target (level - step)

/-- A due ramp tick (R150). -/
def PanelCtl.ramp (e : PanelEnv) (p : PanelCtl) : PanelCtl :=
  match p.rampTick, p.target with
  | some d, some t =>
    let level := moveToward p.luminance t (rampStep e.cfg p.stepCount)
    { p with
      luminance := level
      stepCount := p.stepCount + 1
      rampTick := if level = t then none else some (d + 10) }
  | _, _ => p

/-- The alarm notice at the panel controller (R143, R149). -/
def PanelCtl.takeAlarm (e : PanelEnv) (before after : Level) (p : PanelCtl) : PanelCtl :=
  let p := { p with level := after }
  match p.kind with
  | .paper => p.tryChoice e
  | .lit =>
    (if after.emergency && !before.emergency then { p with luminance := 1023 } else p).retarget e

/-- The quiet value told by the page selector (R125, R143, R149). -/
def PanelCtl.takeQuiet (e : PanelEnv) (quiet : Bool) (p : PanelCtl) : PanelCtl :=
  let p := { p with quiet := quiet }
  match p.kind with
  | .paper => p.tryChoice e
  | .lit => p.retarget e

/-- A LUMINANCE request (R114, R149). -/
def PanelCtl.takeDayLevel (e : PanelEnv) (level : Nat) (p : PanelCtl) : PanelCtl :=
  ({ p with dayLevel := level }).retarget e

/-- Entry to LISTENING: the parameters hold and the ramp target is worked out (R149, R173). A busy input that
is already high sets no busy watch (DESIGN CHOICE, log entry 39). -/
def PanelCtl.enterListening (e : PanelEnv) (p : PanelCtl) : PanelCtl :=
  ({ p with dayLevel := e.cfg.dayLevel }).retarget e

/-- Entry to CONFIG_FAULT: a LIT panel stands at 800 and no ramp runs (R149, R171). On a PAPER panel a busy
input that is already high sets no busy watch (DESIGN CHOICE, log entry 39). -/
def PanelCtl.enterConfigFault (p : PanelCtl) : PanelCtl :=
  match p.kind with
  | .paper => p
  | .lit => { p with luminance := 800 }

/-- A blink generator edge: on a LIT panel every held field of attribute BLINK becomes pending and is
loaded (R180). -/
def PanelCtl.blinkPhase (e : PanelEnv) (p : PanelCtl) : PanelCtl :=
  match p.kind with
  | .paper => p
  | .lit =>
    let blinking := p.held.filter (fun h => decide (h.record.attr = .blink))
    if blinking = [] then p
    else
      ({ p with
        pending := blinking.foldl
          (fun (t : List PendingField) (h : HeldField) => pendField ⟨h.record.num, h.groups⟩ t)
          p.pending : PanelCtl }).tryLit e

end Sys2Proof.Machine
end

