-- ==== Sys2Proof/Machine/Content.lean ====
section
/-! DEFINITION. What the pages show: displayed route figures, programme selection and lines, and the
field records of every page (R26, R73 to R75, R127 to R135). -/

namespace Sys2Proof.Machine

/-! ### Texts -/

/-- The decimal digits of a number below 10^fuel, most significant first. -/
def digitsGo : Nat → Nat → List TextPiece → List TextPiece
  | 0, _, acc => acc
  | fuel + 1, n, acc =>
    if n < 10 then .digit n :: acc else digitsGo fuel (n / 10) (.digit (n % 10) :: acc)

/-- A number shown in digits. -/
def digitsText (n : Nat) : List TextPiece := digitsGo 8 n []

/-- Two digits. -/
def twoDigits (n : Nat) : List TextPiece := [.digit (n / 10), .digit (n % 10)]

/-- A programme minute shown as hh:mm of its minute of day (R96). -/
def clockText (minute : Nat) : List TextPiece :=
  twoDigits (minuteOfDay minute / 60) ++ [.colon] ++ twoDigits (minuteOfDay minute % 60)

/-- A received or configured text. -/
def glyphText (glyphs : List Byte) : List TextPiece := glyphs.map .octet

/-! ### Displayed figures (R26) -/

/-- The displayed figures of a route entry. -/
inductive Figures
  | here
  | route (metres : Nat) (moreThan : Bool) (bearing : Option Bearing)
  | noRoute
deriving DecidableEq, Repr

/-- The configured neighbour of a next hop. -/
def neighbourOf (cfg : ConfigCopy) (h : NextHop) : Option NeighbourCfg :=
  match h with
  | .slot n => cfg.neighbours[n]?
  | .self => none
  | .none => none

/-- The displayed figures of an entry (R26): the distance is the ceiling of cost ÷ 10, at most 999. -/
def figuresOf (cfg : ConfigCopy) (e : RouteEntry) : Figures :=
  match e.state with
  | .anchor => .here
  | .reachable =>
    .route (min 999 ((e.cost + 9) / 10)) (decide (999 < (e.cost + 9) / 10))
      ((neighbourOf cfg e.nextHop).map (fun n => n.bearing))
  | .holdDown => .noRoute
  | .unreachable => .noRoute

/-- The displayed figures of a destination; none where the table does not hold it. -/
def State.figures (s : State) (dest : Nat) : Option Figures :=
  (s.routeEntry dest).map (figuresOf s.cfg)

/-- A distance text (R127). -/
def distanceText : Option Figures → List TextPiece
  | some .here => [.stock .here]
  | some (.route metres more _) =>
    (if more then [.moreThan] else []) ++ digitsText metres ++ [.metres]
  | some .noRoute => [.stock .noRoute]
  | none => [.stock .routePending]

/-- The bearing of a REACHABLE entry; none for every other state. -/
def figuresBearing : Option Figures → Option Bearing
  | some .here => none
  | some (.route _ _ b) => b
  | some .noRoute => none
  | none => none

/-! ### Programme selection and lines (R73 to R75) -/

/-- Whether an item is in the displayed selection (R73). -/
def State.selects (s : State) (i : Item) : Bool :=
  inAudience s.cfg i &&
    (!s.time.state.known ||
      (decide (s.programmeMinute ≤ i.last) &&
        decide (i.start ≤ s.programmeMinute + s.cfg.lookahead)))

/-- The displayed selection, in store order (R73). -/
def State.selection (s : State) : List Item := s.prog.items.filter s.selects

/-- The number of programme pages: the smaller of 4 and the ceiling of c ÷ p (R73). -/
def State.programmePages (s : State) : Nat :=
  min 4 ((s.selection.length + s.cfg.linesPerPage - 1) / s.cfg.linesPerPage)

/-- The venue field of an item (R74). -/
def State.venueText (s : State) (i : Item) : List TextPiece :=
  if i.venue = 0 then glyphText i.venueLabel
  else
    let label := if i.venueLabel = [] then digitsText i.venue else glyphText i.venueLabel
    match s.figures i.venue with
    | some (.route metres more (some b)) =>
      label ++ [.joint, .arrow b, .joint] ++ distanceText (some (.route metres more (some b)))
    | f => label ++ [.joint] ++ distanceText f

/-- A minute countdown (R75). -/
def countdownText (n : Nat) : List TextPiece :=
  [.stock .inWord, .space] ++ digitsText n ++ [.space, .stock .minWord]

/-- The status field of an item (R75). -/
def State.statusText (s : State) (i : Item) : List TextPiece :=
  if i.cancelled then [.stock .cancelled]
  else if s.time.state.known = false then []
  else if i.start ≤ s.programmeMinute then [.stock .now]
  else
    let n := i.start - s.programmeMinute
    match s.panel.kind with
    | .lit => if n ≤ 60 ∧ s.time.state.disciplined = true then countdownText n else []
    | .paper => if n ≤ 15 then [.stock .soon] else []

/-! ### Field records of the pages (R127 to R135) -/

/-- A TEXT field of attribute NORMAL. -/
def textField (n : Nat) (regions : List Nat) (t : List TextPiece) : FieldRecord :=
  ⟨n, .normal, .text t, regions⟩

/-- The attribute of an ARROW field at a level on a panel kind (R135). -/
def arrowAttr (level : Level) (kind : PanelKind) : FieldAttr :=
  if level.emergency then
    match kind with
    | .lit => .blink
    | .paper => .inverse
  else .normal

/-- The header fields 0 and 1 (R128). -/
def State.headerFields (s : State) : List FieldRecord :=
  [textField 0 [1] (if s.time.state.known then clockText s.programmeMinute else []),
    ⟨1, .normal, .symbol (if s.page.level = .alert then .crewAlert else .none), [1]⟩]

/-- The signposted destinations shown: VENUE entries are left out at GENERAL and ABANDON (R129). -/
def State.visibleSignposts (s : State) : List SignpostCfg :=
  s.cfg.signposted.filter
    (fun d =>
      match s.routeEntry d.dest with
      | some e => !(s.page.level.emergency && decide (e.kind = .venue))
      | none => true)

/-- The three fields of signpost row i in the given region (R129). -/
def State.signpostRow (s : State) (region : Nat → Nat) (i : Nat) : List FieldRecord :=
  let attr := arrowAttr s.page.level s.panel.kind
  match s.visibleSignposts[i]? with
  | some d =>
    [textField (4 + 3 * i) [region i] (glyphText d.label),
      ⟨5 + 3 * i, attr, .arrow (figuresBearing (s.figures d.dest)), [region i]⟩,
      textField (6 + 3 * i) [region i] (distanceText (s.figures d.dest))]
  | none =>
    [textField (4 + 3 * i) [region i] [],
      ⟨5 + 3 * i, attr, .arrow none, [region i]⟩,
      textField (6 + 3 * i) [region i] []]

/-- The four signpost rows (R129, R131). -/
def State.signpostRows (s : State) (region : Nat → Nat) : List FieldRecord :=
  [0, 1, 2, 3].flatMap (s.signpostRow region)

/-- The region of a signpost row on the ROUTE page (R129). -/
def routeRowRegion (i : Nat) : Nat := if i < 2 then 2 else 3

/-- The three fields of line j of a programme page, counted from 0 (R130). -/
def State.programmeLine (s : State) (first j : Nat) : List FieldRecord :=
  let region := if j < 4 then 2 else 3
  match s.selection[first + j]? with
  | some i =>
    [textField (4 + 3 * j) [region] (clockText i.start ++ [.space] ++ glyphText i.title),
      textField (5 + 3 * j) [region] (s.statusText i),
      textField (6 + 3 * j) [region] (s.venueText i)]
  | none =>
    [textField (4 + 3 * j) [region] [],
      textField (5 + 3 * j) [region] [],
      textField (6 + 3 * j) [region] []]

/-- Programme page k (R130). -/
def State.programmeFields (s : State) (k : Nat) : List FieldRecord :=
  s.headerFields ++
    [textField 2 [1] (digitsText k ++ [.slash] ++ digitsText s.programmePages)] ++
    (List.range s.cfg.linesPerPage).flatMap (s.programmeLine ((k - 1) * s.cfg.linesPerPage))

/-- The label of the muster target: its label-table label, or its number in digits (R56). -/
def State.targetLabel (s : State) (dest : Nat) : List TextPiece :=
  match s.labelOf dest with
  | some l => glyphText l.label
  | none => digitsText dest

/-- The deck field of the muster target (R56, R131). -/
def State.targetDeck (s : State) (dest : Nat) : List TextPiece :=
  match s.labelOf dest with
  | some l => [.stock .deck, .joint] ++ digitsText l.deck
  | none => []

/-- Fields 16 to 18 of the MUSTER and ABANDON pages (R131, R132; DEDUCED, log entry 19). -/
def State.targetFields (s : State) (abandon : Bool) : List FieldRecord :=
  let heading : StockText := if abandon then .goToEmbarkation else .goToAssembly
  match s.muster.dest with
  | some d =>
    [textField 16 [2] [.stock heading],
      textField 17 [2, 3] (s.targetLabel d),
      textField 18 [2] (s.targetDeck d)]
  | none =>
    [textField 16 [2] [.stock heading],
      textField 17 [2, 3] [.stock .awaitCrew],
      textField 18 [2] []]

/-- The distance of the target; empty for a target of NONE (R131, R132). -/
def State.targetDistance (s : State) : List TextPiece :=
  match s.muster.dest with
  | some d => distanceText (s.figures d)
  | none => []

/-- The bearing of the target's REACHABLE entry (R131). -/
def State.targetBearing (s : State) : Option Bearing :=
  match s.muster.dest with
  | some d => figuresBearing (s.figures d)
  | none => none

/-- The tally's unchecked count: UNCHECKED or REOPENED entries (R92). -/
def uncheckedCount (t : List TallyEntry) : Nat :=
  (t.filter (fun x => decide (x.sweep = .unchecked ∨ x.sweep = .reopened))).length

/-- The tally's assist count (R92). -/
def assistCount (t : List TallyEntry) : Nat :=
  (t.filter (fun x => decide (x.sweep = .assist))).length

/-- Fields 28 and 29, at a node that holds a tally (R131). -/
def State.tallyFields (s : State) : List FieldRecord :=
  match s.cabin.tally with
  | some t =>
    [⟨28, .normal, .number (uncheckedCount t), [4]⟩, ⟨29, .normal, .number (assistCount t), [4]⟩]
  | none => []

/-- The stock text of a sweep state; IDLE has none (R132). -/
def sweepText : SweepState → List TextPiece
  | .idle => []
  | .unchecked => [.stock .unchecked]
  | .cleared => [.stock .cleared]
  | .assist => [.stock .assist]
  | .reopened => [.stock .reopened]

/-- The sweep line (R132). -/
def State.sweepLine (s : State) : List TextPiece :=
  if s.cabin.sweep = .idle then []
  else
    match s.cabin.sweepMinute with
    | some m => sweepText s.cabin.sweep ++ [.joint] ++ clockText m
    | none => sweepText s.cabin.sweep

/-- The MUSTER or ABANDON page (R131, R132). -/
def State.musterFields (s : State) (abandon : Bool) : List FieldRecord :=
  if s.cfg.role = .cabin then
    s.headerFields ++ s.targetFields abandon ++
      [textField 20 [3] s.targetDistance, textField 21 [4] s.sweepLine]
  else
    s.headerFields ++ s.signpostRows (fun _ => 3) ++ s.targetFields abandon ++
      [⟨19, arrowAttr s.page.level s.panel.kind, .arrow s.targetBearing, [2]⟩,
        textField 20 [2] s.targetDistance] ++
      s.tallyFields

/-- The occupancy field of the CABIN page (R133). -/
def occupancyText (c : CabinInfo) : List TextPiece :=
  match c.occupancy with
  | .vacant => [.stock .vacant]
  | .occupied =>
    [.stock .occupied, .joint] ++ digitsText c.embarkDay ++ [.joint] ++ digitsText c.disembarkDay

/-- The symbol of a service state (R133). -/
def serviceSymbol : ServiceState → PanelSymbol
  | .none => .none
  | .privacy => .privacy
  | .makeup => .makeup

/-- The CABIN page (R133). -/
def State.cabinFields (s : State) : List FieldRecord :=
  let greeting := match s.cabin.info with
    | some c => glyphText c.greeting
    | none => []
  let occupancy := match s.cabin.info with
    | some c => occupancyText c
    | none => []
  [⟨22, .normal, .number s.cfg.cabinNumber, [1]⟩,
    textField 23 [2] greeting,
    textField 24 [2] occupancy,
    ⟨25, .normal, .symbol (serviceSymbol s.cabin.service), [3]⟩]

/-- The stock text of a category (R134). -/
def categoryText : Category → StockText
  | .show => .show
  | .dining => .dining
  | .excursion => .excursion
  | .activity => .activity
  | .notice => .notice

/-- The SPOTLIGHT page for the current item (R134). Composed while the item is no longer held, which R134 leaves
open, fields 16 to 19 are blank (DESIGN CHOICE, log entry 36). -/
def State.spotlightFields (s : State) : List FieldRecord :=
  match s.page.spotItem.bind s.item with
  | some i =>
    s.headerFields ++
      [textField 16 [2] ([.stock (categoryText i.category), .space] ++ glyphText i.title),
        textField 17 [3] (glyphText i.detail),
        textField 18 [2] (clockText i.start ++ [.space] ++ s.statusText i),
        textField 19 [3] (s.venueText i)]
  | none =>
    s.headerFields ++
      [textField 16 [2] [], textField 17 [3] [], textField 18 [2] [], textField 19 [3] []]

/-- The FALLBACK page (R134). -/
def State.fallbackFields (s : State) : List FieldRecord :=
  [textField 30 [2, 3]
    [.stock (if s.page.level.emergency then .emergencyFollowCrew else .outOfService)]]

/-- The field records of a page, in ascending field number order (R128 to R135). -/
def State.composePage (s : State) : Page → List FieldRecord
  | .fallback => s.fallbackFields
  | .abandon => s.musterFields true
  | .muster => s.musterFields false
  | .spotlight => s.spotlightFields
  | .cabin => s.cabinFields
  | .rotation .route => s.headerFields ++ s.signpostRows routeRowRegion
  | .rotation (.programme k) => s.programmeFields k

end Sys2Proof.Machine
end

