-- ==== Sys2Proof/Machine/PageSelector.lean ====
section
/-! DEFINITION. The page selector (chapter 8): the arbiter, rotation, spotlight showing, quiet and
presence, and the hand-over of changes to the panel controller. -/

namespace Sys2Proof.Machine

/-- Let the page selector change its own state. -/
def State.pageDo (s : State) (f : PageSelector → PageSelector) : State := { s with page := f s.page }

/-- Quiet is in effect: set, with no presence deadline (R120). -/
def PageSelector.quietInEffect (p : PageSelector) : Bool := p.quiet && p.presence.isNone

/-- A dwell from now, in ms. -/
def State.dwellFrom (s : State) : Nat := s.clock + s.cfg.dwell * 1000

/-- A spotlight dwell from now. -/
def State.spotlightFrom (s : State) : Nat := s.clock + s.cfg.spotlightDwell * 1000

/-- The page arbiter (R121). -/
def State.arbiter (s : State) : Page :=
  if s.running = false then .fallback
  else
    match s.page.level with
    | .abandon => .abandon
    | .general => .muster
    | .alert =>
      if s.page.spotItem.isSome then .spotlight
      else if s.cfg.role = .cabin then .cabin else .rotation s.page.rotation
    | .normal =>
      if s.page.spotItem.isSome then .spotlight
      else if s.cfg.role = .cabin then .cabin else .rotation s.page.rotation

/-! ### Hand-over (R136) -/

/-- The causes that the table of R136 tells apart. -/
inductive PageCause
  | alarm | musterTarget | route | sweep | tally | service | cabinInfo | other
deriving DecidableEq, Repr

/-- The urgency of a page change by the cause of its event (R136). -/
def PageCause.urgent : PageCause → Bool
  | .alarm => true
  | .musterTarget => true
  | .route => false
  | .sweep => true
  | .tally => true
  | .service => false
  | .cabinInfo => false
  | .other => false

/-- The urgency of a handed field by its own cause, its page and its number (R136). -/
def PageCause.fieldUrgent (c : PageCause) (page : Page) (num : Nat) : Bool :=
  match c with
  | .route => decide (page = .muster ∨ page = .abandon) && decide (num = 19 ∨ num = 20)
  | c => c.urgent

/-- The origin mark by cause (R136). -/
def PageCause.mark : PageCause → OriginMark
  | .alarm => .none
  | .musterTarget => .none
  | .route => .none
  | .sweep => .none
  | .tally => .none
  | .service => .cabinInput
  | .cabinInfo => .cabinInformation
  | .other => .none

/-- The own cause of a field of the MUSTER and ABANDON pages (R128, R129, R131, R132). -/
def musterFieldCause (num : Nat) : PageCause :=
  if num = 0 then .other
  else if num = 1 then .alarm
  else if num ≤ 15 then .route
  else if num ≤ 18 then .musterTarget
  else if num ≤ 20 then .route
  else if num = 21 then .sweep
  else .tally

/-- The own cause of a field: what the rule of the field recomposes it for while its page stays selected
(R128 to R134), whichever event finds the field changed (R136; DEDUCED, log entry 18). Fields 19 and 20 of the
target follow muster target and route notices, which give them one urgency and mark; a programme or spotlight
field follows notices that all count as any other cause. -/
def fieldCause (page : Page) (num : Nat) : PageCause :=
  match page with
  | .fallback => .alarm
  | .abandon => musterFieldCause num
  | .muster => musterFieldCause num
  | .spotlight => if num = 1 then .alarm else .other
  | .cabin => if num = 25 then .service else if num = 23 ∨ num = 24 then .cabinInfo else .other
  | .rotation .route => if num = 0 then .other else if num = 1 then .alarm else .route
  | .rotation (.programme _) => if num = 1 then .alarm else .other

/-- A changed record as it is handed: with the urgency and mark of its own cause (R136). -/
def handedRecord (page : Page) (r : FieldRecord) : HandedField :=
  let cause := fieldCause page r.num
  ⟨r, cause.fieldUrgent page r.num, cause.mark⟩

/-- The composed records that differ from the handed ones. -/
def changedFields (handed composed : List FieldRecord) : List FieldRecord :=
  composed.filter (fun r => decide (handed.find? (fun h => h.num == r.num) ≠ some r))

/-- Compose the selected page and hand over what differs from the handed contents: a page change with the
urgency of the event's cause, or each changed field with that of its own (R136). -/
def State.handOver (s : State) (cause : PageCause) : State :=
  let page := s.page.selected
  let composed := s.composePage page
  let handed := s.pageDo (fun p => { p with handed := some ⟨page, composed⟩ })
  let pageChange :=
    (handed.pageDo (fun p => { p with pageChanges := bump p.pageChanges })).panelDo
      (fun e p => p.takePageChange e composed cause.urgent)
  match s.page.handed with
  | none => pageChange
  | some h =>
    if h.page ≠ page then pageChange
    else
      match changedFields h.fields composed with
      | [] => handed
      | changed =>
        handed.panelDo (fun e p => p.takeFieldChange e (changed.map (handedRecord page)))

/-- The page selector's own state after the arbiter has chosen (R121): a rotation page selected after any
other page starts at ROUTE, unless the event's SHOW_PAGE request has set the position, with its dwell
running unless quiet is in effect; leaving the rotation drops the dwell deadline. -/
def PageSelector.select (p : PageSelector) (chosen : Page) (dwellUntil : Nat) (positionSet : Bool) :
    PageSelector :=
  if chosen.isRotation then
    if p.selected.isRotation then { p with selected := chosen }
    else
      let position := if positionSet then p.rotation else .route
      { p with
        selected := .rotation position
        rotation := position
        dwell := if p.quietInEffect then none else some dwellUntil }
  else { p with selected := chosen, dwell := none }

/-- The end of the page selector's work for an event: arbiter, then hand-over (R121, R136) (DEDUCED,
log entry 18). -/
def State.finishPage (s : State) (positionSet : Bool) (cause : PageCause) : State :=
  (s.pageDo (fun p => p.select s.arbiter s.dwellFrom positionSet)).handOver cause

/-- A notice that only asks for recomposition (R128 to R134). -/
def State.pageNotice (s : State) (cause : PageCause) : State := s.finishPage false cause

/-! ### Lifecycle and alarm notices -/

/-- Entry to LISTENING at the page selector (R120). -/
def State.pageEntersListening (s : State) : State :=
  (s.pageDo (fun p => { p with rotation := .route })).finishPage false .other

/-- Spotlight showing ends (R123, R124). -/
def PageSelector.endSpotlight (p : PageSelector) : PageSelector :=
  { p with spotItem := none, spotDeadline := none }

/-- The alarm notice at the page selector (R120, R124). -/
def State.pageTakesAlarm (s : State) (after : Level) : State :=
  (s.pageDo
    (fun p => if after.emergency then { p with level := after }.endSpotlight
      else { p with level := after })).finishPage false .alarm

/-! ### Rotation (R122) -/

/-- The rotation position after a dwell (R122). -/
def nextPosition (n : Nat) : RotationPage → RotationPage
  | .route => if 1 ≤ n then .programme 1 else .route
  | .programme k => if k < n then .programme (k + 1) else .route

/-- A due dwell deadline (R122). -/
def State.pageDwellEnds (s : State) : State :=
  (s.pageDo
    (fun p =>
      { p with
        rotation := nextPosition s.programmePages p.rotation
        dwell := some s.dwellFrom })).finishPage false .other

/-! ### Programme notices (R122, R124) -/

/-- Spotlight showing moves to the oldest id held, or ends (R124). -/
def PageSelector.nextSpotlight (p : PageSelector) (spotlight : List Nat) (until_ : Nat) :
    PageSelector :=
  match spotlight with
  | [] => p.endSpotlight
  | i :: _ => { p with spotItem := some i, spotDeadline := some until_ }

/-- Spotlight showing follows the spotlight list at a programme notice (R124). -/
def PageSelector.followSpotlight (p : PageSelector) (spotlight : List Nat) (until_ : Nat) :
    PageSelector :=
  match p.spotItem with
  | none => p
  | some i => if spotlight.contains i then p else p.nextSpotlight spotlight until_

/-- The rotation position follows the number of programme pages at a programme notice (R122). -/
def PageSelector.followPages (p : PageSelector) (n dwellUntil : Nat) : PageSelector :=
  match p.rotation with
  | .route => p
  | .programme k =>
    if n < k then
      { p with
        rotation := .route
        dwell := if p.selected.isRotation && !p.quietInEffect then some dwellUntil else p.dwell }
    else p

/-- The programme notice at the page selector (R77, R122, R124). -/
def State.pageTakesProgramme (s : State) : State :=
  (s.pageDo
    (fun p =>
      (p.followSpotlight s.prog.spotlight s.spotlightFrom).followPages s.programmePages
        s.dwellFrom)).finishPage false .other

/-! ### Trigger requests (R123, R125) -/

/-- A request is refused and counted (R123, R125). -/
def PageSelector.refuse (p : PageSelector) : PageSelector :=
  { p with refusedRequests := bump p.refusedRequests }

/-- A refused request, with the end of its event. -/
def State.refuseRequest (s : State) : State := (s.pageDo PageSelector.refuse).finishPage false .other

/-- Set the rotation position by request: showing ends, and the dwell restarts where a rotation page is
then selected and quiet is not in effect (R123). -/
def State.jumpTo (s : State) (position : RotationPage) : State :=
  let s := s.pageDo (fun p => { p.endSpotlight with rotation := position })
  let s :=
    if s.arbiter.isRotation && !s.page.quietInEffect then
      s.pageDo (fun p => { p with dwell := some s.dwellFrom })
    else s
  s.finishPage true .other

/-- A SHOW_PAGE request (R123). -/
def State.pageShow (s : State) (page : ShowPage) : State :=
  if s.page.level.emergency then s.refuseRequest
  else
    match page with
    | .route => s.jumpTo .route
    | .programme =>
      if s.programmePages = 0 ∨ s.page.quietInEffect = true then s.refuseRequest
      else s.jumpTo (.programme 1)
    | .spotlight =>
      match s.prog.spotlight with
      | [] => s.refuseRequest
      | i :: rest =>
        if s.page.spotItem.isSome then s.finishPage false .other
        else
          (s.pageDo (fun p => p.nextSpotlight (i :: rest) s.spotlightFrom)).finishPage false .other

/-- What follows a change of whether quiet is in effect (R125): the rotation position and dwell, and the
new value told to the panel controller. -/
def State.quietChanged (s : State) (before : Bool) : State :=
  let after := s.page.quietInEffect
  if before = after then s
  else if after then
    (s.pageDo (fun p => { p with rotation := .route, dwell := none })).panelDo
      (fun e p => p.takeQuiet e true)
  else
    (s.pageDo
      (fun p => if p.selected.isRotation then { p with dwell := some s.dwellFrom } else p)).panelDo
      (fun e p => p.takeQuiet e false)

/-- A change of the quiet state with all that follows it. -/
def State.changeQuiet (s : State) (f : PageSelector → PageSelector) : State :=
  ((s.pageDo f).quietChanged s.page.quietInEffect).finishPage false .other

/-- A QUIET_ENTER request (R125). -/
def State.pageQuietEnter (s : State) : State :=
  if s.page.level.emergency then s.refuseRequest
  else s.changeQuiet (fun p => { p with quiet := true })

/-- A QUIET_LEAVE request by the table of R125: quiet set becomes clear, also after a QUIET_ENTER of the same
cascade that found it set, where R114 has quiet as before the cascade (DESIGN CHOICE, log entry 40). -/
def State.pageQuietLeave (s : State) : State :=
  if s.page.level.emergency then s.refuseRequest
  else s.changeQuiet (fun p => if p.quiet then { p with quiet := false, presence := none } else p)

/-- A presence notice (R126). -/
def State.pagePresence (s : State) : State :=
  s.changeQuiet
    (fun p =>
      if p.quiet then { p with presence := some (s.clock + s.cfg.presenceDwell * 1000) } else p)

/-- A due presence deadline (R126). -/
def State.pagePresenceEnds (s : State) : State :=
  s.changeQuiet (fun p => { p with presence := none })

end Sys2Proof.Machine
end

