-- ==== Sys2Proof/Machine/Trigger.lean ====
section
/-! DEFINITION. The trigger unit (chapter 7): factors and matching, cascades and activations, actions,
captures, interval timers and the alarm notice. -/

namespace Sys2Proof.Machine

/-- A factor occurrence with its detail (R110). -/
structure Occurrence where
  factor : Factor
  detail : Nat
deriving DecidableEq, Repr

/-- Let the trigger unit change its own state. -/
def State.trigDo (s : State) (f : TriggerUnit → TriggerUnit) : State := { s with trig := f s.trig }

/-- Trigger set n. -/
def TriggerUnit.set (u : TriggerUnit) (n : Nat) : TriggerSet := u.sets.getD n TriggerSet.reset

/-- Replace trigger set n. -/
def TriggerUnit.putSet (u : TriggerUnit) (n : Nat) (x : TriggerSet) : TriggerUnit :=
  { u with sets := u.sets.set n x }

/-- Timer n. -/
def TriggerUnit.timer (u : TriggerUnit) (n : Nat) : TimerState := u.timers.getD n TimerState.reset

/-- Replace timer n. -/
def TriggerUnit.putTimer (u : TriggerUnit) (n : Nat) (x : TimerState) : TriggerUnit :=
  { u with timers := u.timers.set n x }

/-- A line is available to trigger sets (R82, R110). -/
def State.lineAvailable (s : State) (n : Nat) : Bool :=
  match s.cabin.lines[n]? with
  | some l => l.function.available
  | none => false

/-- A set's factor matches an occurrence (R110, R111). -/
def State.matchesFactor (s : State) (c : TriggerCfg) (o : Occurrence) : Bool :=
  decide (c.factor = o.factor) &&
    match c.factor with
    | .none => false
    | .minute => decide (o.detail = c.factorArg)
    | .programmeLead => true
    | .input => decide (o.detail = c.factorArg) && s.lineAvailable c.factorArg
    | .alarmChange => decide (c.factorArg ≤ o.detail)
    | .routeChange => decide (c.factorArg = 0 ∨ o.detail = c.factorArg)
    | .timer => decide (o.detail = c.factorArg)

/-! ### Actions (section 7.3) -/

/-- ENABLE_SETS on one set (R115). -/
def enableSet (level : Level) (x : TriggerSet) : TriggerSet :=
  match x.state with
  | .enabled => x
  | .suspended => x
  | .disabled =>
    { x with state := if x.cfg.normalOnly && level.emergency then .suspended else .enabled }

/-- DISABLE_SETS on one set (R115). -/
def disableSet (x : TriggerSet) : TriggerSet := { x with state := .disabled }

/-- Change every set marked in a mask (R115). -/
def TriggerUnit.mapMarked (u : TriggerUnit) (mask : Nat) (f : TriggerSet → TriggerSet) :
    TriggerUnit :=
  { u with sets := u.sets.mapIdx (fun i x => if mask.testBit i then f x else x) }

/-- The time of a capture (R116). -/
def State.captureTime (s : State) : CaptureTime :=
  if s.time.state = .unset then .clock s.clock
  else .ship (s.shipMs / 1000) (s.shipMs % 1000)

/-- TIMER_START (R118). -/
def startTimer (now : Nat) : TimerState := ⟨true, 0, some (now + 100)⟩

/-- TIMER_STOP (R118). -/
def stopTimer : TimerState := ⟨false, 0, none⟩

/-- Perform the action of set n in a cascade started by an occurrence (R114 to R118). -/
def State.performAction (s : State) (o : Occurrence) (n : Nat) (chained : Bool) (c : TriggerCfg) :
    State :=
  match c.action with
  | .none => s
  | .showPage => s.pageShow (ShowPage.ofCode c.actionArg)
  | .capture =>
    s.trigDo
      (fun u =>
        { u with
          captures := u.captures.set c.actionArg
            (some ⟨s.captureTime, n, chained, o.factor, o.detail⟩) })
  | .timerStart => s.trigDo (fun u => u.putTimer c.actionArg (startTimer s.clock))
  | .timerStop => s.trigDo (fun u => u.putTimer c.actionArg stopTimer)
  | .luminance => s.panelDo (fun e p => p.takeDayLevel e c.actionArg)
  | .quietEnter => s.pageQuietEnter
  | .quietLeave => s.pageQuietLeave
  | .enableSets => s.trigDo (fun u => u.mapMarked c.actionArg (enableSet u.level))
  | .disableSets => s.trigDo (fun u => u.mapMarked c.actionArg disableSet)

/-! ### Cascades (R112, R113) -/

/-- Steps 1 and 2 of an activation: the action, counted, then the once-step (R113). -/
def State.actAndOnce (s : State) (o : Occurrence) (n : Nat) (chained : Bool) (c : TriggerCfg) :
    State :=
  (s.performAction o n chained c).trigDo
    (fun u =>
      let u := { u with activations := bump u.activations }
      if c.repeats then u else u.putSet n { u.set n with state := .disabled })

/-- A cascade in progress: the state and the sets already activated. -/
structure Cascade where
  state : State
  activated : List Nat
deriving DecidableEq, Repr

/-- Set n may be activated now: ENABLED and not yet activated in this cascade (R112, R113). -/
def Cascade.ready (k : Cascade) (n : Nat) : Bool :=
  decide ((k.state.trig.set n).state = .enabled) && !k.activated.contains n

/-- Activate set n (R113): action, once, then the marked sets depth first. Each activation adds a set to
those activated, so a depth of four serves every cascade. -/
def activate : Nat → Occurrence → Nat → Bool → Cascade → Cascade
  | 0, _, _, _, k => k
  | depth + 1, o, n, chained, k =>
    let c := (k.state.trig.set n).cfg
    let k : Cascade := ⟨k.state.actAndOnce o n chained c, n :: k.activated⟩
    [0, 1, 2, 3].foldl
      (fun k m =>
        if c.chain.getLsbD m && k.ready m then activate depth o m true k else k)
      k

/-- One set's turn in a cascade (R112). -/
def cascadeTurn (o : Occurrence) (k : Cascade) (n : Nat) : Cascade :=
  if k.ready n && k.state.matchesFactor (k.state.trig.set n).cfg o then activate 4 o n false k
  else k

/-- The cascade of one factor occurrence (R112). -/
def State.cascade (s : State) (o : Occurrence) : State :=
  ([0, 1, 2, 3].foldl (cascadeTurn o) ⟨s, []⟩).state

/-- Several occurrences of one notice, one whole cascade after another (R110, R112). -/
def State.cascades (s : State) (os : List Occurrence) : State := os.foldl State.cascade s

/-! ### Alarm notice (R111) -/

/-- Suspension of one set at a level (R111 step 1). -/
def suspendSet (after : Level) (x : TriggerSet) : TriggerSet :=
  if after.emergency then
    if x.state = .enabled ∧ x.cfg.normalOnly = true then { x with state := .suspended } else x
  else if x.state = .suspended then { x with state := .enabled } else x

/-- The sets a notice moves from ENABLED to SUSPENDED. -/
def suspensionCount (after : Level) (sets : List TriggerSet) : Nat :=
  if after.emergency then
    (sets.filter (fun x => decide (x.state = .enabled) && x.cfg.normalOnly)).length
  else 0

/-- The alarm notice at the trigger unit: level in use, suspension, then the ALARM_CHANGE occurrence where
the level differs (R111). -/
def State.triggerTakesAlarm (s : State) (before after : Level) : State :=
  let s := s.trigDo
    (fun u =>
      { u with
        level := after
        suspensions := bumpBy u.suspensions (suspensionCount after u.sets)
        sets := u.sets.map (suspendSet after) })
  if before = after then s else s.cascade ⟨.alarmChange, after.code⟩

/-! ### Lifecycle and timers (R108, R117) -/

/-- A set on entry to LISTENING (R108). -/
def loadSet (c : TriggerCfg) : TriggerSet :=
  ⟨c, if c.enabledAtStart then .enabled else .disabled⟩

/-- The trigger unit on entry to LISTENING (R108). -/
def State.triggerEntersListening (s : State) : State :=
  s.trigDo (fun u => { u with sets := s.cfg.triggers.map loadSet })

/-- The configuration of timer n. -/
def State.timerCfg (s : State) (n : Nat) : TimerCfg := s.cfg.timers.getD n ⟨1, .single⟩

/-- A due tick of interval timer n: the count rises by one (R117). A timer standing at its terminal count
expires before it ticks again (DEDUCED, log entry 24). -/
def State.timerTicks (s : State) (n : Nat) : State :=
  let t := s.trig.timer n
  if s.running = true ∧ t.running = true ∧ due t.tick s.clock = true ∧ t.count < (s.timerCfg n).terminal then
    s.trigDo
      (fun u => u.putTimer n { t with count := t.count + 1, tick := t.tick.map (· + 100) })
  else s

/-- Interval timer n at its terminal count expires: the timer first, then its occurrence (R117). -/
def State.timerExpires (s : State) (n : Nat) : State :=
  let t := s.trig.timer n
  if s.running = true ∧ t.running = true ∧ (s.timerCfg n).terminal ≤ t.count then
    (s.trigDo
      (fun u =>
        let u := { u with expiries := bump u.expiries }
        match (s.timerCfg n).mode with
        | .single => u.putTimer n stopTimer
        | .repeating => u.putTimer n { t with count := 0 })).cascade ⟨.timer, n⟩
  else s

end Sys2Proof.Machine
end

