-- ==== Sys2Proof/Machine/Cabin.lean ====
section
/-! DEFINITION. The cabin unit (chapter 5): input lines and their counted edges, service requests, cabin
information, the cabin sweep and the corridor tally. -/

namespace Sys2Proof.Machine

/-- Let the cabin unit change its own state. -/
def State.cabinDo (s : State) (f : CabinUnit → CabinUnit) : State := { s with cabin := f s.cabin }

/-- Line record n. -/
def CabinUnit.line (u : CabinUnit) (n : Nat) : LineRecord := u.lines.getD n LineRecord.reset

/-- Replace line record n. -/
def CabinUnit.putLine (u : CabinUnit) (n : Nat) (x : LineRecord) : CabinUnit :=
  { u with lines := u.lines.set n x }

/-! ### Service requests (R83, R84, R85) -/

/-- The SERVICE payload (R85). -/
def servicePayload (cabin : Nat) (service : ServiceState) (request : Nat) : List Byte :=
  octets2 cabin ++ octets1 service.code ++ octets1 request

/-- Queue the SERVICE frame that reports the service state held (R85). -/
def State.queueService (s : State) : State :=
  s.requestOwn .a .service (.cabin s.cfg.cabinNumber)
    (servicePayload s.cfg.cabinNumber s.cabin.service s.cabin.request)

/-- A service change with its report (R85). -/
def State.serviceChange (s : State) (service : ServiceState) (request : Nat) : State :=
  ((s.cabinDo (fun u => { u with service := service, request := request })).queueService).pageNotice
    .service

/-- The two service buttons. -/
inductive ServiceButton
  | privacy | makeup
deriving DecidableEq, Repr

/-- The service state a button edge leads to (the table of R84). -/
def serviceAfter : ServiceState → ServiceButton → ServiceState
  | .none, .privacy => .privacy
  | .none, .makeup => .makeup
  | .privacy, .privacy => .none
  | .privacy, .makeup => .makeup
  | .makeup, .privacy => .privacy
  | .makeup, .makeup => .none

/-- The request number after a move: one more on every entry into MAKEUP, wrapping from 255 (R83). -/
def requestAfter (request : Nat) (after : ServiceState) : Nat :=
  if after = .makeup then (request + 1) % 256 else request

/-- A counted edge of a service button at a CABIN node (R84). -/
def State.serviceButton (s : State) (b : ServiceButton) : State :=
  if s.alarm.level.emergency then
    s.cabinDo (fun u => { u with ignoredButtonEdges := bump u.ignoredButtonEdges })
  else
    let after := serviceAfter s.cabin.service b
    s.serviceChange after (requestAfter s.cabin.request after)

/-- A service-done number for this cabin (R87). -/
def State.serviceDone (s : State) (d : Nat) : State :=
  if s.cabin.service = .makeup ∧ d = s.cabin.request then s.serviceChange .none s.cabin.request
  else s.cabinDo (fun u => { u with staleServiceDone := bump u.staleServiceDone })

/-! ### Cabin sweep (R88, R89, R90) -/

/-- The three octets of a sweep minute; unknown is 16,777,215 (R90). -/
def sweepMinuteOctets : Option Nat → List Byte
  | some m => octets3 m
  | none => octets3 16777215

/-- The SWEEP payload (R90). -/
def sweepPayload (cabin : Nat) (sweep : SweepState) (minute : Option Nat) : List Byte :=
  octets2 cabin ++ octets1 sweep.code ++ sweepMinuteOctets minute

/-- Queue the SWEEP frame that reports the sweep state held (R90). -/
def State.queueSweep (s : State) : State :=
  s.requestOwn .a .sweep (.cabin s.cfg.cabinNumber)
    (sweepPayload s.cfg.cabinNumber s.cabin.sweep s.cabin.sweepMinute)

/-- The sweep minute of a change made now (R88). -/
def State.sweepMinuteNow (s : State) : Option Nat :=
  if s.time.state.known then some s.programmeMinute else none

/-- A sweep change with its report (R90). -/
def State.sweepChange (s : State) (sweep : SweepState) : State :=
  ((s.cabinDo
    (fun u => { u with sweep := sweep, sweepMinute := s.sweepMinuteNow })).queueSweep).pageNotice
      .sweep

/-- The edges that move the sweep state. -/
inductive SweepEdge
  | clear | assist | opening
deriving DecidableEq, Repr

/-- The sweep state an edge leads to; none where it is taken without effect (the table of R89). -/
def sweepAfter : SweepState → SweepEdge → Option SweepState
  | .idle, _ => none
  | .unchecked, .clear => some .cleared
  | .unchecked, .assist => some .assist
  | .unchecked, .opening => none
  | .cleared, .clear => none
  | .cleared, .assist => some .assist
  | .cleared, .opening => some .reopened
  | .assist, .clear => some .cleared
  | .assist, .assist => none
  | .assist, .opening => none
  | .reopened, .clear => some .cleared
  | .reopened, .assist => some .assist
  | .reopened, .opening => none

/-- A counted crew edge or opening at a CABIN node (R89). -/
def State.sweepEdge (s : State) (x : SweepEdge) : State :=
  match sweepAfter s.cabin.sweep x with
  | some sweep => s.sweepChange sweep
  | none => s

/-! ### Corridor tally (R92, R93) -/

/-- Take up a changed tally, with an urgent notice where either count changed (R93). -/
def State.takeTally (s : State) (before after : List TallyEntry) : State :=
  let t := s.cabinDo (fun u => { u with tally := some after })
  if uncheckedCount before = uncheckedCount after ∧ assistCount before = assistCount after then t
  else t.pageNotice .tally

/-- Every entry of the tally takes a state (R93). -/
def State.tallyAll (s : State) (sweep : SweepState) : State :=
  match s.cabin.tally with
  | none => s
  | some t => s.takeTally t (t.map (fun x => { x with sweep := sweep }))

/-- A SWEEP frame at the cabin unit (R92, R93). -/
def State.takeSweep (s : State) (p : SweepPayload) : State :=
  if s.running then
    match s.cabin.tally with
    | none => s
    | some t =>
      if t.any (fun x => decide (x.cabin = p.cabin)) then
        s.takeTally t
          (t.map (fun x => if x.cabin = p.cabin then { x with sweep := p.sweep } else x))
      else s
  else s

/-- The alarm notice at the cabin unit: ONSET and END (R88, R93). -/
def State.cabinTakesAlarm (s : State) (event : SweepEvent) : State :=
  match event with
  | .none => s
  | .onset =>
    if s.cfg.role = .cabin then
      let s := if s.cabin.service = .none then s else s.serviceChange .none s.cabin.request
      s.sweepChange .unchecked
    else s.tallyAll .unchecked
  | .ending =>
    if s.cfg.role = .cabin then
      if s.cabin.sweep = .idle then s else s.sweepChange .idle
    else s.tallyAll .idle

/-! ### Input lines (R79 to R82) -/

/-- The level a line stands at. -/
def State.pinLevel (s : State) (n : Nat) : Bool := s.pins.lines.getD n true

/-- Entry to LISTENING: a line takes its configuration and its level as stable level (R79). -/
def loadLine (c : LineCfg) (high : Bool) : LineRecord :=
  { function := c.function, edge := c.edge, debounce := c.debounce, stable := some high,
    deadline := none }

/-- The tally formed on entry to LISTENING (R92). -/
def formTally (cfg : ConfigCopy) : Option (List TallyEntry) :=
  let formed :=
    if cfg.sweepRanges = [] then none
    else some ((tallyCabins cfg.sweepRanges).map (fun c => (⟨c, .idle⟩ : TallyEntry)))
  match cfg.role with
  | .corridor => formed
  | .stair => formed
  | .cabin => none
  | .assembly => none

/-- Entry to LISTENING at the cabin unit (R79, R92). -/
def State.cabinEntersListening (s : State) : State :=
  s.cabinDo
    (fun u =>
      { u with
        lines := s.cfg.lines.mapIdx (fun n c => loadLine c (s.pinLevel n))
        tally := formTally s.cfg })

/-- A line that has moved to a level is debounced against its stable level (R80); true marks a rejected
bounce. -/
def LineRecord.moved (l : LineRecord) (now : Nat) (high : Bool) : LineRecord × Bool :=
  if l.stable = some high then
    match l.deadline with
    | some _ => ({ l with deadline := none }, true)
    | none => (l, false)
  else
    match l.deadline with
    | some _ => (l, false)
    | none => ({ l with deadline := some (now + l.debounce) }, false)

/-- A transition of an input line (R80); where lines are not sampled only the pin changes (R79). -/
def State.lineMoves (s : State) (n : Nat) (high : Bool) : State :=
  if s.pinLevel n = high then s
  else
    let s := { s with pins := { s.pins with lines := s.pins.lines.set n high } }
    if s.running then
      s.cabinDo
        (fun u =>
          match (u.line n).moved s.clock high with
          | (l, true) => { u.putLine n l with rejectedBounces := bump u.rejectedBounces }
          | (l, false) => u.putLine n l)
    else s

/-- The stable level that means OPEN (R81). -/
def openLevel : ActiveEdge → Bool
  | .rise => true
  | .fall => false
  | .both => true

/-- Whether a transition of the stable level to the given level is a counted edge (R81). -/
def LineRecord.counts (l : LineRecord) (high : Bool) : Bool :=
  match l.function with
  | .entryContact => decide (high = openLevel l.edge)
  | _ =>
    match l.edge with
    | .rise => high
    | .fall => !high
    | .both => true

/-- An INPUT occurrence (R82). -/
def State.inputOccurs (s : State) (n : Nat) : State := s.cascade ⟨.input, n⟩

/-- A counted edge is handed on by function and role (R82). -/
def State.countedEdge (s : State) (n : Nat) (f : LineFunction) : State :=
  match f with
  | .none => s
  | .entryContact => if s.cfg.role = .cabin then s.sweepEdge .opening else s
  | .privacyButton => if s.cfg.role = .cabin then s.serviceButton .privacy else s
  | .makeupButton => if s.cfg.role = .cabin then s.serviceButton .makeup else s
  | .crewClear => if s.cfg.role = .cabin then s.sweepEdge .clear else s
  | .crewAssist => if s.cfg.role = .cabin then s.sweepEdge .assist else s
  | .presence => (s.inputOccurs n).pagePresence
  | .triggerOnly => s.inputOccurs n

/-- A due debounce deadline (R80, R81). -/
def State.debounceEnds (s : State) (n : Nat) : State :=
  let l := s.cabin.line n
  if s.running = true ∧ due l.deadline s.clock = true then
    let high := s.pinLevel n
    if l.stable = some high then s.cabinDo (fun u => u.putLine n { l with deadline := none })
    else
      let t := s.cabinDo (fun u => u.putLine n { l with stable := some high, deadline := none })
      if l.counts high then t.countedEdge n l.function else t
  else s

/-- The contact level of the first ENTRY_CONTACT line, true for OPEN (R81, R94). -/
def CabinUnit.contact (u : CabinUnit) : Option Bool :=
  match u.lines.find? (fun l => decide (l.function = .entryContact)) with
  | some l => l.stable.map (fun high => decide (high = openLevel l.edge))
  | none => none

/-! ### CABIN frames and the report on OPERATING (R86, R91) -/

/-- The record part of a CABIN frame (R86). -/
def State.takeCabinInfo (s : State) (p : CabinPayload) : State :=
  let fresh := match s.cabin.info with
    | none => true
    | some c => newer 8 p.version c.version
  if fresh then
    (s.cabinDo
      (fun u =>
        { u with
          info := some
            { version := p.version
              greeting := p.greeting
              occupancy := p.occupancy
              embarkDay := p.embarkDay
              disembarkDay := p.disembarkDay } })).pageNotice .cabinInfo
  else s

/-- A CABIN frame at the cabin unit: the record, then the service-done (R86, R87). -/
def State.takeCabin (s : State) (p : CabinPayload) : State :=
  if s.running = true ∧ s.cfg.role = .cabin ∧ p.cabin = s.cfg.cabinNumber then
    match p.serviceDone with
    | some d => (s.takeCabinInfo p).serviceDone d
    | none => s.takeCabinInfo p
  else s

/-- The report of a CABIN node on entry to OPERATING (R91). -/
def State.cabinReport (s : State) : State :=
  if s.cfg.role = .cabin then
    let s := s.queueService
    if s.cabin.sweep = .idle then s else s.queueSweep
  else s

end Sys2Proof.Machine
end

