-- ==== Sys2Proof/Machine/Muster.lean ====
section
/-! DEFINITION. The muster selector (chapter 3): candidates, ranks and eligibility, fresh selection and
review, and what a change of target hands on. -/

namespace Sys2Proof.Machine

/-- Let the muster selector change its own state. -/
def State.musterDo (s : State) (f : MusterSelector → MusterSelector) : State :=
  { s with muster := f s.muster }

/-! ### Candidates and eligibility (R48, R49, R50) -/

/-- The record of the reassignment list for a zone and kind (R42). -/
def State.reassignment (s : State) (zone : Nat) (kind : PointKind) : Option Reassignment :=
  s.alarm.reassignments.find? (fun r => decide (r.zone = zone) && decide (r.kind = kind))

/-- The destination ordered for the own fire zone, where a record is present and its destination is not 0
(rank 0 of R48). -/
def State.orderedDest (s : State) (k : PointKind) : Option Nat :=
  match s.reassignment s.cfg.zone k with
  | some r => if r.dest = 0 then none else some r.dest
  | none => none

/-- The configured primary destination of a kind; 0 is none. -/
def ConfigCopy.primary (c : ConfigCopy) : PointKind → Nat
  | .assembly => c.assemblyPrimary
  | .embark => c.embarkPrimary

/-- The configured alternate destination of a kind; 0 is none. -/
def ConfigCopy.alternate (c : ConfigCopy) : PointKind → Nat
  | .assembly => c.assemblyAlternate
  | .embark => c.embarkAlternate

/-- An entry in state REACHABLE or ANCHOR. -/
def RouteEntry.routed (e : RouteEntry) : Bool :=
  decide (e.state = .reachable) || decide (e.state = .anchor)

/-- An entry of a kind that serves at rank 3 (R48). -/
def RouteEntry.servesKind (k : PointKind) (e : RouteEntry) : Bool :=
  decide (e.kind = k.destKind) && e.routed

/-- The best rank at which a destination is a candidate; HELD where it is named at none (R48). -/
def State.rankOf (s : State) (k : PointKind) (d : Nat) : MusterRank :=
  if s.orderedDest k = some d then .r0
  else if d ≠ 0 ∧ s.cfg.primary k = d then .r1
  else if d ≠ 0 ∧ s.cfg.alternate k = d then .r2
  else
    match s.routeEntry d with
    | some e => if e.servesKind k then .r3 else .held
    | none => .held

/-- A destination is eligible: routed, and not under smoke or fire where the label table places it
(R49). -/
def State.eligible (s : State) (d : Nat) : Bool :=
  (match s.routeEntry d with
    | some e => e.routed
    | none => false) &&
    (match s.labelOf d with
      | some l => !(s.zoneAt l.zone l.deck).blocks
      | none => true)

/-- A candidate with its rank and the cost that orders rank 3. -/
structure Candidate where
  dest : Nat
  rank : MusterRank
  cost : Nat
deriving DecidableEq, Repr

/-- The order of R50: lowest rank, then among rank 3 lowest cost, then lowest destination id. -/
def Candidate.before (x y : Candidate) : Bool :=
  if x.rank.code ≠ y.rank.code then decide (x.rank.code < y.rank.code)
  else if x.cost ≠ y.cost then decide (x.cost < y.cost)
  else decide (x.dest < y.dest)

/-- A destination as a candidate; the cost counts at rank 3 alone. -/
def State.candidateOf (s : State) (k : PointKind) (d : Nat) : Candidate :=
  let rank := s.rankOf k d
  { dest := d
    rank := rank
    cost :=
      match rank, s.routeEntry d with
      | .r3, some e => e.cost
      | _, _ => 0 }

/-- The destinations that are candidates at some rank (R48). -/
def State.candidateDests (s : State) (k : PointKind) : List Nat :=
  (match s.orderedDest k with
    | some d => [d]
    | none => []) ++
    (if s.cfg.primary k = 0 then [] else [s.cfg.primary k]) ++
    (if s.cfg.alternate k = 0 then [] else [s.cfg.alternate k]) ++
    (s.route.entries.filter (RouteEntry.servesKind k)).map (fun e => e.dest)

/-- The best eligible candidate among those a test admits (R50). -/
def State.bestCandidate (s : State) (k : PointKind) (admits : Candidate → Bool) :
    Option Candidate :=
  leastBy Candidate.before
    (((s.candidateDests k).map (s.candidateOf k)).filter (fun c => s.eligible c.dest && admits c))

/-! ### The record (R47, R51 to R55) -/

/-- Drop the return-pending candidate, its rank and the deadline. -/
def MusterSelector.dropPending (m : MusterSelector) : MusterSelector :=
  { m with candidate := none, candidateRank := none, returnDeadline := none }

/-- Point at a candidate, or at NONE. -/
def MusterSelector.pointAt (m : MusterSelector) (c : Option Candidate) : MusterSelector :=
  { m with dest := c.map (fun c => c.dest), rank := c.map (fun c => c.rank) }

/-- The cleared record, counters kept (R47). -/
def MusterSelector.cleared (m : MusterSelector) : MusterSelector :=
  { m.dropPending with kind := none, dest := none, rank := none }

/-- A fresh selection, or the clearing below GENERAL (R51). -/
def State.freshSelection (s : State) (after : Level) : MusterSelector :=
  match after with
  | .normal => s.muster.cleared
  | .alert => s.muster.cleared
  | .general =>
    { s.muster.dropPending with kind := some .assembly }.pointAt
      (s.bestCandidate .assembly (fun _ => true))
  | .abandon =>
    { s.muster.dropPending with kind := some .embark }.pointAt
      (s.bestCandidate .embark (fun _ => true))

/-- The return-pending candidate becomes the target, counted (R55). -/
def MusterSelector.makeReturn (m : MusterSelector) : MusterSelector :=
  { m.dropPending with
    dest := m.candidate
    rank := m.candidateRank
    returns := bump m.returns }

/-- Maintain the return-pending candidate for an eligible target of the given rank (R54). -/
def State.maintainPending (s : State) (k : PointKind) (m : MusterSelector) (rank : MusterRank) :
    MusterSelector :=
  match s.bestCandidate k (fun c => decide (c.rank.code < rank.code)) with
  | none => m.dropPending
  | some c =>
    if m.candidate = some c.dest then { m with candidateRank := some c.rank }
    else
      let taken :=
        { m with
          candidate := some c.dest
          candidateRank := some c.rank
          returnDeadline := some (s.clock + s.cfg.returnDelay * 1000) }
      if s.cfg.returnDelay = 0 then taken.makeReturn else taken

/-- Case 3 of a review: an eligible target (R52, R53, R54). -/
def State.reviewEligible (s : State) (k : PointKind) (d : Nat) : MusterSelector :=
  let m := { s.muster with rank := some (s.rankOf k d) }
  match s.bestCandidate k (fun c => decide (c.rank = .r0)) with
  | some c =>
    if c.dest = d then s.maintainPending k m (s.rankOf k d) else m.dropPending.pointAt (some c)
  | none => s.maintainPending k m (s.rankOf k d)

/-- A review (R52). -/
def State.review (s : State) : MusterSelector :=
  match s.muster.kind with
  | none => s.muster
  | some k =>
    match s.muster.dest with
    | none => s.muster.pointAt (s.bestCandidate k (fun _ => true))
    | some d =>
      if s.eligible d then s.reviewEligible k d
      else
        { s.muster.dropPending with switchesOnLoss := bump s.muster.switchesOnLoss }.pointAt
          (s.bestCandidate k (fun _ => true))

/-- Take up a new record; a change of kind or destination is told to the page selector, then to the panel
controller (R56). -/
def State.takeMuster (s : State) (m : MusterSelector) : State :=
  let t := s.musterDo (fun _ => m)
  if s.muster.kind = m.kind ∧ s.muster.dest = m.dest then t
  else (t.pageNotice .musterTarget).panelDo (fun e p => p.takeUrgency e)

/-- The alarm notice at the muster selector (R51). -/
def State.musterTakesAlarm (s : State) (after : Level) : State :=
  s.takeMuster (s.freshSelection after)

/-- A review made for a notice (R52). -/
def State.musterReview (s : State) : State := s.takeMuster s.review

/-- A due return deadline (R55). -/
def State.musterReturn (s : State) : State := s.takeMuster s.muster.makeReturn

end Sys2Proof.Machine
end

