-- ==== Sys2Proof/Machine/Programme.lean ====
section
/-! DEFINITION. The programme store (chapter 4): items, tombstones, the spotlight list, expiry, lead
detection and notices. -/

namespace Sys2Proof.Machine

/-- The most item records (R61), tombstones (R65) and spotlight ids (R72). -/
def itemCap : Nat := 128
def tombstoneCap : Nat := 16
def spotlightCap : Nat := 4

/-- Let the programme store change its own state. -/
def State.progDo (s : State) (f : ProgrammeStore → ProgrammeStore) : State := { s with prog := f s.prog }

/-- Store order: start, then item id (R61). -/
def Item.before (x y : Item) : Bool :=
  decide (x.start < y.start) || (decide (x.start = y.start) && decide (x.id < y.id))

/-- Insert a record at its place in store order. -/
def insertItem (i : Item) (t : List Item) : List Item := insertBy Item.before i t

/-- The list without the record of an id. -/
def removeItem (id : Nat) (t : List Item) : List Item := t.filter (fun i => decide (i.id ≠ id))

/-! ### Spotlight list (R72) -/

/-- Offer an id at lead detection: appended, the oldest dropped and counted on overflow (R72). -/
def ProgrammeStore.offer (p : ProgrammeStore) (id : Nat) : ProgrammeStore :=
  if p.spotlight.contains id then p
  else if p.spotlight.length < spotlightCap then { p with spotlight := p.spotlight ++ [id] }
  else
    { p with
      spotlight := p.spotlight.tail ++ [id]
      spotlightOverflows := bump p.spotlightOverflows }

/-- Take an id out of the spotlight list. -/
def ProgrammeStore.unspot (p : ProgrammeStore) (id : Nat) : ProgrammeStore :=
  { p with spotlight := p.spotlight.filter (fun x => decide (x ≠ id)) }

/-! ### ITEM and WITHDRAW (R62, R63, R66) -/

/-- A replacement takes its id out of the spotlight list when it sets CANCELLED, clears HIGHLIGHT or takes
the node out of the audience (R72). -/
def replacementUnspots (cfg : ConfigCopy) (old new : Item) : Bool :=
  (new.cancelled && !old.cancelled) || (old.highlight.isSome && new.highlight.isNone) ||
    (inAudience cfg old && !inAudience cfg new)

/-- Case 2 of R62: the held record is replaced in full and takes its place in store order. -/
def ProgrammeStore.replace (cfg : ConfigCopy) (p : ProgrammeStore) (old new : Item) :
    ProgrammeStore :=
  let p := { p with items := insertItem new (removeItem old.id p.items) }
  if replacementUnspots cfg old new then p.unspot new.id else p

/-- The record given up by R63 from the pool of held records and the new one: the latest outside the
audience, or else the latest overall. -/
def giveUp (cfg : ConfigCopy) (pool : List Item) : Option Item :=
  match (pool.filter (fun i => !inAudience cfg i)).getLast? with
  | some i => some i
  | none => pool.getLast?

/-- Case 5 of R62, by R63: the store and whether the frame is a change. -/
def ProgrammeStore.insertFull (cfg : ConfigCopy) (p : ProgrammeStore) (new : Item) :
    ProgrammeStore × Bool :=
  match giveUp cfg (insertItem new p.items) with
  | none => (p, false)
  | some i =>
    if i.id = new.id then ({ p with droppedItems := bump p.droppedItems }, false)
    else
      ({ p with
          items := insertItem new (removeItem i.id p.items)
          evictedItems := bump p.evictedItems : ProgrammeStore }.unspot i.id, true)

/-- The five cases of R62 on a clamped record: the store and whether the frame is a change. -/
def ProgrammeStore.takeItem (cfg : ConfigCopy) (p : ProgrammeStore) (new : Item) :
    ProgrammeStore × Bool :=
  let hit := match p.tombstones.find? (fun t => t.id == new.id) with
    | some t => !newer 8 new.version t.version
    | none => false
  if hit then ({ p with tombstoneHits := bump p.tombstoneHits }, false)
  else
    match p.items.find? (fun i => i.id == new.id) with
    | some old =>
      if newer 8 new.version old.version then (p.replace cfg old new, true) else (p, false)
    | none =>
      if p.items.length < itemCap then ({ p with items := insertItem new p.items }, true)
      else p.insertFull cfg new

/-- Append a tombstone; with 16 held the head is first removed and counted (R65). -/
def ProgrammeStore.appendTombstone (p : ProgrammeStore) (t : Tombstone) : ProgrammeStore :=
  if p.tombstones.length < tombstoneCap then { p with tombstones := p.tombstones ++ [t] }
  else
    { p with
      tombstones := p.tombstones.tail ++ [t]
      evictedTombstones := bump p.evictedTombstones }

/-- Step 1 of R66: the store and whether a record was removed. -/
def ProgrammeStore.withdrawItem (p : ProgrammeStore) (w : Tombstone) : ProgrammeStore × Bool :=
  match p.items.find? (fun i => i.id == w.id) with
  | some i =>
    if newer 8 i.version w.version then (p, false)
    else
      ({ p with
          items := removeItem w.id p.items
          withdrawnItems := bump p.withdrawnItems : ProgrammeStore }.unspot w.id, true)
  | none => (p, false)

/-- Step 2 of R66: the store and whether the queue changed. A held tombstone that is neither the same as
nor newer than the frame is older (R1), so one at the distance of 128 is replaced. -/
def ProgrammeStore.withdrawTombstone (p : ProgrammeStore) (w : Tombstone) : ProgrammeStore × Bool :=
  match p.tombstones.find? (fun t => t.id == w.id) with
  | none => (p.appendTombstone w, true)
  | some t =>
    if t.version = w.version ∨ newer 8 t.version w.version = true then (p, false)
    else ({ p with tombstones := p.tombstones.filter (fun x => decide (x.id ≠ w.id)) ++ [w] }, true)

/-! ### Minutes (R69, R70, R71) -/

/-- An expiry run at a programme minute (R69). -/
def ProgrammeStore.expire (p : ProgrammeStore) (minute : Nat) : ProgrammeStore :=
  let gone := p.items.filter (fun i => decide (i.last < minute))
  { p with
    items := p.items.filter (fun i => !decide (i.last < minute))
    expiredItems := bumpBy p.expiredItems gone.length
    spotlight := p.spotlight.filter (fun x => !gone.any (fun i => i.id == x)) }

/-- A record detected at a lead minute (R71). -/
def detectedAt (cfg : ConfigCopy) (minute : Nat) (i : Item) : Bool :=
  match i.highlight with
  | some lead => !i.cancelled && inAudience cfg i && decide (i.start = minute + lead)
  | none => false

/-- Lead detection for a minute (R71): every detected item is offered to the spotlight list, then each
gives its occurrence. -/
def State.detectLeads (s : State) (minute : Nat) : State :=
  let detected := s.prog.items.filter (detectedAt s.cfg minute)
  (s.progDo (fun p => detected.foldl (fun p i => p.offer i.id) p)).cascades
    (detected.map (fun i => ⟨.programmeLead, i.id⟩))

/-- The minute notice at the programme store (R69). -/
def State.progTakesMinute (s : State) (minute : Nat) : State :=
  let s := if s.time.state.known then s.progDo (fun p => p.expire minute) else s
  let s := if s.time.state.disciplined then s.detectLeads minute else s
  s.pageTakesProgramme

/-- The step notice at the programme store (R70). -/
def State.progTakesStep (s : State) (kind : StepKind) (crossed : List Nat) (minute : Nat) : State :=
  let run := fun (t : State) =>
    if t.time.state.known then t.progDo (fun p => p.expire minute) else t
  let s :=
    match kind with
    | .first => run s
    | .forwardShort =>
      run (if s.time.state.disciplined then crossed.foldl State.detectLeads s else s)
    | .forwardLong => run s
    | .backward => s
  s.pageTakesProgramme

/-- A spotlight-done request of the page selector (R72, R77). -/
def State.spotlightDone (s : State) (id : Nat) : State :=
  if s.prog.spotlight.contains id then (s.progDo (fun p => p.unspot id)).pageTakesProgramme else s

/-- A due spotlight deadline at the page selector (R124): the done request, then the list read afresh. -/
def State.pageSpotlightEnds (s : State) : State :=
  let s := match s.page.spotItem with
    | some i => s.spotlightDone i
    | none => s
  (s.pageDo (fun p => p.nextSpotlight s.prog.spotlight s.spotlightFrom)).finishPage false .other

/-! ### Frames (R60, R62, R64, R66) -/

/-- An ITEM frame at the programme store: whether it is a change, the programme notice with it, and the
state (R59, R60, R62, R64). -/
def State.takeItemFrame (s : State) (p : ItemPayload) : State × Bool :=
  if s.running then
    let s :=
      if p.clamps then s.progDo (fun q => { q with clampedItems := bump q.clampedItems }) else s
    match s.prog.takeItem s.cfg p.record with
    | (q, true) => ((s.progDo (fun _ => q)).pageTakesProgramme, true)
    | (q, false) => (s.progDo (fun _ => q), false)
  else (s, false)

/-- A WITHDRAW frame at the programme store (R60, R64, R66). -/
def State.takeWithdrawFrame (s : State) (w : Tombstone) : State × Bool :=
  if s.running then
    let first := s.prog.withdrawItem w
    let second := first.1.withdrawTombstone w
    let t := s.progDo (fun _ => second.1)
    (if first.2 then t.pageTakesProgramme else t, first.2 || second.2)
  else (s, false)

/-- Whether any held item names a destination as its venue (R76). -/
def State.referenced (s : State) (dest : Nat) : Bool := s.prog.items.any (fun i => i.venue == dest)

end Sys2Proof.Machine
end

