-- ==== Sys2Proof/Machine/Route.lean ====
section
/-! DEFINITION. The route engine (chapter 1): candidates, re-evaluation, marks and their requests,
creation, eviction, expiry and flush of entries, notices, and the advertisements an entry gives. -/

namespace Sys2Proof.Machine

/-- The most entries of the destination table (R3). -/
def tableCap : Nat := 48

/-- Let the route engine change its own state. -/
def State.routeDo (s : State) (f : RouteEngine → RouteEngine) : State := { s with route := f s.route }

/-! ### Candidates (R11, R12) -/

/-- A reachable candidate through a neighbour slot (R12). -/
structure RouteCandidate where
  slot : Nat
  cost : Nat
  hop : Nat
  viaStair : Bool
  viaBoundary : Bool
deriving DecidableEq, Repr

/-- The link factor F in eighths (R11). -/
def linkFactor (cfg : ConfigCopy) : LinkKind → Nat
  | .level => 8
  | .stairUp => cfg.stairUpFactor
  | .stairDown => cfg.stairDownFactor

/-- A stair link (R12). -/
def LinkKind.isStair : LinkKind → Bool
  | .level => false
  | .stairUp => true
  | .stairDown => true

/-- The weighted length W (R12 step 1). -/
def weightedLength (cfg : ConfigCopy) (l : NeighbourCfg) : Nat :=
  (l.distance * linkFactor cfg l.kind + 4) / 8

/-- The penalty P (R12 step 2). -/
def State.penalty (s : State) (l : NeighbourCfg) : Nat :=
  (if s.zoneAt l.zone l.deck = .caution then s.cfg.cautionPenalty else 0) +
    (if l.boundary && s.alarm.level.emergency then s.cfg.boundaryPenalty else 0)

/-- The candidate through one link from its cell; none is unreachable (R11, R12). -/
def State.linkCandidate (s : State) (n : Nat) (l : NeighbourCfg) (c : Cell) :
    Option RouteCandidate :=
  let cost := c.cost + weightedLength s.cfg l + s.penalty l
  if c.state ≠ .live ∨ c.cost = 65535 ∨ c.nextNode = s.cfg.nodeNumber ∨
      (s.zoneAt l.zone l.deck).blocks = true ∨ 65534 < cost ∨ 63 < c.hop + 1 then none
  else
    some
      { slot := n
        cost := cost
        hop := c.hop + 1
        viaStair := c.viaStair || l.kind.isStair
        viaBoundary := c.viaBoundary || l.boundary }

/-- The candidate through neighbour slot n of an entry's cells. -/
def State.candidateAt (s : State) (cells : List Cell) (n : Nat) : Option RouteCandidate :=
  match s.cfg.neighbours[n]?, cells[n]? with
  | some l, some c => s.linkCandidate n l c
  | _, _ => none

/-- The order of R14: lowest cost, then lowest hop, then lowest slot. -/
def RouteCandidate.before (x y : RouteCandidate) : Bool :=
  if x.cost ≠ y.cost then decide (x.cost < y.cost)
  else if x.hop ≠ y.hop then decide (x.hop < y.hop)
  else decide (x.slot < y.slot)

/-- The best reachable candidate among the slots a test admits (R14). -/
def State.bestRoute (s : State) (cells : List Cell) (admits : Nat → Bool) : Option RouteCandidate :=
  leastBy RouteCandidate.before (([0, 1, 2, 3, 4, 5].filter admits).filterMap (s.candidateAt cells))

/-! ### Re-evaluation (R13 to R17) -/

/-- An entry becomes or stays REACHABLE through a candidate (R13). -/
def RouteEntry.takeRoute (e : RouteEntry) (c : RouteCandidate) : RouteEntry :=
  { e with
    state := .reachable
    cost := c.cost
    hop := c.hop
    nextHop := .slot c.slot
    viaStair := c.viaStair
    viaBoundary := c.viaBoundary
    holdDownDeadline := none
    unreachableSince := none }

/-- An entry holds no route, with the values of HOLD_DOWN and UNREACHABLE (R13). -/
def RouteEntry.dropRoute (e : RouteEntry) (state : EntryState) : RouteEntry :=
  { e with
    state := state
    cost := 65535
    hop := 0
    nextHop := .none
    viaStair := false
    viaBoundary := false
    holdDownDeadline := none
    unreachableSince := none }

/-- An entry becomes UNREACHABLE at a given time. -/
def RouteEntry.becomeUnreachable (e : RouteEntry) (since : Nat) : RouteEntry :=
  { e.dropRoute .unreachable with unreachableSince := some since }

/-- A REACHABLE entry without a reachable candidate gives up its route (R14). -/
def State.giveUpRoute (s : State) (e : RouteEntry) : RouteEntry :=
  if s.cfg.holdDown = 0 then e.becomeUnreachable s.clock
  else { e.dropRoute .holdDown with holdDownDeadline := some (s.clock + s.cfg.holdDown * 1000) }

/-- A REACHABLE entry whose current next hop stays reachable (R15). -/
def State.keepOrSwitch (s : State) (e : RouteEntry) (current : RouteCandidate) : RouteEntry :=
  match s.bestRoute e.cells (fun n => decide (n ≠ current.slot)) with
  | none => e.takeRoute current
  | some other =>
    if s.cfg.hysteresis + other.cost < current.cost then e.takeRoute other
    else e.takeRoute current

/-- The candidate through an entry's next hop. -/
def State.currentCandidate (s : State) (e : RouteEntry) : Option RouteCandidate :=
  match e.nextHop with
  | .slot n => s.candidateAt e.cells n
  | .self => none
  | .none => none

/-- Re-evaluation by the rule for the entry's state (R5, R14 to R17). -/
def State.reevaluated (s : State) (e : RouteEntry) : RouteEntry :=
  match e.state with
  | .anchor => e
  | .holdDown => e
  | .reachable =>
    match s.currentCandidate e with
    | some c => s.keepOrSwitch e c
    | none =>
      match s.bestRoute e.cells (fun _ => true) with
      | some c => e.takeRoute c
      | none => s.giveUpRoute e
  | .unreachable =>
    match s.bestRoute e.cells (fun _ => true) with
    | some c => e.takeRoute c
    | none => e

/-! ### Marks and triggered requests (R23, R25) -/

/-- A change that sets the marks (R23). -/
def needsMark (threshold : Nat) (before after : RouteEntry) : Bool :=
  match before.state, after.state with
  | .reachable, .holdDown => true
  | .reachable, .unreachable => true
  | .holdDown, .reachable => true
  | .unreachable, .reachable => true
  | .reachable, .reachable =>
    decide (before.nextHop ≠ after.nextHop) ||
      (decide (before.cost ≠ after.cost) &&
        decide (before.cost + threshold ≤ after.cost ∨ after.cost + threshold ≤ before.cost))
  | _, _ => false

/-- A TRIGGERED request recorded at now (R25). -/
def State.requestTriggered (s : State) (p : Port) : State :=
  (s.requestToken p .triggered).routeDo
    (fun r => { r with lastRequest := r.lastRequest.put p (some s.clock) })

/-- A mark of port p has become set (R25; DEDUCED, log entry 16). -/
def State.markBecameSet (s : State) (p : Port) : State :=
  if s.start.lifecycle ≠ .operating then s
  else
    match s.route.lastRequest.get p with
    | none => s.requestTriggered p
    | some t =>
      if s.clock < t + s.cfg.triggeredGap then
        match s.route.gapExpiry.get p with
        | some _ => s
        | none =>
          s.routeDo
            (fun r => { r with gapExpiry := r.gapExpiry.put p (some (t + s.cfg.triggeredGap)) })
      else s.requestTriggered p

/-- Replace the entry of the same destination. -/
def replaceEntry (e : RouteEntry) (t : List RouteEntry) : List RouteEntry :=
  t.map (fun x => if x.dest = e.dest then e else x)

/-- Put a re-evaluated entry in the table, its marks set where R23 says so. -/
def State.storeEntry (s : State) (before after : RouteEntry) : State :=
  if needsMark s.cfg.triggeredThreshold before after then
    let ports := s.portsInUse
    let marked := { after with marks := ports.foldl (fun m p => m.put p .set) after.marks }
    (ports.filter (fun p => decide (before.marks.get p ≠ .set))).foldl State.markBecameSet
      (s.routeDo (fun r => { r with entries := replaceEntry marked r.entries }))
  else s.routeDo (fun r => { r with entries := replaceEntry after r.entries })

/-- Each hold-down entered is counted (R14, R28). -/
def State.countHoldDown (s : State) (before after : RouteEntry) : State :=
  if before.state = .reachable ∧ after.state = .holdDown then
    s.routeDo (fun r => { r with holdDownsEntered := bump r.holdDownsEntered })
  else s

/-- Re-evaluate the entry of a destination. -/
def State.reevaluate (s : State) (dest : Nat) : State :=
  match s.routeEntry dest with
  | none => s
  | some e => (s.countHoldDown e (s.reevaluated e)).storeEntry e (s.reevaluated e)

/-- A re-evaluation of all entries (R18). -/
def State.reevaluateAll (s : State) : State :=
  (s.route.entries.map (fun e => e.dest)).foldl State.reevaluate s

/-! ### Notices (R27) -/

/-- The distinct numbers of a list in ascending order. -/
def ascending (l : List Nat) : List Nat :=
  l.foldl (fun t d => if t.contains d then t else insertBy (fun x y => decide (x < y)) d t) []

/-- An entry's state and next hop, the content the muster selector and trigger unit are told of. -/
def routeOf (t : List RouteEntry) (dest : Nat) : Option (EntryState × NextHop) :=
  (t.find? (fun e => e.dest == dest)).map (fun e => (e.state, e.nextHop))

/-- An entry's displayed figures in a table. -/
def figuresIn (cfg : ConfigCopy) (t : List RouteEntry) (dest : Nat) : Option Figures :=
  (t.find? (fun e => e.dest == dest)).map (figuresOf cfg)

/-- The route engine's notices at the end of an event, against the table before it and the destinations
removed during it (R27; DEDUCED, log entry 17). -/
def State.routeNotices (s : State) (before : List RouteEntry) (removed : List Nat) : State :=
  let ids := ascending ((before ++ s.route.entries).map (fun e => e.dest) ++ removed)
  let moved := ids.filter
    (fun d => removed.contains d || decide (routeOf before d ≠ routeOf s.route.entries d))
  let shown := ids.filter
    (fun d =>
      removed.contains d || decide (figuresIn s.cfg before d ≠ figuresIn s.cfg s.route.entries d))
  let s :=
    if moved = [] then s
    else s.musterReview.cascades (moved.map (fun d => ⟨.routeChange, d⟩))
  if shown = [] then s else s.pageNotice .route

/-- A re-evaluation of all entries as an event of its own, with its notices (R18, R27). -/
def State.reevaluateAllEvent (s : State) : State := s.reevaluateAll.routeNotices s.route.entries []

/-! ### Creation and eviction (R4, R9, R20) -/

/-- A table entry as it is created: UNREACHABLE, with empty cells (R4, R9). -/
def RouteEntry.fresh (dest : Nat) (kind : DestKind) (pinned : Bool) (now : Nat) : RouteEntry where
  dest := dest
  kind := kind
  state := .unreachable
  cost := 65535
  hop := 0
  nextHop := .none
  viaStair := false
  viaBoundary := false
  marks := ⟨.clear, .clear⟩
  pinned := pinned
  holdDownDeadline := none
  unreachableSince := some now
  cells := List.replicate 6 Cell.empty

/-- A pinned ANCHOR entry (R4, R5). -/
def RouteEntry.anchored (dest : Nat) (kind : DestKind) (now : Nat) : RouteEntry :=
  { RouteEntry.fresh dest kind true now with
    state := .anchor
    cost := 0
    nextHop := .self
    unreachableSince := none }

/-- Insert an entry at its place in id order (R3). -/
def insertEntry (e : RouteEntry) (t : List RouteEntry) : List RouteEntry :=
  insertBy (fun x y => decide (x.dest < y.dest)) e t

/-- The pinned entry of a destination id (R4). -/
def pinnedEntry (cfg : ConfigCopy) (now dest : Nat) : RouteEntry :=
  match cfg.anchored.find? (fun a => a.dest == dest) with
  | some a => .anchored dest a.kind now
  | none =>
    match cfg.labels.find? (fun l => l.dest == dest) with
    | some l => .fresh dest l.kind true now
    | none => .fresh dest .venue true now

/-- The distinct destination ids named in the configuration, ascending (R4). -/
def pinnedIds (cfg : ConfigCopy) : List Nat :=
  ascending
    (cfg.anchored.map (fun a => a.dest) ++ cfg.labels.map (fun l => l.dest) ++
      cfg.signposted.map (fun d => d.dest))

/-- Entry to LISTENING at the route engine (R4). -/
def State.routeEntersListening (s : State) : State :=
  (s.routeDo
    (fun r => { r with entries := (pinnedIds s.cfg).map (pinnedEntry s.cfg s.clock) })).reevaluateAllEvent

/-- Case 1 of R20: the unpinned UNREACHABLE entry of earliest time, then lowest id. -/
def oldestUnreachable (t : List RouteEntry) : Option RouteEntry :=
  leastBy
    (fun x y =>
      let tx := x.unreachableSince.getD 0
      let ty := y.unreachableSince.getD 0
      decide (tx < ty) || (decide (tx = ty) && decide (x.dest < y.dest)))
    (t.filter (fun e => !e.pinned && decide (e.state = .unreachable)))

/-- Case 2 of R20: the unpinned unreferenced REACHABLE VENUE entry of highest cost, then highest id. -/
def State.costliestVenue (s : State) : Option RouteEntry :=
  leastBy
    (fun x y =>
      decide (y.cost < x.cost) || (decide (x.cost = y.cost) && decide (y.dest < x.dest)))
    (s.route.entries.filter
      (fun e =>
        !e.pinned && decide (e.state = .reachable) && decide (e.kind = .venue) &&
          !s.referenced e.dest))

/-- The entry R20 evicts, where there is one. -/
def State.evictee (s : State) : Option RouteEntry :=
  match oldestUnreachable s.route.entries with
  | some e => some e
  | none => s.costliestVenue

/-- The table without the entry of a destination. -/
def removeEntry (dest : Nat) (t : List RouteEntry) : List RouteEntry :=
  t.filter (fun e => decide (e.dest ≠ dest))

/-! ### ADVERT frames (R7, R8, R9) -/

/-- The slots a frame matches (R7). -/
def matchingSlots (cfg : ConfigCopy) (p : Port) (sender : Nat) : List Nat :=
  (List.range 6).filter
    (fun n =>
      match cfg.neighbours[n]? with
      | some l => decide (l.node = sender) && decide (l.port = p)
      | none => false)

/-- A refreshed cell (R6). -/
def liveCell (now : Nat) (a : AdvertEntry) : Cell :=
  ⟨.live, a.cost, a.hop, a.nextNode, a.viaStair, a.viaBoundary, now⟩

/-- Refresh the cells of the matching slots (R8). -/
def refreshCells (now : Nat) (slots : List Nat) (a : AdvertEntry) (cells : List Cell) : List Cell :=
  cells.mapIdx (fun n c => if slots.contains n then liveCell now a else c)

/-- An advertisement entry that is skipped (R8). -/
def AdvertEntry.outOfRange (a : AdvertEntry) : Bool :=
  decide (a.dest = 0) || (DestKind.ofCode a.kindCode).isNone || decide (63 < a.hop) ||
    decide (4095 < a.nextNode)

/-- A frame's work so far: the state and the destinations removed. -/
structure AdvertWork where
  state : State
  removed : List Nat
deriving DecidableEq, Repr

/-- Create an entry from an advertisement entry and re-evaluate it (R9). -/
def State.createEntry (s : State) (slots : List Nat) (a : AdvertEntry) (kind : DestKind) : State :=
  let e := RouteEntry.fresh a.dest kind false s.clock
  (s.routeDo
    (fun r =>
      { r with
        entries :=
          insertEntry { e with cells := refreshCells s.clock slots a e.cells } r.entries })).reevaluate
    a.dest

/-- An advertisement entry for a destination not held (R9, R20). -/
def AdvertWork.create (w : AdvertWork) (slots : List Nat) (a : AdvertEntry) (kind : DestKind) :
    AdvertWork :=
  if w.state.route.entries.length < tableCap then
    { w with state := w.state.createEntry slots a kind }
  else
    match w.state.evictee with
    | none =>
      { w with
        state := w.state.routeDo
          (fun r => { r with droppedDestinations := bump r.droppedDestinations }) }
    | some v =>
      { state :=
          (w.state.routeDo
            (fun r =>
              { r with
                entries := removeEntry v.dest r.entries
                evictedEntries := bump r.evictedEntries })).createEntry slots a kind
        removed := v.dest :: w.removed }

/-- A held destination's cells are refreshed and the entry re-evaluated (R8). -/
def State.refreshEntry (s : State) (slots : List Nat) (a : AdvertEntry) (e : RouteEntry) : State :=
  (s.routeDo
    (fun r =>
      { r with
        entries :=
          replaceEntry { e with cells := refreshCells s.clock slots a e.cells }
            r.entries })).reevaluate a.dest

/-- One advertisement entry (R8). -/
def AdvertWork.take (slots : List Nat) (w : AdvertWork) (a : AdvertEntry) : AdvertWork :=
  if a.outOfRange then
    { w with state := w.state.routeDo (fun r => { r with skippedEntries := bump r.skippedEntries }) }
  else
    match w.state.routeEntry a.dest with
    | some e => { w with state := w.state.refreshEntry slots a e }
    | none =>
      match DestKind.ofCode a.kindCode with
      | none => w
      | some kind =>
        if a.cost < 65535 ∧ a.nextNode ≠ w.state.cfg.nodeNumber then w.create slots a kind else w

/-- An ADVERT frame at the route engine (R7, R8). -/
def State.takeAdvert (s : State) (p : Port) (sender : Nat) (entries : List AdvertEntry) : State :=
  if s.running then
    match matchingSlots s.cfg p sender with
    | [] => s.routeDo (fun r => { r with nonNeighbourAdverts := bump r.nonNeighbourAdverts })
    | n :: more =>
      let w := entries.foldl (AdvertWork.take (n :: more)) ⟨s, []⟩
      w.state.routeNotices s.route.entries w.removed
  else s

/-! ### Deadlines of the table (R10, R17, R19) -/

/-- The node's advert interval in ms. -/
def State.advertMs (s : State) : Nat := s.cfg.advertInterval * 1000

/-- A cell is due to expire (R10). -/
def State.cellDue (s : State) (c : Cell) : Bool :=
  decide (c.state = .live) && decide (c.refreshed + 3 * s.advertMs ≤ s.clock)

/-- A cell expiry (R10). -/
def State.expireCell (s : State) (dest slot : Nat) : State :=
  match s.routeEntry dest with
  | none => s
  | some e =>
    match e.cells[slot]? with
    | none => s
    | some c =>
      if s.running = true ∧ s.cellDue c = true then
        ((s.routeDo
          (fun r =>
            { r with
              entries :=
                replaceEntry { e with cells := e.cells.set slot { c with state := .expired } }
                  r.entries })).reevaluate dest).routeNotices s.route.entries []
      else s

/-- The entry after its hold-down deadline (R17). -/
def State.afterHoldDown (s : State) (e : RouteEntry) (deadline : Nat) : RouteEntry :=
  match s.bestRoute e.cells (fun _ => true) with
  | some c => e.takeRoute c
  | none => e.becomeUnreachable deadline

/-- A hold-down deadline (R17). -/
def State.endHoldDown (s : State) (dest : Nat) : State :=
  match s.routeEntry dest with
  | none => s
  | some e =>
    match e.holdDownDeadline with
    | none => s
    | some d =>
      if s.running = true ∧ e.state = .holdDown ∧ d ≤ s.clock then
        (s.storeEntry e (s.afterHoldDown e d)).routeNotices s.route.entries []
      else s

/-- An entry is due to be flushed (R19). -/
def State.flushDue (s : State) (e : RouteEntry) : Bool :=
  !e.pinned && decide (e.state = .unreachable) &&
    due (e.unreachableSince.map (· + 6 * s.advertMs)) s.clock

/-- A flush (R19, R21). -/
def State.flushEntry (s : State) (dest : Nat) : State :=
  match s.routeEntry dest with
  | none => s
  | some e =>
    if s.running = true ∧ s.flushDue e = true then
      (s.routeDo
        (fun r =>
          { r with
            entries := removeEntry dest r.entries
            flushedEntries := bump r.flushedEntries })).routeNotices s.route.entries [dest]
    else s

/-! ### The advertisement schedule (R24, R25) -/

/-- A due periodic FULL request (R24; DESIGN CHOICE, log entry 8). -/
def State.periodicFull (s : State) : State :=
  if s.start.lifecycle = .operating ∧ due s.route.nextFull s.clock = true then
    (s.portsInUse.foldl (fun t p => t.requestToken p (.full 1)) s).routeDo
      (fun r => { r with nextFull := r.nextFull.map (· + s.advertMs) })
  else s

/-- Some entry holds a port's mark set. -/
def anyMarkSet (p : Port) (t : List RouteEntry) : Bool :=
  t.any (fun e => decide (e.marks.get p = .set))

/-- A due gap expiry (R25). -/
def State.gapEnds (s : State) (p : Port) : State :=
  if s.start.lifecycle = .operating ∧ due (s.route.gapExpiry.get p) s.clock = true then
    let t := s.routeDo (fun r => { r with gapExpiry := r.gapExpiry.put p none })
    if anyMarkSet p s.route.entries then t.requestTriggered p else t
  else s

/-! ### Advertisement entries and marks in flight (R22, R23, R161) -/

/-- The flags octet of an advertisement entry: bit 0 via stair, bit 1 via boundary (R166). The ROUTE item reuses
it (DESIGN CHOICE, log entry 29). -/
def advertFlags (viaStair viaBoundary : Bool) : Nat := boolCode viaStair + 2 * boolCode viaBoundary

/-- The advertisement entry of an entry (R22). -/
def advertised (cfg : ConfigCopy) (e : RouteEntry) : AdvertEntry :=
  match e.state with
  | .anchor => ⟨e.dest, e.kind.code, 0, 0, 0, false, false⟩
  | .reachable =>
    ⟨e.dest, e.kind.code, e.cost, e.hop,
      match neighbourOf cfg e.nextHop with
      | some n => n.node
      | none => 0, e.viaStair, e.viaBoundary⟩
  | .holdDown => ⟨e.dest, e.kind.code, 65535, 0, 0, false, false⟩
  | .unreachable => ⟨e.dest, e.kind.code, 65535, 0, 0, false, false⟩

/-- The eight octets of an advertisement entry (R166). -/
def AdvertEntry.octets (a : AdvertEntry) : List Byte :=
  octets1 a.dest ++ octets1 a.kindCode ++ octets2 a.cost ++ octets1 a.hop ++ octets2 a.nextNode ++
    octets1 (advertFlags a.viaStair a.viaBoundary)

/-- An ADVERT payload (R166). -/
def advertPayload (entries : List AdvertEntry) : List Byte :=
  octets1 entries.length ++ entries.flatMap AdvertEntry.octets

/-- The entries a token carries: from the cursor up, or those holding the port's mark set, at most
twelve (R161). -/
def carriedBy (p : Port) (kind : TokenKind) (t : List RouteEntry) : List RouteEntry :=
  match kind with
  | .full cursor => (t.filter (fun e => decide (cursor ≤ e.dest))).take 12
  | .triggered => (t.filter (fun e => decide (e.marks.get p = .set))).take 12

/-- The carried entries' marks become carried (R23). -/
def markCarried (p : Port) (ids : List Nat) (t : List RouteEntry) : List RouteEntry :=
  t.map (fun e => if ids.contains e.dest then { e with marks := e.marks.put p .carried } else e)

/-- SENT: each mark still carried becomes clear (R23). -/
def clearCarried (p : Port) (t : List RouteEntry) : List RouteEntry :=
  t.map
    (fun e => if e.marks.get p = .carried then { e with marks := e.marks.put p .clear } else e)

/-- Not sent: each mark still carried becomes set again (R23). -/
def resetCarried (p : Port) (t : List RouteEntry) : List RouteEntry :=
  t.map (fun e => if e.marks.get p = .carried then { e with marks := e.marks.put p .set } else e)

/-- The first and the last destination id of a run of entries. -/
def firstId (t : List RouteEntry) : Nat := (t.head?.map (fun e => e.dest)).getD 0
def lastId (t : List RouteEntry) : Nat := (t.getLast?.map (fun e => e.dest)).getD 0

/-- What stays queued of a token after a frame, read from the table with the frame's marks carried
(R161). -/
def tokenRest (p : Port) (kind : TokenKind) (last : Nat) (t : List RouteEntry) : Option TokenKind :=
  match kind with
  | .full _ =>
    if t.any (fun e => decide (last + 1 ≤ e.dest)) then some (.full (last + 1))
    else if anyMarkSet p t then some .triggered
    else none
  | .triggered => if anyMarkSet p t then some .triggered else none

/-- Where an unsent ADVERT frame's token returns to (R162). -/
def tokenOrigin (kind : TokenKind) (first : Nat) : FlightOrigin :=
  match kind with
  | .full _ => .fullToken first
  | .triggered => .triggeredToken

end Sys2Proof.Machine
end

