-- ==== Sys2Proof/Machine/Alarm.lean ====
section
/-! DEFINITION. The alarm state unit (chapter 2): the alarm record and its notices, the zone report list,
the reassignment list, and the suppression marks their frames set and their changes clear (R175). -/

namespace Sys2Proof.Machine

/-- The most zone reports held (R36). -/
def reportCap : Nat := 32

/-- Let the alarm state unit change its own state. -/
def State.alarmDo (s : State) (f : AlarmUnit → AlarmUnit) : State := { s with alarm := f s.alarm }

/-! ### Suppression marks (R175) -/

/-- Change the pending schedules of both ports. -/
def State.mapSchedules (s : State) (f : Schedule → Schedule) : State :=
  { s with start := { s.start with
    schedules := ⟨s.start.schedules.a.map f, s.start.schedules.b.map f⟩ } }

/-- Change the schedule of the port a frame was heard on, where it is pending in OPERATING (R45, R175). -/
def State.heardOn (s : State) (p : Port) (f : Schedule → Schedule) : State :=
  if s.start.lifecycle = .operating then
    { s with start := { s.start with
      schedules := s.start.schedules.put p ((s.start.schedules.get p).map f) } }
  else s

/-- Set, or clear, the mark of a zone report or of a place. -/
def Schedule.markZone (c : Schedule) (key : Nat × Nat) : Schedule :=
  { c with zoneMarks := key :: c.zoneMarks.filter (fun k => decide (k ≠ key)) }
def Schedule.unmarkZone (key : Nat × Nat) (c : Schedule) : Schedule :=
  { c with zoneMarks := c.zoneMarks.filter (fun k => decide (k ≠ key)) }
def Schedule.markPlace (c : Schedule) (key : Nat × PointKind) : Schedule :=
  { c with placeMarks := key :: c.placeMarks.filter (fun k => decide (k ≠ key)) }
def Schedule.unmarkPlace (key : Nat × PointKind) (c : Schedule) : Schedule :=
  { c with placeMarks := c.placeMarks.filter (fun k => decide (k ≠ key)) }

/-! ### ALARM frames (R31 to R35) -/

/-- What an ALARM frame does to the record (R31). -/
inductive AlarmVerdict
  | newEpoch
  | levelRose
  | noChange
  | older
deriving DecidableEq, Repr

/-- Compare a frame with the held record, epoch first (R31). -/
def AlarmUnit.verdict (u : AlarmUnit) (p : AlarmPayload) : AlarmVerdict :=
  match u.epoch with
  | none => .newEpoch
  | some e =>
    if newer 16 p.epoch e then .newEpoch
    else if p.epoch = e then if u.level.code < p.level.code then .levelRose else .noChange
    else .older

/-- The sweep event of a change (R33). -/
def sweepEventOf (newEpoch : Bool) (before after : Level) : SweepEvent :=
  if newEpoch then if after.emergency then .onset else .ending
  else if after.emergency && !before.emergency then .onset
  else .none

/-- The notices of an alarm change, block after block in the order of R34. -/
def State.alarmNotice (s : State) (before after : Level) (event : SweepEvent) : State :=
  match s.start.lifecycle with
  | .loading => s
  | .configFault => (s.indicatorTakes after).pageTakesAlarm after
  | .listening | .operating =>
    let s := if before.emergency = after.emergency then s else s.reevaluateAllEvent
    let s := s.cabinTakesAlarm event
    let s := s.musterTakesAlarm after
    let s := s.triggerTakesAlarm before after
    let s := s.panelDo (fun e p => p.takeAlarm e before after)
    (s.indicatorTakes after).pageTakesAlarm after

/-- The record takes a frame as a change; a new epoch empties the reassignment list, and the suppression
marks of changed content are cleared (R31, R35, R175). -/
def State.changeAlarm (s : State) (origin : Nat) (p : AlarmPayload) (newEpoch : Bool) : State :=
  let s := s.alarmDo
    (fun u =>
      { u with
        epoch := some p.epoch
        level := p.level
        origin := origin
        changedAt := some s.clock
        reassignments := if newEpoch then [] else u.reassignments })
  s.mapSchedules
    (fun c =>
      { c with alarmMark := false, placeMarks := if newEpoch then [] else c.placeMarks })

/-- A change of the record with its notices. -/
def State.acceptAlarm (s : State) (origin : Nat) (p : AlarmPayload) (newEpoch : Bool) : State :=
  (s.changeAlarm origin p newEpoch).alarmNotice s.alarm.level p.level
    (sweepEventOf newEpoch s.alarm.level p.level)

/-- An ALARM frame at the alarm state unit: the state and whether the frame is a change (R30 to R32). -/
def State.takeAlarmFrame (s : State) (origin : Nat) (p : AlarmPayload) : State × Bool :=
  if s.start.lifecycle = .loading then (s, false)
  else
    match s.alarm.verdict p with
    | .newEpoch => (s.acceptAlarm origin p true, true)
    | .levelRose => (s.acceptAlarm origin p false, true)
    | .noChange => (s, false)
    | .older => (s.alarmDo (fun u => { u with olderAlarmFrames := bump u.olderAlarmFrames }), false)

/-- The start block's part of an ALARM frame (R175). -/
def State.hearAlarm (s : State) (p : Port) (a : AlarmPayload) : State :=
  if s.alarm.epoch = some a.epoch ∧ s.alarm.level = a.level then
    s.heardOn p (fun c => { c with alarmMark := true })
  else s

/-! ### ZONE frames (R37 to R40) -/

/-- Key order: origin, then report number (R36). -/
def ZoneReport.before (x y : ZoneReport) : Bool :=
  decide (x.origin < y.origin) || (decide (x.origin = y.origin) && decide (x.number < y.number))

/-- The report of a key. -/
def ZoneReport.hasKey (origin number : Nat) (r : ZoneReport) : Bool :=
  decide (r.origin = origin) && decide (r.number = number)

/-- The report a frame brings, its decks in ascending order (R37). -/
def ZonePayload.report (p : ZonePayload) (origin now : Nat) : ZoneReport where
  origin := origin
  number := p.number
  sequence := p.sequence
  zone := p.zone
  deckLow := min p.deckLow p.deckHigh
  deckHigh := max p.deckLow p.deckHigh
  state := p.state
  received := now

/-- Earliest time received, then lowest in key order (R39). -/
def ZoneReport.olderThan (x y : ZoneReport) : Bool :=
  decide (x.received < y.received) || (decide (x.received = y.received) && x.before y)

/-- Lowest severity, then earliest, then lowest in key order (R39 step 2). -/
def ZoneReport.milderThan (x y : ZoneReport) : Bool :=
  if x.state.code ≠ y.state.code then decide (x.state.code < y.state.code) else x.olderThan y

/-- The report a new one of the given state displaces in a full list (R39). -/
def displacedBy (state : ZoneState) (t : List ZoneReport) : Option ZoneReport :=
  match leastBy ZoneReport.olderThan (t.filter (fun r => decide (r.state = .clear))) with
  | some r => some r
  | none =>
    leastBy ZoneReport.milderThan (t.filter (fun r => decide (r.state.code < state.code)))

/-- The list without a key. -/
def removeReport (origin number : Nat) (t : List ZoneReport) : List ZoneReport :=
  t.filter (fun r => !r.hasKey origin number)

/-- Insert a report at its place in key order. -/
def insertReport (r : ZoneReport) (t : List ZoneReport) : List ZoneReport :=
  insertBy ZoneReport.before r t

/-- A change of the list: the route engine re-evaluates all entries, then the muster selector reviews
(R40). -/
def State.zoneChanged (s : State) : State := s.reevaluateAllEvent.musterReview

/-- Replace the list and clear the mark of the report that left or was replaced (R175). -/
def State.putReports (s : State) (key : Nat × Nat) (t : List ZoneReport) : State :=
  (s.alarmDo (fun u => { u with reports := t })).mapSchedules (Schedule.unmarkZone key)

/-- A new report on a full list (R39). -/
def State.storeOverFull (s : State) (r : ZoneReport) : State × Bool :=
  match displacedBy r.state s.alarm.reports with
  | none => (s.alarmDo (fun u => { u with droppedReports := bump u.droppedReports }), false)
  | some x =>
    (((s.putReports (x.origin, x.number)
        (insertReport r (removeReport x.origin x.number s.alarm.reports))).alarmDo
      (fun u => { u with evictedReports := bump u.evictedReports })).zoneChanged, true)

/-- A ZONE frame at the alarm state unit: the state and whether the frame is a change (R38). -/
def State.takeZoneFrame (s : State) (origin : Nat) (p : ZonePayload) : State × Bool :=
  if s.running then
    let r := p.report origin s.clock
    match s.alarm.reports.find? (ZoneReport.hasKey origin p.number) with
    | some held =>
      if newer 8 p.sequence held.sequence then
        ((s.putReports (origin, p.number)
          (insertReport r (removeReport origin p.number s.alarm.reports))).zoneChanged, true)
      else (s, false)
    | none =>
      if s.alarm.reports.length < reportCap then
        ((s.alarmDo (fun u => { u with reports := insertReport r u.reports })).zoneChanged, true)
      else s.storeOverFull r
  else (s, false)

/-- The start block's part of a ZONE frame (R175). -/
def State.hearZone (s : State) (p : Port) (origin : Nat) (z : ZonePayload) : State :=
  match s.alarm.reports.find? (ZoneReport.hasKey origin z.number) with
  | some r =>
    if r.sequence = z.sequence then s.heardOn p (fun c => c.markZone (origin, z.number)) else s
  | none => s

/-! ### REASSIGN frames (R43, R44) -/

/-- Place order: zone, then ASSEMBLY before EMBARK (R45). -/
def Reassignment.before (x y : Reassignment) : Bool :=
  decide (x.zone < y.zone) || (decide (x.zone = y.zone) && decide (x.kind.code < y.kind.code))

/-- The record in a place. -/
def Reassignment.inPlace (zone : Nat) (kind : PointKind) (r : Reassignment) : Bool :=
  decide (r.zone = zone) && decide (r.kind = kind)

/-- Store a record in its place. -/
def storeReassignment (r : Reassignment) (t : List Reassignment) : List Reassignment :=
  insertBy Reassignment.before r (t.filter (fun x => !x.inPlace r.zone r.kind))

/-- The record a frame brings (R42). -/
def ReassignPayload.record (p : ReassignPayload) (origin : Nat) : Reassignment :=
  ⟨p.zone, p.kind, p.dest, p.epoch, p.sequence, origin⟩

/-- The reassignment notice at the muster selector: a review for the own zone and current kind (R44,
R52). -/
def State.musterTakesReassignment (s : State) (zone : Nat) (kind : PointKind) : State :=
  if zone = s.cfg.zone ∧ s.muster.kind = some kind then s.musterReview else s

/-- A frame accepted as a change (R43, R44, R175). -/
def State.acceptReassign (s : State) (origin : Nat) (p : ReassignPayload) : State :=
  ((s.alarmDo
    (fun u => { u with reassignments := storeReassignment (p.record origin) u.reassignments })).mapSchedules
      (Schedule.unmarkPlace (p.zone, p.kind))).musterTakesReassignment p.zone p.kind

/-- A REASSIGN frame at the alarm state unit: the state and whether the frame is a change (R43). -/
def State.takeReassignFrame (s : State) (origin : Nat) (p : ReassignPayload) : State × Bool :=
  if s.running then
    if s.alarm.epoch = some p.epoch then
      match s.reassignment p.zone p.kind with
      | none => (s.acceptReassign origin p, true)
      | some held =>
        if newer 8 p.sequence held.sequence then (s.acceptReassign origin p, true) else (s, false)
    else
      (s.alarmDo (fun u => { u with otherEpochReassignments := bump u.otherEpochReassignments }),
        false)
  else (s, false)

/-- The start block's part of a REASSIGN frame (R175; DEDUCED, log entry 31). -/
def State.hearReassign (s : State) (p : Port) (r : ReassignPayload) : State :=
  match s.reassignment r.zone r.kind with
  | some held =>
    if held.sequence = r.sequence then s.heardOn p (fun c => c.markPlace (r.zone, r.kind)) else s
  | none => s

/-! ### Solicit response frames (R45) -/

/-- The ALARM payload of the held record; absent while the epoch is NONE. -/
def AlarmUnit.alarmPayload (u : AlarmUnit) : Option (List Byte) :=
  u.epoch.map (fun e => octets2 e ++ octets1 u.level.code)

/-- The ZONE payload of a held report (R165). -/
def ZoneReport.payload (r : ZoneReport) : List Byte :=
  octets1 r.number ++ octets1 r.sequence ++ octets1 r.zone ++ octets1 r.deckLow ++
    octets1 r.deckHigh ++ octets1 r.state.code

/-- The REASSIGN payload of a held record (R165). -/
def Reassignment.payload (epoch : Nat) (r : Reassignment) : List Byte :=
  octets2 epoch ++ octets1 r.zone ++ octets1 r.kind.code ++ octets1 r.dest ++ octets1 r.sequence

end Sys2Proof.Machine
end

