-- ==== Sys2Proof/Machine/ShipTime.lean ====
section
/-! DEFINITION. The ship time unit (chapter 6): sources and selection, residues, slew and steps, time
states, minute and step announcements, and beacons. -/

namespace Sys2Proof.Machine

/-- The most entries of the source table (R98). -/
def sourceCap : Nat := 4

/-- Let the ship time unit change its own state. -/
def State.timeDo (s : State) (f : TimeUnit → TimeUnit) : State := { s with time := f s.time }

/-! ### Announcements (R104, R105) -/

/-- A time notice to the page selector, where the node runs (R104). -/
def State.timeNotice (s : State) : State := if s.running then s.pageNotice .other else s

/-- One MINUTE occurrence (R104, R110). -/
def minuteOccurrence (minute : Nat) : Occurrence := ⟨.minute, minuteOfDay minute⟩

/-- A programme minute is announced: the notified minute takes it and, where the node runs, the programme
store, the trigger unit and the page selector are told (R104). -/
def State.announceMinute (s : State) (minute : Nat) : State :=
  let s := s.timeDo (fun u => { u with notifiedMinute := minute })
  if s.running then
    let s := s.progTakesMinute minute
    let s := if s.time.state.disciplined then s.cascade (minuteOccurrence minute) else s
    s.pageNotice .other
  else s

/-- Announce the current programme minute where it is above the notified one (R104). -/
def State.reachMinute (s : State) : State :=
  if s.time.notifiedMinute < s.programmeMinute then s.announceMinute s.programmeMinute else s

/-- The kind of a confirmed step of r ms (R105; DEDUCED, log entry 27). -/
def stepKindOf (r : Int) : StepKind :=
  if 600000 < r then .forwardLong else if r < 0 then .backward else .forwardShort

/-- The crossed minutes of a FORWARD_SHORT step: above the notified minute up to n, ascending (R105). -/
def crossedMinutes (kind : StepKind) (notified n : Nat) : List Nat :=
  match kind with
  | .first => []
  | .forwardShort => List.range' (notified + 1) (n - notified)
  | .forwardLong => []
  | .backward => []

/-- The notified minute after a step (R105). -/
def notifiedAfter (kind : StepKind) (notified n : Nat) : Nat :=
  match kind with
  | .first => n
  | .forwardShort => max notified n
  | .forwardLong => n
  | .backward => n

/-- A step is announced, the offset having changed (R105). -/
def State.announceStep (s : State) (kind : StepKind) : State :=
  let n := s.programmeMinute
  let crossed := crossedMinutes kind s.time.notifiedMinute n
  let s := s.timeDo (fun u => { u with notifiedMinute := notifiedAfter kind u.notifiedMinute n })
  if s.running then
    ((s.progTakesStep kind crossed n).cascades (crossed.map minuteOccurrence)).pageNotice .other
  else s

/-! ### Sources (R98, R99) -/

/-- The order of selection: lowest stratum, then lowest sender (R99). -/
def TimeSource.before (x y : TimeSource) : Bool :=
  decide (x.stratum < y.stratum) || (decide (x.stratum = y.stratum) && decide (x.sender < y.sender))

/-- The order in which a full table gives up an entry: highest stratum, then earliest last beacon, then
highest sender (R98). -/
def TimeSource.givenUpBefore (x y : TimeSource) : Bool :=
  if x.stratum ≠ y.stratum then decide (y.stratum < x.stratum)
  else if x.lastBeacon ≠ y.lastBeacon then decide (x.lastBeacon < y.lastBeacon)
  else decide (y.sender < x.sender)

/-- Put a source in the table; the model keeps it in sender order (DESIGN CHOICE, log entry 28). -/
def addSource (x : TimeSource) (t : List TimeSource) : List TimeSource :=
  insertBy (fun a b => decide (a.sender < b.sender)) x t

/-- The table without a sender. -/
def removeSource (sender : Nat) (t : List TimeSource) : List TimeSource :=
  t.filter (fun x => decide (x.sender ≠ sender))

/-- The selection made afresh: a source change empties the step-confirm record (R99). -/
def TimeUnit.reselect (u : TimeUnit) : TimeUnit :=
  let best := leastBy TimeSource.before u.sources
  let chosen := best.map (fun x => x.sender)
  { u with
    selected := chosen
    ownStratum := best.map (fun x => x.stratum + 1)
    confirm := if u.selected = chosen then u.confirm else none }

/-- A usable beacon is offered to the table (R98). -/
def TimeUnit.offer (u : TimeUnit) (x : TimeSource) : TimeUnit :=
  if u.sources.any (fun y => decide (y.sender = x.sender)) then
    { u with sources := addSource x (removeSource x.sender u.sources) }.reselect
  else if u.sources.length < sourceCap then { u with sources := addSource x u.sources }.reselect
  else
    match leastBy TimeSource.givenUpBefore u.sources with
    | some y =>
      if x.stratum < y.stratum then
        { u with sources := addSource x (removeSource y.sender u.sources) }.reselect
      else { u with refusedSources := bump u.refusedSources }
    | none => { u with refusedSources := bump u.refusedSources }

/-! ### Discipline (R100, R101, R102, R103) -/

/-- The residue of a beacon in ms (R100). -/
def State.residue (s : State) (b : BeaconPayload) : Int :=
  ((b.seconds * 1000 + b.millis + s.cfg.transitAllowance : Nat) : Int) - (s.shipMs : Int)

/-- A step of r ms at the unit: the slew is dropped and the record emptied; SYNCED drops the stale
deadline (R100, R102, R103). -/
def TimeUnit.step (u : TimeUnit) (r : Int) : TimeUnit :=
  { u with
    offset := u.offset + r
    slewRemaining := 0
    slewTick := none
    confirm := none
    state := .synced
    staleDeadline := none }

/-- A slew of r ms begins or replaces another, whose tick phase it keeps (R100, R101). -/
def TimeUnit.slew (u : TimeUnit) (now : Nat) (r : Int) : TimeUnit :=
  { u with
    slewRemaining := r
    slewTick :=
      if r = 0 then none else if u.slewRemaining = 0 then some (now + 64) else u.slewTick
    confirm := none }

/-- HOLDOVER or STALE becomes SYNCED (R103). -/
def TimeUnit.resync (u : TimeUnit) : TimeUnit :=
  match u.state with
  | .unset => u
  | .synced => u
  | .holdover => { u with state := .synced, staleDeadline := none }
  | .stale => { u with state := .synced, staleDeadline := none }

/-- A residue within the slew window (R100). -/
def State.slewBeacon (s : State) (r : Int) : State :=
  let t := s.timeDo (fun u => (u.slew s.clock r).resync)
  if s.time.state = t.time.state then t else t.timeNotice

/-- A residue beyond the slew window (R102). -/
def State.stepBeacon (s : State) (r : Int) : State :=
  let unconfirmed := s.timeDo
    (fun u => { u with confirm := some r, unconfirmedSteps := bump u.unconfirmedSteps })
  match s.time.confirm with
  | none => unconfirmed
  | some q =>
    if (r - q).natAbs ≤ s.cfg.slewWindow then
      (s.timeDo
        (fun u => { u.step r with stepsTaken := bump u.stepsTaken })).announceStep (stepKindOf r)
    else unconfirmed

/-- A disciplining beacon of residue r (R100). -/
def State.discipline (s : State) (r : Int) : State :=
  if s.time.state = .unset then (s.timeDo (fun u => u.step r)).announceStep .first
  else if r.natAbs ≤ s.cfg.slewWindow then s.slewBeacon r
  else s.stepBeacon r

/-- A BEACON frame at the ship time unit (R97). -/
def State.takeBeacon (s : State) (sender : Nat) (b : BeaconPayload) : State :=
  if s.running then
    if b.stratum = 15 ∨ b.state ≠ .synced then
      s.timeDo (fun u => { u with unusableBeacons := bump u.unusableBeacons })
    else
      let t := s.timeDo (fun u => u.offer ⟨sender, b.stratum, s.clock⟩)
      if t.time.selected = some sender then t.discipline (t.residue b) else t
  else s

/-! ### Deadlines (R99, R101, R103, R106) -/

/-- A table left empty in SYNCED brings HOLDOVER (R103). -/
def TimeUnit.holdOver (u : TimeUnit) (until_ : Nat) : TimeUnit :=
  if u.sources = [] ∧ u.state = .synced then
    { u with state := .holdover, staleDeadline := some until_ }
  else u

/-- The expiry of a source (R99, R103). -/
def State.expireSource (s : State) (sender : Nat) : State :=
  match s.time.sources.find? (fun x => decide (x.sender = sender)) with
  | none => s
  | some x =>
    if s.running = true ∧ x.lastBeacon + 3 * (s.cfg.beaconInterval * 1000) ≤ s.clock then
      let t := s.timeDo
        (fun u =>
          ({ u with sources := removeSource sender u.sources }.reselect).holdOver
            (s.clock + s.cfg.staleLimit * 60000))
      if s.time.state = t.time.state then t else t.timeNotice
    else s

/-- One slew tick of the unit: offset and remaining move by 1 ms (R101). -/
def TimeUnit.tickSlew (u : TimeUnit) : TimeUnit :=
  let move : Int := if 0 < u.slewRemaining then 1 else -1
  let left := u.slewRemaining - move
  { u with
    offset := u.offset + move
    slewRemaining := left
    slewTick := if left = 0 then none else u.slewTick.map (· + 64) }

/-- A due slew tick; upward across a minute boundary it is taken like running time (R101, R104). -/
def State.slewTicks (s : State) : State :=
  if due s.time.slewTick s.clock = true ∧ s.time.slewRemaining ≠ 0 then
    let t := s.timeDo TimeUnit.tickSlew
    if 0 < s.time.slewRemaining then t.reachMinute else t
  else s

/-- A due stale deadline (R103). -/
def State.becomeStale (s : State) : State :=
  if s.time.state = .holdover ∧ due s.time.staleDeadline s.clock = true then
    (s.timeDo (fun u => { u with state := .stale, staleDeadline := none })).timeNotice
  else s

/-- This node may send beacons: SYNCED, own stratum 14 or less (R106). -/
def TimeUnit.beaconing (u : TimeUnit) : Bool :=
  decide (u.state = .synced) &&
    match u.ownStratum with
    | some n => decide (n ≤ 14)
    | none => false

/-- A due beacon deadline (R106). -/
def State.beaconDue (s : State) : State :=
  if s.start.lifecycle = .operating ∧ due s.time.beaconDeadline s.clock = true then
    (if s.time.beaconing then
      s.portsInUse.foldl (fun t p => t.request p .beacon .whole .beacon) s
    else s).timeDo
      (fun u => { u with beaconDeadline := u.beaconDeadline.map (· + s.cfg.beaconInterval * 1000) })
  else s

/-- The stratum a beacon carries as its transmission starts (R106; DEDUCED, log entry 30). -/
def TimeUnit.sentStratum (u : TimeUnit) : Nat :=
  if u.state = .synced then u.ownStratum.getD 15 else 15

/-- The BEACON frame as its transmission starts (R106, R165). -/
def State.beaconFrame (s : State) : TxFrame :=
  s.ownFrame .beacon
    (octets4 (s.shipMs / 1000) ++ octets2 (s.shipMs % 1000) ++ octets1 s.time.sentStratum ++
      octets1 s.time.state.code)

end Sys2Proof.Machine
end

