-- ==== Sys2Proof/Machine/Line.lean ====
section
/-! DEFINITION. The line side of a port: what a transmission start takes from the queue, and its three
outcomes (R153, R154, R161, R162). -/

namespace Sys2Proof.Machine

/-- The port may start a transmission (R153); that the line is idle is the command's own premise. -/
def State.canTransmit (s : State) (p : Port) : Bool :=
  decide (s.start.lifecycle = .operating) && (s.ports.get p).inUse &&
    decide ((s.ports.get p).state = .up) && (s.ports.get p).inFlight.isNone

/-- The queue's rest and the frame in flight after a start. -/
def State.launch (s : State) (p : Port) (rest : List QueueEntry) (f : InFlight) : State :=
  s.putPort p { s.ports.get p with queue := rest, inFlight := some f }

/-- A token's frame: the entries it carries go out, their marks carried, and the token stays queued where
R161 says so. -/
def State.launchToken (s : State) (p : Port) (e : QueueEntry) (kind : TokenKind)
    (rest : List QueueEntry) (carried : List RouteEntry) : State :=
  let table := markCarried p (carried.map (fun x => x.dest)) s.route.entries
  let queue := match tokenRest p kind (lastId carried) table with
    | some k => { e with content := .token k } :: rest
    | none => rest
  (s.routeDo (fun r => { r with entries := table })).launch p queue
    ⟨e.key, e.age, tokenOrigin kind (firstId carried),
      s.ownFrame .advert (advertPayload (carried.map (advertised s.cfg)))⟩

/-- Take the head of a queue; a token that finds nothing to carry leaves, and the next head is considered
at once (R153, R161). -/
def State.startHead (s : State) (p : Port) : List QueueEntry → State
  | [] => s.putPort p { s.ports.get p with queue := [] }
  | e :: rest =>
    match e.content with
    | .fixed f => s.launch p rest ⟨e.key, e.age, .fixed, f⟩
    | .beacon => s.launch p rest ⟨e.key, e.age, .beacon, s.beaconFrame⟩
    | .token kind =>
      match carriedBy p kind s.route.entries with
      | [] => s.startHead p rest
      | x :: more => s.launchToken p e kind rest (x :: more)

/-- A transmission start (R153; DESIGN CHOICE, log entry 14). -/
def State.startTransmission (s : State) (p : Port) : State :=
  if s.canTransmit p then s.startHead p (s.ports.get p).queue else s

/-- Whether a frame came from the token. -/
def FlightOrigin.isToken : FlightOrigin → Bool
  | .fixed => false
  | .beacon => false
  | .fullToken _ => true
  | .triggeredToken => true

/-- The route engine is told that a frame was sent (R162). -/
def State.tellSent (s : State) (p : Port) (f : InFlight) : State :=
  if f.source.isToken then s.routeDo (fun r => { r with entries := clearCarried p r.entries })
  else s

/-- The route engine is told that a frame was not sent (R162). -/
def State.tellUnsent (s : State) (p : Port) (f : InFlight) : State :=
  if f.source.isToken then s.routeDo (fun r => { r with entries := resetCarried p r.entries })
  else s

/-- SENT (R153). -/
def State.frameSent (s : State) (p : Port) : State :=
  match (s.ports.get p).inFlight with
  | none => s
  | some f =>
    let c := s.ports.get p
    (s.putPort p
      { c with inFlight := none, faultRun := 0, framesSent := bump c.framesSent }).tellSent p f

/-- The port controller with its in-flight frame returned to the queue. -/
def PortCtl.takeBack (c : PortCtl) (f : InFlight) : PortCtl :=
  ({ c with inFlight := none }).returnFlight f

/-- ARBITRATION LOST (R153). -/
def State.arbitrationWasLost (s : State) (p : Port) : State :=
  match (s.ports.get p).inFlight with
  | none => s
  | some f =>
    let c := s.ports.get p
    (s.putPort p
      ({ c with arbitrationLosses := bump c.arbitrationLosses }.takeBack f)).tellUnsent p f

/-- The fault run rises by one; the sixteenth fault takes the port DOWN (R153, R154). -/
def PortCtl.raiseFaultRun (c : PortCtl) : PortCtl :=
  if 15 ≤ c.faultRun then c.goDown else { c with faultRun := c.faultRun + 1 }

/-- TRANSMIT FAULT (R153, R154). -/
def State.transmitFaulted (s : State) (p : Port) : State :=
  match (s.ports.get p).inFlight with
  | none => s
  | some f =>
    let c := s.ports.get p
    ((s.putPort p
      ({ c with transmitFaults := bump c.transmitFaults }.takeBack f).raiseFaultRun).tellUnsent p
        f).updateFault

end Sys2Proof.Machine
end

