-- ==== Sys2Proof/Machine/Start.lean ====
section
/-! DEFINITION. The start block (chapter 11): resets, the end of the image read, the lifecycle, solicits
and solicit responses; and the indicator unit's edges (R180). -/

namespace Sys2Proof.Machine

/-- Let the start block change its own state. -/
def State.startDo (s : State) (f : StartBlock → StartBlock) : State := { s with start := f s.start }

/-! ### Resets (R169) -/

/-- The shortest low pulse taken as a reset, in µs (pin summary 12.3). -/
def minimumPulse : Nat := 10

/-- Power-on (R169). The pins and the waiting commands stand outside the node. -/
def State.powersOn (s : State) (strap : PanelKind) : State :=
  State.afterReset .power 0 strap s.pins s.pending

/-- A low pulse on the reset line (R169); a shorter one than the minimum is no reset. -/
def State.lineResets (s : State) (strap : PanelKind) (pulseMicros : Nat) : State :=
  if minimumPulse ≤ pulseMicros then
    State.afterReset .line (min 255 (s.start.startCount + 1)) strap s.pins s.pending
  else s

/-! ### The end of the image read (R170 to R173) -/

/-- The bit rate of a port in CONFIG_FAULT, from the image's bit rate octet (R152). -/
def faultBitRate (image : List Byte) : BitRate :=
  if imageOctet image 6 ≤ 1 then BitRate.ofCode (imageOctet image 6) else .kbit125

/-- Put a port in use at a bit rate (R152). -/
def State.usePort (s : State) (p : Port) (rate : BitRate) : State :=
  s.putPort p { s.ports.get p with inUse := true, bitRate := some rate }

/-- Entry to CONFIG_FAULT (R171). -/
def State.entersConfigFault (s : State) (image : List Byte) (checkGood : Bool) : State :=
  let s := s.startDo
    (fun b => { b with lifecycle := .configFault, configGood := some checkGood })
  let s := s.usePort .a (faultBitRate image)
  let s := s.panelDo (fun _ p => p.enterConfigFault)
  (s.finishPage false .other).updateFault

/-- The ports of a good image come into use (R152, R173). -/
def State.portsEnterListening (s : State) : State :=
  let t := s.usePort .a s.cfg.bitRate
  if s.cfg.bothPorts then t.usePort .b s.cfg.bitRate else t

/-- Entry to LISTENING (R173). -/
def State.entersListening (s : State) (config : ConfigCopy) (clamps : Nat) : State :=
  let s := s.startDo
    (fun b =>
      { b with
        lifecycle := .listening
        config := some config
        configGood := some true
        clamped := b.clamped || decide (0 < clamps)
        clamps := bumpBy b.clamps clamps
        listenDeadline := some (s.clock + config.listenPeriod * 1000) })
  let s := s.portsEnterListening
  let s := s.routeEntersListening
  let s := s.cabinEntersListening
  let s := s.triggerEntersListening
  let s := s.panelDo (fun e p => p.enterListening e)
  s.pageEntersListening

/-- The image read ends in LOADING once octet 495 has been taken (R170; DESIGN CHOICE, log entry 10). -/
def State.imageReadEnds (s : State) (image : List Byte) : State :=
  if s.start.lifecycle = .loading ∧ imageLength ≤ image.length then
    match readImage (image.take imageLength) with
    | .checkFailed => s.entersConfigFault image false
    | .structuralError => s.entersConfigFault image true
    | .good config clamps => s.entersListening config clamps
  else s

/-! ### The end of the listen period (R173) -/

/-- The node-number offset of the periodic schedules (R24, R106). -/
def ConfigCopy.phaseOffset (c : ConfigCopy) : Nat := c.nodeNumber % 8 * 100

/-- A due listen period ends and the node enters OPERATING (R173). -/
def State.listenEnds (s : State) : State :=
  if s.start.lifecycle = .listening ∧ due s.start.listenDeadline s.clock = true then
    let s := s.startDo (fun b => { b with lifecycle := .operating, listenDeadline := none })
    let s := s.portsInUse.foldl (fun t p => t.requestOwn p .solicit .whole []) s
    let s := s.portsInUse.foldl (fun t p => t.requestToken p (.full 1)) s
    let s := s.cabinReport
    let s := s.routeDo
      (fun r => { r with nextFull := some (s.clock + s.advertMs + s.cfg.phaseOffset) })
    s.timeDo
      (fun u =>
        { u with
          beaconDeadline := some (s.clock + s.cfg.beaconInterval * 1000 + s.cfg.phaseOffset) })
  else s

/-! ### Solicits and responses (R45, R174, R175) -/

/-- The response deadline of a SOLICIT taken now (R174). -/
def State.responseAt (s : State) : Nat := s.clock + s.cfg.nodeNumber % 16 * 25 + 25

/-- A SOLICIT at the start block (R174). -/
def State.takeSolicit (s : State) (p : Port) : State :=
  if s.start.lifecycle = .operating then
    match s.start.schedules.get p with
    | some _ => s
    | none =>
      s.startDo
        (fun b =>
          { b with
            schedules := b.schedules.put p (some ⟨s.responseAt, false, [], []⟩)
            solicitsAnswered := bump b.solicitsAnswered })
  else s

/-- One frame of a response: requested, or left out for its mark and counted (R175). -/
def State.respond (s : State) (p : Port) (marked : Bool) (cls : FrameClass) (key : QueueKey)
    (origin : Nat) (payload : List Byte) : State :=
  if marked then s.startDo (fun b => { b with suppressedItems := bump b.suppressedItems })
  else s.request p cls key (.fixed ⟨cls, 0, s.cfg.nodeNumber, origin, payload⟩)

/-- The ALARM frame of a response (R45). -/
def State.respondAlarm (s : State) (p : Port) (c : Schedule) : State :=
  match s.alarm.alarmPayload with
  | some payload => s.respond p c.alarmMark .alarm .whole s.alarm.origin payload
  | none => s

/-- The ZONE frames of a response, in key order (R45). -/
def State.respondZones (s : State) (p : Port) (c : Schedule) : State :=
  s.alarm.reports.foldl
    (fun t r =>
      t.respond p (c.zoneMarks.contains (r.origin, r.number)) .zone (.zoneReport r.origin r.number)
        r.origin r.payload)
    s

/-- The REASSIGN frames of a response, in zone and kind order (R45; DEDUCED, log entry 31). -/
def State.respondPlaces (s : State) (p : Port) (c : Schedule) : State :=
  s.alarm.reassignments.foldl
    (fun t r =>
      t.respond p (c.placeMarks.contains (r.zone, r.kind)) .reassign (.place r.zone r.kind.code)
        r.origin (r.payload (s.alarm.epoch.getD 0)))
    s

/-- A due response deadline: the schedule becomes idle, then the frames and last a FULL token (R175). -/
def State.responseEnds (s : State) (p : Port) : State :=
  match s.start.schedules.get p with
  | none => s
  | some c =>
    if s.start.lifecycle = .operating ∧ c.deadline ≤ s.clock then
      let s := s.startDo (fun b => { b with schedules := b.schedules.put p none })
      (((s.respondAlarm p c).respondZones p c).respondPlaces p c).requestToken p (.full 1)
    else s

/-! ### Indicator edges (R180) -/

/-- A blink generator edge: the lamp line, then a LIT panel's blinking fields (R180). -/
def State.blinkEdges (s : State) : State :=
  if s.ind.phaseOn = s.blinkOn then s
  else
    ({ s with ind := { s.ind with phaseOn := s.blinkOn, lamp := s.lampFor s.ind.level } }).panelDo
      (fun e p => p.blinkPhase e)

/-- An edge of the ABANDON lamp pattern (R180). -/
def State.abandonEdges (s : State) : State :=
  if s.ind.level = .abandon then { s with ind := { s.ind with lamp := s.lampFor .abandon } } else s

end Sys2Proof.Machine
end

