-- ==== Sys2Proof/Machine/Status.lean ====
section
/-! DEFINITION. The status responder (R177 to R179): the data of every status item, the counter blocks,
and the reply to a QUERY. -/

namespace Sys2Proof.Machine

/-! ### Field layouts (R178) -/

/-- A field that may be absent: a presence octet, then the field, of the given width in octets, which holds
0 when absent. -/
def optionalField {α : Type} (width : Nat) (octets : α → List Byte) : Option α → List Byte
  | some x => octets1 1 ++ octets x
  | none => octets1 0 ++ List.replicate width 0#8

/-- A signed value of two or four octets in two's complement. -/
def signed2 (x : Int) : List Byte := octets2 (BitVec.ofInt 16 x).toNat
def signed4 (x : Int) : List Byte := octets4 (BitVec.ofInt 32 x).toNat

/-! ### The items -/

/-- IDENTITY (R176, R178). -/
def State.identityData (s : State) : List Byte :=
  octets2 s.cfg.nodeNumber ++ octets1 s.cfg.deck ++ octets1 s.cfg.zone ++ octets1 s.cfg.role.code ++
    octets1 (if s.start.configGood = some true then 0 else 1) ++ octets1 (boolCode s.start.clamped) ++
    octets1 s.start.cause.code ++ octets1 s.start.startCount ++ octets1 s.start.lifecycle.code

/-- TIME (R107, R178). -/
def State.timeData (s : State) : List Byte :=
  octets1 s.time.state.code ++ octets4 (s.shipMs / 1000) ++ octets2 (s.shipMs % 1000) ++
    optionalField 1 octets1 s.time.ownStratum ++ optionalField 2 octets2 s.time.selected ++
    octets1 s.time.sources.length ++ signed2 s.time.slewRemaining ++
    optionalField 4 signed4 s.time.confirm

/-- ALARM (R46, R178). -/
def State.alarmData (s : State) : List Byte :=
  optionalField 2 octets2 s.alarm.epoch ++ octets1 s.alarm.level.code ++ octets2 s.alarm.origin ++
    optionalField 4 octets4 s.alarm.changedAt

/-- A zone report of the ZONES item. -/
def ZoneReport.data (r : ZoneReport) : List Byte :=
  octets2 r.origin ++ octets1 r.number ++ octets1 r.sequence ++ octets1 r.zone ++
    octets1 r.deckLow ++ octets1 r.deckHigh ++ octets1 r.state.code ++ octets4 r.received

/-- ZONES (R46, R178). -/
def State.zonesData (s : State) (argument : Nat) : List Byte :=
  octets1 s.alarm.reports.length ++ optionalField 12 ZoneReport.data s.alarm.reports[argument]?

/-- The next-hop slot code of the ROUTE item: 6 for SELF, 7 for none. -/
def NextHop.code : NextHop → Nat
  | .slot n => n
  | .self => 6
  | .none => 7

/-- A cell of the ROUTE item (R178); the bits of its flags octet are those of R166, and an EMPTY cell sends zeros
in its five fields (DESIGN CHOICE, log entry 29). -/
def Cell.data (c : Cell) : List Byte :=
  octets1 c.state.code ++ octets2 c.cost ++ octets1 c.hop ++ octets2 c.nextNode ++
    octets1 (advertFlags c.viaStair c.viaBoundary) ++ octets4 c.refreshed

/-- Bearing, displayed distance and more-than flag of the ROUTE item; a distance of none is sent as 0
(DESIGN CHOICE, log entry 29). -/
def Figures.data : Figures → List Byte
  | .here => octets1 255 ++ octets2 0 ++ octets1 0
  | .route metres more bearing =>
    octets1 ((bearing.map Bearing.code).getD 255) ++ octets2 metres ++ octets1 (boolCode more)
  | .noRoute => octets1 255 ++ octets2 0 ++ octets1 0

/-- An entry of the ROUTE item (R178); pinned is 1 for yes, and the bits of the route flags octet are those of
R166 (DESIGN CHOICE, log entry 29). -/
def RouteEntry.data (cfg : ConfigCopy) (e : RouteEntry) : List Byte :=
  octets1 e.dest ++ octets1 e.kind.code ++ octets1 e.state.code ++ octets1 (boolCode e.pinned) ++
    octets2 e.cost ++ octets1 e.hop ++ octets1 (advertFlags e.viaStair e.viaBoundary) ++
    octets1 e.nextHop.code ++ octets2 (((neighbourOf cfg e.nextHop).map (fun n => n.node)).getD 0) ++
    (figuresOf cfg e).data ++ e.cells.flatMap Cell.data

/-- ROUTE (R28, R178). -/
def State.routeData (s : State) (argument : Nat) : List Byte :=
  optionalField 81 (RouteEntry.data s.cfg) (s.routeEntry argument)

/-- MUSTER (R57, R178). -/
def State.musterData (s : State) : List Byte :=
  optionalField 1 (fun k => octets1 (PointKind.code k)) s.muster.kind ++
    optionalField 1 octets1 s.muster.dest ++
    optionalField 1 (fun r => octets1 (MusterRank.code r)) s.muster.rank ++
    optionalField 1 octets1 s.muster.candidate ++
    optionalField 1 (fun r => octets1 (MusterRank.code r)) s.muster.candidateRank ++
    optionalField 4 octets4 s.muster.returnDeadline

/-- The digest of the item list (R78). -/
def itemDigest (items : List Item) : BitVec 16 :=
  items.foldl (fun d i => d ^^^ BitVec.ofNat 16 (i.id * 256 + i.version)) 0#16

/-- PROGRAMME (R78, R178). -/
def State.programmeData (s : State) : List Byte :=
  octets1 s.prog.items.length ++ octets1 s.prog.tombstones.length ++
    octets2 (itemDigest s.prog.items).toNat

/-- The window count reported: 0 on a LIT panel (R151). -/
def State.reportedWindow (s : State) : Nat :=
  match s.panel.kind with
  | .paper => s.panel.windowCount s.panelEnv
  | .lit => 0

/-- PANEL (R151, R178). -/
def State.panelData (s : State) : List Byte :=
  octets1 (panelKindCode s.panel.kind) ++ octets1 s.panel.state.code ++ octets1 s.reportedWindow ++
    octets1 s.panel.timeoutRun ++ octets2 s.panel.panelTimeouts ++
    octets1 (groupMask (s.panel.partials.map (fun r => r.group))) ++
    octets1 (boolCode s.panel.full.isSome) ++ octets2 s.panel.luminance ++
    optionalField 2 octets2 s.panel.target

/-- The UNSET flag, 1 for set, and the time of a capture (R178; the octet of the flag is DESIGN CHOICE, log
entry 29). -/
def CaptureTime.data : CaptureTime → List Byte
  | .ship seconds millis => octets1 0 ++ octets4 seconds ++ octets2 millis
  | .clock value => octets1 1 ++ octets4 value ++ octets2 0

/-- A capture record of the CAPTURE item (R178); chained is 1 for yes (DESIGN CHOICE, log entry 29). -/
def Capture.data (c : Capture) : List Byte :=
  c.time.data ++ octets1 c.setNumber ++ octets1 (boolCode c.chained) ++
    octets1 c.factor.captureCode ++ octets2 c.detail

/-- The running state code of a timer: RUNNING is listed before STOPPED (R117; DEDUCED, log entry 29). -/
def TimerState.runningCode (t : TimerState) : Nat := if t.running then 0 else 1

/-- CAPTURE (R119, R178). -/
def State.captureData (s : State) (argument : Nat) : List Byte :=
  optionalField 12 Capture.data (s.trig.captures[argument]?).join ++
    s.trig.sets.flatMap (fun x => octets1 x.state.code) ++
    s.trig.timers.flatMap (fun t => octets1 t.runningCode ++ octets2 t.count)

/-- The contact level code: OPEN is listed before CLOSED (R81; DEDUCED, log entry 29). -/
def contactCode (isOpen : Bool) : Nat := if isOpen then 0 else 1

/-- SWEEP (R94, R178). -/
def State.sweepData (s : State) : List Byte :=
  if s.cfg.role = .cabin then
    octets1 0 ++ octets1 s.cabin.sweep.code ++ sweepMinuteOctets s.cabin.sweepMinute ++
      octets1 s.cabin.service.code ++ octets1 s.cabin.request ++
      optionalField 1 (fun x => octets1 (contactCode x)) s.cabin.contact
  else
    match s.cabin.tally with
    | some t =>
      octets1 1 ++ octets1 t.length ++ octets1 (uncheckedCount t) ++ octets1 (assistCount t)
    | none => octets1 2

/-! ### Counters (R179) -/

/-- A per-port counter, port A then port B; a port out of use reports 0. -/
def State.perPort (s : State) (f : PortCtl → Nat) : List Nat :=
  [Port.a, Port.b].map (fun p => if (s.ports.get p).inUse then f (s.ports.get p) else 0)

/-- Block 0: the bus chapter's counters (R163), then queries answered. -/
def State.busBlock (s : State) : List Nat :=
  s.perPort (fun c => c.framesReceived) ++
    [s.bus.lengthErrors, s.bus.checkErrors, s.bus.unknownClasses, s.bus.malformedFrames,
      s.bus.relayedCopies] ++
    s.perPort (fun c => c.framesSent) ++ s.perPort (fun c => c.arbitrationLosses) ++
    s.perPort (fun c => c.transmitFaults) ++ s.perPort (fun c => c.queueDrops) ++
    s.perPort (fun c => c.downEntries) ++ s.perPort (fun c => c.lostAtDown) ++
    s.perPort (fun c => c.refusedWhileDown) ++ [s.status.queriesAnswered]

/-- The counters of a block, in the order of the chapters' tables (R179). -/
def State.counterBlock (s : State) : Nat → List Nat
  | 0 => s.busBlock
  | 1 =>
    [s.route.nonNeighbourAdverts, s.route.skippedEntries, s.route.droppedDestinations,
      s.route.evictedEntries, s.route.flushedEntries, s.route.holdDownsEntered]
  | 2 =>
    [s.alarm.olderAlarmFrames, s.alarm.droppedReports, s.alarm.evictedReports,
      s.alarm.otherEpochReassignments, s.muster.switchesOnLoss, s.muster.returns]
  | 3 =>
    [s.prog.clampedItems, s.prog.tombstoneHits, s.prog.droppedItems, s.prog.evictedItems,
      s.prog.withdrawnItems, s.prog.evictedTombstones, s.prog.expiredItems,
      s.prog.spotlightOverflows]
  | 4 =>
    [s.cabin.rejectedBounces, s.cabin.ignoredButtonEdges, s.cabin.staleServiceDone,
      s.time.stepsTaken, s.time.unconfirmedSteps, s.time.unusableBeacons, s.time.refusedSources]
  | 5 =>
    [s.trig.activations, s.trig.expiries, s.trig.suspensions, s.page.pageChanges,
      s.page.refusedRequests, s.panel.fullRefreshes, s.panel.partialRefreshes,
      s.panel.forcedFullRefreshes, s.panel.panelTimeouts, s.start.clamps, s.start.solicitsAnswered,
      s.start.suppressedItems]
  | _ => []

/-- COUNTERS: the number of counters, then each in two octets (R179). -/
def State.countersData (s : State) (argument : Nat) : List Byte :=
  octets1 (s.counterBlock argument).length ++ (s.counterBlock argument).flatMap octets2

/-! ### The reply (R177, R178) -/

/-- The item code and data of the reply to an item and argument (R178). -/
def State.statusReply (s : State) (item argument : Nat) : Nat × List Byte :=
  match item with
  | 0 => (0, s.identityData)
  | 1 => (1, s.timeData)
  | 2 => (2, s.alarmData)
  | 3 => (3, s.zonesData argument)
  | 4 => (4, s.routeData argument)
  | 5 => (5, s.musterData)
  | 6 => (6, s.programmeData)
  | 7 => (7, s.panelData)
  | 8 => (8, s.countersData argument)
  | 9 => (9, s.captureData argument)
  | 10 => (10, s.sweepData)
  | n => (255, octets1 n)

/-- Reading the PANEL item reads the window list, which removes the entries that no longer count (R142). -/
def State.readsWindow (s : State) (item : Nat) : State :=
  if item = 7 then s.panelDo (fun e p => p.pruneWindow e) else s

/-- A QUERY at the status responder (R177): the reply is formed and requested, then the query counted
(DESIGN CHOICE, log entry 29). -/
def State.takeQuery (s : State) (p : Port) (q : QueryPayload) : State :=
  if s.start.lifecycle = .operating ∧ q.target = s.cfg.nodeNumber then
    let reply := s.statusReply q.item q.argument
    let s := s.readsWindow q.item
    let s := s.requestOwn p .status (.statusItem reply.1 q.argument)
      (octets1 reply.1 ++ octets1 q.argument ++ reply.2)
    { s with status := { s.status with queriesAnswered := bump s.status.queriesAnswered } }
  else s

end Sys2Proof.Machine
end

