-- ==== Sys2Proof/Machine/Receive.lean ====
section
/-! DEFINITION. The frame handler (R155 to R157): the tests of a received frame, the counters they raise,
and the hand-over of each class to its owning block with the relay that follows. -/

namespace Sys2Proof.Machine

/-- Let the frame handler change its counters. -/
def State.busDo (s : State) (f : BusCounters → BusCounters) : State := { s with bus := f s.bus }

/-- A frame fails test 1 of R155. -/
def State.lengthError (s : State) (p : Port) : State :=
  (s.busDo (fun b => { b with lengthErrors := bump b.lengthErrors })).noteBad p

/-- A frame fails test 2 of R155. -/
def State.checkError (s : State) (p : Port) : State :=
  (s.busDo (fun b => { b with checkErrors := bump b.checkErrors })).noteBad p

/-- A frame fails test 3 of R155, having passed the length and check tests. -/
def State.unknownClass (s : State) (p : Port) : State :=
  (s.busDo (fun b => { b with unknownClasses := bump b.unknownClasses })).noteGood p

/-- A frame fails test 5 or 6 of R155. -/
def State.malformed (s : State) : State :=
  s.busDo (fun b => { b with malformedFrames := bump b.malformedFrames })

/-- The header ranges of test 5. -/
def headerInRange (f : RxFrame) : Bool :=
  decide (f.hop ≤ 15) && decide (1 ≤ f.sender ∧ f.sender ≤ 4095) &&
    decide (1 ≤ f.origin ∧ f.origin ≤ 4095)

/-- A flood frame whose owning block has finished: the relay of R157. -/
def relayed (p : Port) (cls : FrameClass) (f : RxFrame) (r : State × Bool) : State :=
  r.1.relay p cls f r.2

/-- Test 6 of R155 and, where it passes, what the owning block makes of the frame (R156). -/
def classHandler (p : Port) (cls : FrameClass) (f : RxFrame) : Option (State → State) :=
  match cls with
  | .alarm =>
    (parseAlarm f.payload).map
      (fun a s =>
        let r := s.takeAlarmFrame f.origin a
        relayed p .alarm f (r.1.hearAlarm p a, r.2))
  | .zone =>
    (parseZone f.payload).map
      (fun z s =>
        let r := s.takeZoneFrame f.origin z
        relayed p .zone f (r.1.hearZone p f.origin z, r.2))
  | .reassign =>
    (parseReassign f.payload).map
      (fun z s =>
        let r := s.takeReassignFrame f.origin z
        relayed p .reassign f (r.1.hearReassign p z, r.2))
  | .sweep => (parseSweep f.payload).map (fun w s => s.takeSweep w)
  | .advert => (parseAdvert f.payload).map (fun es s => s.takeAdvert p f.sender es)
  | .beacon => (parseBeacon f.payload).map (fun b s => s.takeBeacon f.sender b)
  | .solicit => if f.payload = [] then some (fun s => s.takeSolicit p) else none
  | .service => if wellFormedService f.payload then some (fun s => s) else none
  | .cabin => (parseCabin f.payload).map (fun c s => s.takeCabin c)
  | .status => if 2 ≤ f.payload.length then some (fun s => s) else none
  | .query => (parseQuery f.payload).map (fun q s => s.takeQuery p q)
  | .item => (parseItem f.payload).map (fun i s => relayed p .item f (s.takeItemFrame i))
  | .withdraw => (parseWithdraw f.payload).map (fun w s => relayed p .withdraw f (s.takeWithdrawFrame w))

/-- A frame that passes all tests is counted as received (R155, R163). -/
def State.countReceived (s : State) (p : Port) : State :=
  s.putPort p { s.ports.get p with framesReceived := bump (s.ports.get p).framesReceived }

/-- Tests 4, 5 and 6 of R155 in that order; test 4 is not made in CONFIG_FAULT. -/
def State.takeFrame (s : State) (p : Port) (cls : FrameClass) (f : RxFrame) : State :=
  if s.start.lifecycle ≠ .configFault ∧ f.sender = s.cfg.nodeNumber then s
  else if headerInRange f then
    match classHandler p cls f with
    | some handle => handle (s.countReceived p)
    | none => s.malformed
  else s.malformed

/-- A frame whose octets pass the check arrives on a port; a port out of use ignores the line (R152,
R155; DESIGN CHOICE, log entry 34). -/
def State.receiveFrame (s : State) (p : Port) (cls : FrameClass) (f : RxFrame) : State :=
  if (s.ports.get p).inUse = false then s
  else if 120 < f.payload.length then s.lengthError p
  else (s.noteGood p).takeFrame p cls f

/-- The octets of a frame arrive on a port as they stand on the line, errors included (R155). -/
def State.receiveOctets (s : State) (p : Port) (octets : List Byte) : State :=
  if (s.ports.get p).inUse = false then s
  else
    match parseFrame octets with
    | .lengthError => s.lengthError p
    | .checkError => s.checkError p
    | .unknownClass => s.unknownClass p
    | .good cls f => s.receiveFrame p cls f

end Sys2Proof.Machine
end

