-- ==== Sys2Proof/Machine/FrameCommands.lean ====
section
/-! DEFINITION. The meanings of the received-frame commands, one for each frame class, and of a frame that
arrives as raw octets (chapter 10). -/

namespace Sys2Proof.Machine

/-- The outcome type of every meaning. -/
abbrev Result := Host.Outcome State Fault Refusal

/-- ALARM_FRAME (R31). -/
def execAlarmFrame (p : Port) (f : RxFrame) (s : State) : Result := .next (s.receiveFrame p .alarm f)

/-- ZONE_FRAME (R38). -/
def execZoneFrame (p : Port) (f : RxFrame) (s : State) : Result := .next (s.receiveFrame p .zone f)

/-- REASSIGN_FRAME (R43). -/
def execReassignFrame (p : Port) (f : RxFrame) (s : State) : Result :=
  .next (s.receiveFrame p .reassign f)

/-- SWEEP_FRAME (R93). -/
def execSweepFrame (p : Port) (f : RxFrame) (s : State) : Result := .next (s.receiveFrame p .sweep f)

/-- ADVERT_FRAME (R8). -/
def execAdvertFrame (p : Port) (f : RxFrame) (s : State) : Result :=
  .next (s.receiveFrame p .advert f)

/-- BEACON_FRAME (R97). -/
def execBeaconFrame (p : Port) (f : RxFrame) (s : State) : Result :=
  .next (s.receiveFrame p .beacon f)

/-- SOLICIT_FRAME (R174). -/
def execSolicitFrame (p : Port) (f : RxFrame) (s : State) : Result :=
  .next (s.receiveFrame p .solicit f)

/-- SERVICE_FRAME (R85): taken without effect by a node. -/
def execServiceFrame (p : Port) (f : RxFrame) (s : State) : Result :=
  .next (s.receiveFrame p .service f)

/-- CABIN_FRAME (R86). -/
def execCabinFrame (p : Port) (f : RxFrame) (s : State) : Result := .next (s.receiveFrame p .cabin f)

/-- STATUS_FRAME (R156, R177): taken without effect by a node. -/
def execStatusFrame (p : Port) (f : RxFrame) (s : State) : Result :=
  .next (s.receiveFrame p .status f)

/-- QUERY_FRAME (R177). -/
def execQueryFrame (p : Port) (f : RxFrame) (s : State) : Result := .next (s.receiveFrame p .query f)

/-- ITEM_FRAME (R62). -/
def execItemFrame (p : Port) (f : RxFrame) (s : State) : Result := .next (s.receiveFrame p .item f)

/-- WITHDRAW_FRAME (R66). -/
def execWithdrawFrame (p : Port) (f : RxFrame) (s : State) : Result :=
  .next (s.receiveFrame p .withdraw f)

/-- FRAME_RECEIVE_ERROR (R155): raw octets, taken through tests 1 to 3 as well. -/
def execFrameReceiveError (p : Port) (octets : List Byte) (s : State) : Result :=
  .next (s.receiveOctets p octets)

end Sys2Proof.Machine
end

