-- ==== Sys2Proof/Machine/CabinCommands.lean ====
section
/-! DEFINITION. The meanings of the input line commands (chapter 5). -/

namespace Sys2Proof.Machine

/-- INPUT_LINE_TRANSITION (R80): the line now stands at the given level. -/
def execInputLineTransition (line : Fin 8) (high : Bool) (s : State) : Result :=
  .next (s.lineMoves line.val high)

/-- DEBOUNCE_DEADLINE (R80, R81, R82). -/
def execDebounceDeadline (line : Fin 8) (s : State) : Result := .next (s.debounceEnds line.val)

end Sys2Proof.Machine
end

