-- ==== Sys2Proof/Machine/LineCommands.lean ====
section
/-! DEFINITION. The meanings of the line commands of a port controller (chapter 10). -/

namespace Sys2Proof.Machine

/-- TRANSMISSION_START (R153): the line is idle when the command comes. -/
def execTransmissionStart (p : Port) (s : State) : Result := .next (s.startTransmission p)

/-- SENT (R153). -/
def execSent (p : Port) (s : State) : Result := .next (s.frameSent p)

/-- ARBITRATION_LOST (R153). -/
def execArbitrationLost (p : Port) (s : State) : Result := .next (s.arbitrationWasLost p)

/-- TRANSMIT_FAULT (R153, R154). -/
def execTransmitFault (p : Port) (s : State) : Result := .next (s.transmitFaulted p)

end Sys2Proof.Machine
end

