-- ==== Sys2Proof/Machine/PageCommands.lean ====
section
/-! DEFINITION. The meanings of the page selector's deadlines (chapter 8). -/

namespace Sys2Proof.Machine

/-- DWELL_DEADLINE (R122). -/
def execDwellDeadline (s : State) : Result :=
  .next (if s.running && due s.page.dwell s.clock then s.pageDwellEnds else s)

/-- SPOTLIGHT_DEADLINE (R124). -/
def execSpotlightDeadline (s : State) : Result :=
  .next (if s.running && due s.page.spotDeadline s.clock then s.pageSpotlightEnds else s)

/-- PRESENCE_DEADLINE (R126). -/
def execPresenceDeadline (s : State) : Result :=
  .next (if s.running && due s.page.presence s.clock then s.pagePresenceEnds else s)

end Sys2Proof.Machine
end

