-- ==== Sys2Proof/Machine/PanelCommands.lean ====
section
/-! DEFINITION. The meanings of the panel controller's commands (chapter 9). -/

namespace Sys2Proof.Machine

/-- The panel controller is at work: in every lifecycle state but LOADING (chapter 11) (DEDUCED, log
entry 13). -/
def State.panelAtWork (s : State) : Bool := decide (s.start.lifecycle ≠ .loading)

/-- The busy pin takes a level. -/
def State.busyPin (s : State) (high : Bool) : State := { s with pins := { s.pins with busy := high } }

/-- The busy input is read: on a PAPER panel (R148), outside LOADING (DEDUCED, log entry 13), so a rise in
LOADING sets no busy watch (DESIGN CHOICE, log entry 39). -/
def State.readsBusy (s : State) : Bool := decide (s.panel.kind = .paper) && s.panelAtWork

/-- LOAD_END (R146, R148). -/
def execLoadEnd (s : State) : Result :=
  .next
    (if s.panelAtWork = true ∧ s.panel.state = .sending then s.panelDo (fun e p => p.endLoad e)
    else s)

/-- PANEL_BUSY_FALL (R146, R147). -/
def execPanelBusyFall (s : State) : Result :=
  .next
    (if s.pins.busy then
      if s.readsBusy then (s.busyPin false).panelDo (fun e p => p.busyFalls e) else s.busyPin false
    else s)

/-- PANEL_BUSY_RISE (R147); in LOADING the pin alone moves (DESIGN CHOICE, log entry 39). -/
def execPanelBusyRise (s : State) : Result :=
  .next
    (if s.pins.busy then s
    else if s.readsBusy then (s.busyPin true).panelDo (fun e p => p.busyRises e)
    else s.busyPin true)

/-- GAP_ANY_EXPIRY (R141, R144): the choice is tested, which reads gap_any itself (DESIGN CHOICE, log
entry 22). -/
def execGapAnyExpiry (s : State) : Result :=
  .next (if s.panelAtWork then s.panelDo (fun e p => p.tryChoice e) else s)

/-- GAP_SAME_EXPIRY (R141, R144) of a group, numbered from 0. -/
def execGapSameExpiry (group : Fin 4) (s : State) : Result :=
  .next
    (if s.panelAtWork then
      s.panelDo (fun e p => if p.gapSamePassed e (group.val + 1) then p.tryChoice e else p)
    else s)

/-- WINDOW_ENTRY_EXPIRY (R142, R144). -/
def execWindowEntryExpiry (s : State) : Result :=
  .next (if s.panelAtWork then s.panelDo (fun e p => (p.pruneWindow e).tryChoice e) else s)

/-- A timeout of a PAPER panel, with the indicator unit told (R147, R181). -/
def State.panelTimesOut (s : State) (urgent : Bool) : State :=
  (s.panelDo (fun e p => p.timeOut e urgent)).updateFault

/-- REFRESH_TIMEOUT (R147; DESIGN CHOICE, log entry 21). -/
def execRefreshTimeout (s : State) : Result :=
  .next
    (if s.panelAtWork = true ∧ s.panel.state = .busy ∧ due s.panel.refreshDeadline s.clock = true then
      s.panelTimesOut s.panel.refreshUrgent
    else s)

/-- BUSY_WATCH_EXPIRY (R147). -/
def execBusyWatchExpiry (s : State) : Result :=
  .next
    (if s.panelAtWork = true ∧ s.panel.state = .idle ∧ due s.panel.busyWatch s.clock = true then
      s.panelTimesOut false
    else s)

/-- RETRY_DEADLINE (R147). -/
def execRetryDeadline (s : State) : Result :=
  .next
    (if s.panelAtWork = true ∧ s.panel.state = .faultWait ∧ due s.panel.retryDeadline s.clock = true then
      (s.panelDo (fun e p => p.retry e)).updateFault
    else s)

/-- RAMP_TICK (R150). -/
def execRampTick (s : State) : Result :=
  .next
    (if s.panelAtWork && due s.panel.rampTick s.clock then s.panelDo (fun e p => p.ramp e) else s)

end Sys2Proof.Machine
end

