-- ==== Sys2Proof/Machine/RouteCommands.lean ====
section
/-! DEFINITION. The meanings of the route engine's deadlines and the muster return deadline (chapters 1
and 3). -/

namespace Sys2Proof.Machine

/-- CELL_EXPIRY (R10). -/
def execCellExpiry (dest : Nat) (slot : Fin 6) (s : State) : Result :=
  .next (s.expireCell dest slot.val)

/-- HOLD_DOWN_DEADLINE (R17). -/
def execHoldDownDeadline (dest : Nat) (s : State) : Result := .next (s.endHoldDown dest)

/-- FLUSH (R19). -/
def execFlush (dest : Nat) (s : State) : Result := .next (s.flushEntry dest)

/-- PERIODIC_FULL_REQUEST (R24). -/
def execPeriodicFullRequest (s : State) : Result := .next s.periodicFull

/-- GAP_EXPIRY (R25). -/
def execGapExpiry (p : Port) (s : State) : Result := .next (s.gapEnds p)

/-- RETURN_DEADLINE (R55). -/
def execReturnDeadline (s : State) : Result :=
  .next (if s.running && due s.muster.returnDeadline s.clock then s.musterReturn else s)

end Sys2Proof.Machine
end

