-- ==== Sys2Proof/Machine/StartCommands.lean ====
section
/-! DEFINITION. The meanings of the start block's and indicator unit's commands (chapters 11 and 12). -/

namespace Sys2Proof.Machine

/-- POWER_ON (R169). -/
def execPowerOn (strap : PanelKind) (s : State) : Result := .next (s.powersOn strap)

/-- LINE_RESET (R169). -/
def execLineReset (strap : PanelKind) (pulseMicros : Nat) (s : State) : Result :=
  .next (s.lineResets strap pulseMicros)

/-- CONFIG_READ_END (R170). -/
def execConfigReadEnd (image : List Byte) (s : State) : Result := .next (s.imageReadEnds image)

/-- LISTEN_PERIOD_END (R173). -/
def execListenPeriodEnd (s : State) : Result := .next s.listenEnds

/-- RESPONSE_DEADLINE (R175). -/
def execResponseDeadline (p : Port) (s : State) : Result := .next (s.responseEnds p)

/-- BLINK_EDGE (R180). -/
def execBlinkEdge (s : State) : Result := .next s.blinkEdges

/-- ABANDON_LAMP_EDGE (R180). -/
def execAbandonLampEdge (s : State) : Result := .next s.abandonEdges

end Sys2Proof.Machine
end

