-- ==== Sys2Proof/Machine/TimeCommands.lean ====
section
/-! DEFINITION. The meanings of the ship time unit's commands (chapter 6). -/

namespace Sys2Proof.Machine

/-- SOURCE_EXPIRY (R99). -/
def execSourceExpiry (sender : Nat) (s : State) : Result := .next (s.expireSource sender)

/-- SLEW_TICK (R101). -/
def execSlewTick (s : State) : Result := .next s.slewTicks

/-- STALE_DEADLINE (R103). -/
def execStaleDeadline (s : State) : Result := .next s.becomeStale

/-- MINUTE_NOTICE (R104). -/
def execMinuteNotice (s : State) : Result := .next s.reachMinute

/-- BEACON_DEADLINE (R106). -/
def execBeaconDeadline (s : State) : Result := .next s.beaconDue

end Sys2Proof.Machine
end

