-- ==== Sys2Proof/Machine/TriggerCommands.lean ====
section
/-! DEFINITION. The meanings of the interval timer commands (chapter 7). -/

namespace Sys2Proof.Machine

/-- INTERVAL_TIMER_TICK (R117). -/
def execIntervalTimerTick (timer : Fin 2) (s : State) : Result := .next (s.timerTicks timer.val)

/-- INTERVAL_TIMER_EXPIRY (R117). -/
def execIntervalTimerExpiry (timer : Fin 2) (s : State) : Result := .next (s.timerExpires timer.val)

end Sys2Proof.Machine
end

