-- ==== Sys2Proof/Machine/Dispatch.lean ====
section
/-! DEFINITION. One arm per command, each one call of its meaning. -/

namespace Sys2Proof.Machine

def exec (i : Instr) (s : State) : Host.Outcome State Fault Refusal :=
  match i with
  | .powerOn strap => Sys2Proof.Machine.execPowerOn strap s
  | .lineReset strap pulse => Sys2Proof.Machine.execLineReset strap pulse s
  | .configReadEnd image => Sys2Proof.Machine.execConfigReadEnd image s
  | .listenPeriodEnd => Sys2Proof.Machine.execListenPeriodEnd s
  | .alarmFrame port frame => Sys2Proof.Machine.execAlarmFrame port frame s
  | .zoneFrame port frame => Sys2Proof.Machine.execZoneFrame port frame s
  | .reassignFrame port frame => Sys2Proof.Machine.execReassignFrame port frame s
  | .sweepFrame port frame => Sys2Proof.Machine.execSweepFrame port frame s
  | .advertFrame port frame => Sys2Proof.Machine.execAdvertFrame port frame s
  | .beaconFrame port frame => Sys2Proof.Machine.execBeaconFrame port frame s
  | .solicitFrame port frame => Sys2Proof.Machine.execSolicitFrame port frame s
  | .serviceFrame port frame => Sys2Proof.Machine.execServiceFrame port frame s
  | .cabinFrame port frame => Sys2Proof.Machine.execCabinFrame port frame s
  | .statusFrame port frame => Sys2Proof.Machine.execStatusFrame port frame s
  | .queryFrame port frame => Sys2Proof.Machine.execQueryFrame port frame s
  | .itemFrame port frame => Sys2Proof.Machine.execItemFrame port frame s
  | .withdrawFrame port frame => Sys2Proof.Machine.execWithdrawFrame port frame s
  | .frameReceiveError port octets => Sys2Proof.Machine.execFrameReceiveError port octets s
  | .transmissionStart port => Sys2Proof.Machine.execTransmissionStart port s
  | .sent port => Sys2Proof.Machine.execSent port s
  | .arbitrationLost port => Sys2Proof.Machine.execArbitrationLost port s
  | .transmitFault port => Sys2Proof.Machine.execTransmitFault port s
  | .cellExpiry dest slot => Sys2Proof.Machine.execCellExpiry dest slot s
  | .holdDownDeadline dest => Sys2Proof.Machine.execHoldDownDeadline dest s
  | .flush dest => Sys2Proof.Machine.execFlush dest s
  | .periodicFullRequest => Sys2Proof.Machine.execPeriodicFullRequest s
  | .gapExpiry port => Sys2Proof.Machine.execGapExpiry port s
  | .returnDeadline => Sys2Proof.Machine.execReturnDeadline s
  | .inputLineTransition line high => Sys2Proof.Machine.execInputLineTransition line high s
  | .debounceDeadline line => Sys2Proof.Machine.execDebounceDeadline line s
  | .sourceExpiry sender => Sys2Proof.Machine.execSourceExpiry sender s
  | .slewTick => Sys2Proof.Machine.execSlewTick s
  | .staleDeadline => Sys2Proof.Machine.execStaleDeadline s
  | .minuteNotice => Sys2Proof.Machine.execMinuteNotice s
  | .beaconDeadline => Sys2Proof.Machine.execBeaconDeadline s
  | .intervalTimerTick timer => Sys2Proof.Machine.execIntervalTimerTick timer s
  | .intervalTimerExpiry timer => Sys2Proof.Machine.execIntervalTimerExpiry timer s
  | .dwellDeadline => Sys2Proof.Machine.execDwellDeadline s
  | .spotlightDeadline => Sys2Proof.Machine.execSpotlightDeadline s
  | .presenceDeadline => Sys2Proof.Machine.execPresenceDeadline s
  | .loadEnd => Sys2Proof.Machine.execLoadEnd s
  | .panelBusyFall => Sys2Proof.Machine.execPanelBusyFall s
  | .panelBusyRise => Sys2Proof.Machine.execPanelBusyRise s
  | .gapAnyExpiry => Sys2Proof.Machine.execGapAnyExpiry s
  | .gapSameExpiry group => Sys2Proof.Machine.execGapSameExpiry group s
  | .windowEntryExpiry => Sys2Proof.Machine.execWindowEntryExpiry s
  | .refreshTimeout => Sys2Proof.Machine.execRefreshTimeout s
  | .busyWatchExpiry => Sys2Proof.Machine.execBusyWatchExpiry s
  | .retryDeadline => Sys2Proof.Machine.execRetryDeadline s
  | .rampTick => Sys2Proof.Machine.execRampTick s
  | .blinkEdge => Sys2Proof.Machine.execBlinkEdge s
  | .responseDeadline port => Sys2Proof.Machine.execResponseDeadline port s
  | .abandonLampEdge => Sys2Proof.Machine.execAbandonLampEdge s

end Sys2Proof.Machine
end

