-- ==== Sys2Proof/Machine/Step.lean ====
section
/-! DEFINITION. One step: the command at the front of the queue, or one millisecond of the node clock when
none waits; and a command put at the front from outside. -/

namespace Sys2Proof.Machine

/-- One millisecond passes (R95). -/
def State.tick (s : State) : State := { s with clock := s.clock + 1 }

/-- The step: run the command at the front with the queue's rest. On an empty queue the node clock rises
by one, since the table has no row for it (R95; DESIGN CHOICE, log entry 5). -/
def step (s : State) : Host.Outcome State Fault Refusal :=
  match s.pending with
  | [] => .next s.tick
  | c :: rest => exec c { s with pending := rest }

/-- Put the command a word spells at the front of the queue. No row of the table gives bits, so no word
spells one (log entry 6). -/
def State.withFetchWord (s : State) (nbits w : Nat) : State :=
  match decodeTableWord nbits w with
  | some c => { s with pending := c :: s.pending }
  | none => s

end Sys2Proof.Machine
end

