-- ==== Sys2Proof/Safety.lean ====
section
/-! DEFINITION. The laws the manual states of the whole machine, as properties of a state that hold between
commands: what a safe run keeps. Each is decidable, so that a concrete state can be checked against it. -/

namespace Sys2Proof.Machine

/-! ### Commands -/

/-- The two commands that reset the node (R169). -/
def resets : Instr → Bool
  | .powerOn _ => true
  | .lineReset _ _ => true
  | _ => false

/-- What either reset leaves of a state s, whatever went before (R29, R36, R42, R47, R83, R88, R95, R108,
R116, R117, R120, R137, R140, R152, R169, R174, R180, R181). -/
abbrev ResetLeaves (strap : PanelKind) (s t : State) : Prop :=
  t.clock = 0 ∧ t.start.lifecycle = .loading ∧ t.start.config = none ∧ t.start.configGood = none ∧
    t.start.clamped = false ∧ (∀ p, t.start.schedules.get p = none) ∧ t.panel.kind = strap ∧
    (∀ p, (t.ports.get p).inUse = false ∧ (t.ports.get p).bitRate = none ∧
      (t.ports.get p).state = .up ∧ (t.ports.get p).queue = [] ∧ (t.ports.get p).inFlight = none ∧
      (t.ports.get p).faultRun = 0 ∧ (t.ports.get p).goodRun = 0) ∧
    t.time.state = .unset ∧ t.time.offset = 0 ∧ t.time.slewRemaining = 0 ∧ t.time.sources = [] ∧
    t.alarm.epoch = none ∧ t.alarm.level = .normal ∧ t.alarm.reports = [] ∧
    t.alarm.reassignments = [] ∧ t.route.entries = [] ∧ t.muster.kind = none ∧
    t.prog.items = [] ∧ t.prog.tombstones = [] ∧ t.prog.spotlight = [] ∧
    t.cabin.service = .none ∧ t.cabin.request = 0 ∧ t.cabin.sweep = .idle ∧
    t.cabin.sweepMinute = none ∧ t.cabin.info = none ∧ t.cabin.tally = none ∧
    t.trig.captures = [none, none, none, none] ∧ (∀ x ∈ t.trig.sets, x.state = .disabled) ∧
    (∀ x ∈ t.trig.timers, x.running = false ∧ x.count = 0) ∧
    t.page.selected = .fallback ∧ t.page.handed = none ∧ t.panel.state = .idle ∧
    t.panel.held = [] ∧ t.panel.pending = [] ∧ t.panel.window = [] ∧ t.panel.full = none ∧
    t.panel.partials = [] ∧ t.panel.timeoutRun = 0 ∧ t.ind.lamp = false ∧ t.ind.fault = false ∧
    t.pins = s.pins ∧ t.pending = s.pending

/-- A frame that passes the length test and tests 4 and 5 of R155 at a node that runs. -/
abbrev State.hears (s : State) (p : Port) (f : RxFrame) : Prop :=
  (s.ports.get p).inUse = true ∧ s.running = true ∧ f.payload.length ≤ 120 ∧
    f.sender ≠ s.cfg.nodeNumber ∧ headerInRange f = true

/-- What a port makes of a good frame: it is counted, and an UP port clears its fault run (R154, R155);
the rest of the node's bus side is as before. -/
abbrev PortCtl.countsFrame (c d : PortCtl) : Prop :=
  d.framesReceived = bump c.framesReceived ∧ d.queue = c.queue ∧ d.inFlight = c.inFlight ∧
    (c.state = .up → d.state = .up ∧ d.faultRun = 0)

/-! ### Bus (R152, R158) -/

/-- At most 16 entries, in class and age order, never two of the same class and key (R158). -/
abbrev PortCtl.queueLaw (c : PortCtl) : Prop :=
  c.queue.length ≤ queueCap ∧
    c.queue.Pairwise (fun x y => x.sameKey y = false) ∧
    c.queue.Pairwise (fun x y => y.before x = false)

/-- While the node is not in OPERATING nothing is queued and nothing is in flight (R152, R153). -/
abbrev State.silenceLaw (s : State) : Prop :=
  s.start.lifecycle ≠ .operating →
    s.ports.a.queue = [] ∧ s.ports.b.queue = [] ∧ s.ports.a.inFlight = none ∧
      s.ports.b.inFlight = none

/-- The queue law on both ports. -/
abbrev State.queueLaw (s : State) : Prop := s.ports.a.queueLaw ∧ s.ports.b.queueLaw

/-- A port out of use is UP with nothing in flight (R152). -/
abbrev PortCtl.idleLaw (c : PortCtl) : Prop := c.inUse = true ∨ (c.state = .up ∧ c.inFlight = none)

/-- The fault line stands as its condition says (R181). -/
abbrev State.faultLaw (s : State) : Prop :=
  s.ind.fault = s.faultCondition ∧ s.ports.a.idleLaw ∧ s.ports.b.idleLaw

/-! ### Route engine (R3, R13, R15) -/

/-- At most 48 entries, in strictly ascending order of destination id; none before the node runs (R3). -/
abbrev State.tableLaw (s : State) : Prop :=
  s.route.entries.length ≤ tableCap ∧
    s.route.entries.Pairwise (fun x y => x.dest < y.dest) ∧
    (s.running = true ∨ s.route.entries = [])

/-- The values an entry holds in its state (R13), and for a REACHABLE entry the hysteresis bound (R15):
its figures are those of the candidate through its next hop, and no other candidate is lower in cost by
more than the hysteresis. -/
def State.entryLaw (s : State) (e : RouteEntry) : Bool :=
  match e.state with
  | .anchor =>
    decide (e.cost = 0 ∧ e.hop = 0 ∧ e.nextHop = .self) && !e.viaStair && !e.viaBoundary &&
      decide (e.holdDownDeadline = none ∧ e.unreachableSince = none)
  | .reachable =>
    match s.currentCandidate e with
    | none => false
    | some c =>
      decide (e.cost = c.cost ∧ e.hop = c.hop ∧ e.viaStair = c.viaStair ∧
          e.viaBoundary = c.viaBoundary) &&
        [0, 1, 2, 3, 4, 5].all
          (fun n =>
            match s.candidateAt e.cells n with
            | some other => decide (c.cost ≤ other.cost + s.cfg.hysteresis)
            | none => true) &&
        decide (e.holdDownDeadline = none ∧ e.unreachableSince = none)
  | .holdDown =>
    decide (e.cost = 65535 ∧ e.hop = 0 ∧ e.nextHop = .none) && !e.viaStair && !e.viaBoundary &&
      e.holdDownDeadline.isSome && e.unreachableSince.isNone
  | .unreachable =>
    decide (e.cost = 65535 ∧ e.hop = 0 ∧ e.nextHop = .none) && !e.viaStair && !e.viaBoundary &&
      e.holdDownDeadline.isNone && e.unreachableSince.isSome

/-- The table law, and the entry law for every entry. -/
abbrev State.routeLaw (s : State) : Prop :=
  s.tableLaw ∧ ∀ e ∈ s.route.entries, s.entryLaw e = true

/-! ### Alarm state unit (R36, R42) -/

/-- At most 32 zone reports in strictly ascending key order, decks in order (R36). -/
abbrev State.reportLaw (s : State) : Prop :=
  s.alarm.reports.length ≤ reportCap ∧
    s.alarm.reports.Pairwise (fun x y => x.before y = true) ∧
    ∀ r ∈ s.alarm.reports, r.deckLow ≤ r.deckHigh

/-- At most one record for each place of the zones 1 to 15, each of the held epoch (R42); that the places stand
in the order of zone and kind is the model's choice (log entry 28). -/
abbrev State.reassignLaw (s : State) : Prop :=
  s.alarm.reassignments.Pairwise (fun x y => x.before y = true) ∧
    ∀ r ∈ s.alarm.reassignments, s.alarm.epoch = some r.epoch ∧ 1 ≤ r.zone ∧ r.zone ≤ 15

/-! ### Programme store (R61, R65, R72) -/

/-- The item list, tombstone queue and spotlight list within their bounds and orders; no held item of a
version the same as or older than its tombstone (R61, R65, R72). -/
abbrev State.programmeLaw (s : State) : Prop :=
  s.prog.items.length ≤ itemCap ∧
    s.prog.items.Pairwise (fun x y => x.before y = true) ∧
    s.prog.items.Pairwise (fun x y => x.id ≠ y.id) ∧
    s.prog.tombstones.length ≤ tombstoneCap ∧
    s.prog.tombstones.Pairwise (fun x y => x.id ≠ y.id) ∧
    (∀ i ∈ s.prog.items, ∀ t ∈ s.prog.tombstones, i.id = t.id → newer 8 i.version t.version = true) ∧
    s.prog.spotlight.length ≤ spotlightCap ∧
    s.prog.spotlight.Nodup ∧
    ∀ d ∈ s.prog.spotlight, ∃ i ∈ s.prog.items, i.id = d

/-! ### Ship time (R98, R103) -/

/-- At most 4 sources, never two of one sender; the selection and own stratum those of the best source,
and a stale deadline in HOLDOVER alone (R98, R99, R103). That the source table stands in ascending order of sender
is the model's choice (DESIGN CHOICE, log entry 28). -/
abbrev State.timeLaw (s : State) : Prop :=
  s.time.sources.length ≤ sourceCap ∧
    s.time.sources.Pairwise (fun x y => x.sender < y.sender) ∧
    s.time.selected = (leastBy TimeSource.before s.time.sources).map (fun x => x.sender) ∧
    s.time.ownStratum = (leastBy TimeSource.before s.time.sources).map (fun x => x.stratum + 1) ∧
    (s.time.state = .synced → s.time.sources ≠ []) ∧
    (s.time.staleDeadline.isSome = decide (s.time.state = .holdover))

/-! ### Levels, muster, triggers and pages (R47, R111, R121) -/

/-- The level every block has in use is the held level (R111, R120, R143, R180); before the node runs the
trigger unit and the panel controller have taken no notice. -/
abbrev State.levelLaw (s : State) : Prop :=
  s.page.level = s.alarm.level ∧ s.ind.level = s.alarm.level ∧
    (s.running = true → s.trig.level = s.alarm.level ∧ s.panel.level = s.alarm.level) ∧
    (s.start.lifecycle = .loading →
      s.alarm.level = .normal ∧ s.trig.level = .normal ∧ s.panel.level = .normal)

/-- The kind of muster target a level calls for (R47). -/
def musterKindFor : Level → Option PointKind
  | .normal => none
  | .alert => none
  | .general => some .assembly
  | .abandon => some .embark

/-- The muster record's kind is the one the held level calls for, from LISTENING on, and its destination
and rank come and go together (R47). -/
abbrev State.musterLaw (s : State) : Prop :=
  s.levelLaw ∧ (s.running = true → s.muster.kind = musterKindFor s.alarm.level) ∧
    (s.running = false → s.muster.kind = none)

/-- Set m is y, and the one set in ENABLED. -/
abbrev TriggerUnit.soleEnabled (u : TriggerUnit) (m : Nat) (y : TriggerSet) : Prop :=
  m < 4 ∧ u.sets[m]? = some y ∧ y.state = .enabled ∧
    ∀ (j : Nat) (z : TriggerSet), u.sets[j]? = some z → z.state = .enabled → j = m

/-- The sets after the once-step of an activated set m (R113). -/
def afterOnce (sets : List TriggerSet) (m : Nat) (y : TriggerSet) : List TriggerSet :=
  if y.cfg.repeats then sets else sets.set m { y with state := .disabled }

/-- No normal-only set is ENABLED while the held level is GENERAL or ABANDON (R111). -/
abbrev State.triggerLaw (s : State) : Prop :=
  (s.trig.level.emergency = true →
      ∀ x ∈ s.trig.sets, x.cfg.normalOnly = true → x.state ≠ .enabled) ∧
    (s.start.lifecycle = .loading → s.trig.level = .normal)

/-- The selected page is the one the arbiter's table gives (R121). -/
abbrev State.pageLaw (s : State) : Prop := s.page.selected = s.arbiter

/-- The selected page is the arbiter's, and what the page selector last handed is that page as the node now
stands (R121, R136). -/
abbrev State.shown (s : State) : Prop :=
  s.page.selected = s.arbiter ∧
    s.page.handed = some ⟨s.page.selected, s.composePage s.page.selected⟩

/-! ### Panel (R140, R142) -/

/-- The counting entries of the window list: at most W, of which at most W − 1 are non-urgent; the list is
empty in LOADING (R140, R142). -/
abbrev State.windowLaw (s : State) : Prop :=
  (s.panel.countingEntries s.panelEnv).length ≤ s.panelCfg.windowCount ∧
    ((s.panel.countingEntries s.panelEnv).filter (fun w => !w.urgent)).length ≤
      s.panelCfg.windowCount - 1 ∧
    (s.start.lifecycle = .loading → s.panel.window = [])

/-! ### Frames -/

/-- The blocks of a state, the units in which a frame says what a command leaves alone. -/
inductive Block
  | clock | start | ports | bus | time | alarm | route | muster | prog
  | cabin | trig | page | panel | ind | status | pins | pending
deriving DecidableEq, Repr

/-- Two states agree on a block. -/
def State.sameAt (s t : State) : Block → Prop
  | .clock => t.clock = s.clock
  | .start => t.start = s.start
  | .ports => t.ports = s.ports
  | .bus => t.bus = s.bus
  | .time => t.time = s.time
  | .alarm => t.alarm = s.alarm
  | .route => t.route = s.route
  | .muster => t.muster = s.muster
  | .prog => t.prog = s.prog
  | .cabin => t.cabin = s.cabin
  | .trig => t.trig = s.trig
  | .page => t.page = s.page
  | .panel => t.panel = s.panel
  | .ind => t.ind = s.ind
  | .status => t.status = s.status
  | .pins => t.pins = s.pins
  | .pending => t.pending = s.pending

/-- From s to t nothing changes outside the listed blocks. -/
def OnlyChanges (allowed : List Block) (s t : State) : Prop := ∀ b, b ∉ allowed → s.sameAt t b

/-- From s to t the other blocks are told of an event of the route engine that concerns one destination, moved where
its state or next hop changed or its entry was removed, and changed where its displayed figures did: moved, the
muster selector reviews its target and the trigger unit takes one ROUTE_CHANGE occurrence of it; changed, the page
selector hands over the page as it now stands (R27, R52, R110). What the one ENABLED set does of an occurrence
is said for the actions NONE and CAPTURE. -/
abbrev State.toldOfRoute (s t : State) (dest : Nat) (moved changed : Prop) : Prop :=
  (moved → t.muster = { t with muster := s.muster }.review) ∧
  (¬moved → t.muster = s.muster ∧ t.trig = s.trig) ∧
  (changed → t.shown) ∧
  (¬moved → ¬changed → OnlyChanges [.route, .ports, .ind] s t) ∧
  ∀ (m : Nat) (y : TriggerSet), s.trig.soleEnabled m y →
    let activated : TriggerUnit := { s.trig with
      activations := bump s.trig.activations, sets := afterOnce s.trig.sets m y }
    let waits : Prop := y.cfg.factor = .routeChange ∧ (y.cfg.factorArg = 0 ∨ y.cfg.factorArg = dest)
    (¬waits → t.trig = s.trig) ∧
    (moved → waits →
      (y.cfg.action = .none → t.trig = activated) ∧
      (y.cfg.action = .capture → t.trig = { activated with
        captures := s.trig.captures.set y.cfg.actionArg
          (some ⟨s.captureTime, m, false, .routeChange, dest⟩) }))

/-- A command completes: `exec` answers the next state t. -/
abbrev Completes (c : Instr) (s t : State) : Prop := exec c s = .next t

end Sys2Proof.Machine
end

