-- ==== Sys2Proof/Certificates/Slice0/Obligations.lean ====
section
/-! DEFINITION. What is claimed of the machine: one `Prop` per statement, each naming the rules of spec/ it
formalises or, where it rests on a choice of the model, the log entry of that choice. -/

open Sys2Proof Sys2Proof.Machine

/-! ### Steps, resets and start (chapter 11) -/

/-- A step runs the command at the front of the queue with the queue's rest (the queue of waiting commands is the
model's own choice, log entry 6); on an empty queue it lets one millisecond of the node clock pass and does nothing
else (the model's choice, log entry 5). -/
def Obligations.StepRunsFrontCommand : Prop :=
  (∀ (c : Instr) (rest : List Instr) (s : State), s.pending = c :: rest →
    step s = exec c { s with pending := rest }) ∧
  ∀ s : State, s.pending = [] →
    ∃ t, step s = .next t ∧ t.clock = s.clock + 1 ∧ OnlyChanges [.clock] s t

/-- Power-on and the reset line bring the node to the reset state, every field of every block in it, but for the
panel kind, which is the strap's, and the reset-cause record, which is written; a pulse below 10 µs is no reset
(R169). `ResetLeaves` names the values that rules give; those that no rule gives (log entry 4), and that the pins
and the waiting commands stand as they were (log entry 11), are the model's choices. -/
def Obligations.ResetsRestore : Prop :=
  let restored (strap : PanelKind) (cause : ResetCause) (count : Nat) (s : State) : State :=
    { State.reset with
      start := { State.reset.start with cause := cause, startCount := count }
      panel := { State.reset.panel with kind := strap }
      pins := s.pins
      pending := s.pending }
  (∀ (strap : PanelKind) (s : State),
    exec (.powerOn strap) s = .next (restored strap .power 0 s) ∧
      ResetLeaves strap s (restored strap .power 0 s)) ∧
  (∀ (strap : PanelKind) (pulse : Nat) (s : State), 10 ≤ pulse →
    let count := min 255 (s.start.startCount + 1)
    exec (.lineReset strap pulse) s = .next (restored strap .line count s) ∧
      ResetLeaves strap s (restored strap .line count s)) ∧
  (∀ (strap : PanelKind) (pulse : Nat) (s : State), pulse < 10 →
    exec (.lineReset strap pulse) s = .next s)

/-- The state after power-on meets every law of the machine. -/
def Obligations.ResetMeetsLaws : Prop :=
  State.reset.queueLaw ∧ State.reset.silenceLaw ∧ State.reset.faultLaw ∧ State.reset.routeLaw ∧
    State.reset.reportLaw ∧ State.reset.reassignLaw ∧ State.reset.programmeLaw ∧
    State.reset.timeLaw ∧ State.reset.musterLaw ∧ State.reset.triggerLaw ∧ State.reset.pageLaw ∧
    State.reset.windowLaw

/-- No command but a reset moves the node clock, the reset-cause record, the start count or the sampled panel
kind, and none touches the commands that wait (R95, R169; the queue is the model's, log entries 6 and 11). The held
epoch moves only to a newer one, and within one epoch the held level never falls (R31). The lifecycle moves from
LOADING to LISTENING with a configuration copy or to CONFIG_FAULT without one, and from LISTENING to OPERATING, and in
no other way; outside LOADING the copy is fixed (R170, R171, R173). -/
def Obligations.BetweenResets : Prop :=
  ∀ (c : Instr) (s t : State), exec c s = .next t → resets c = false →
    (t.clock = s.clock ∧ t.start.cause = s.start.cause ∧ t.start.startCount = s.start.startCount ∧
      t.panel.kind = s.panel.kind ∧ t.pending = s.pending) ∧
    (∀ e, s.alarm.epoch = some e →
      (t.alarm.epoch = some e ∧ s.alarm.level.code ≤ t.alarm.level.code) ∨
        ∃ e', t.alarm.epoch = some e' ∧ newer 16 e' e = true) ∧
    ((t.start.lifecycle = s.start.lifecycle ∧ t.start.config = s.start.config) ∨
      (s.start.lifecycle = .loading ∧ t.start.lifecycle = .listening ∧ t.start.config ≠ none) ∨
      (s.start.lifecycle = .loading ∧ t.start.lifecycle = .configFault ∧
        t.start.config = s.start.config) ∨
      (s.start.lifecycle = .listening ∧ t.start.lifecycle = .operating ∧
        t.start.config = s.start.config))

/-- A good image takes the node from LOADING to LISTENING with its configuration copy: ports, pinned route
entries of the kinds R4 gives, line records, a tally of each distinct cabin of the sweep ranges in IDLE, trigger
sets and first page (R4, R79, R92, R108, R120, R152, R172, R173). -/
def Obligations.GoodImageStartsListening : Prop :=
  ∀ (image : List Byte) (config : ConfigCopy) (clamps : Nat) (s : State),
    s.start.lifecycle = .loading → image.length = 496 → readImage image = .good config clamps →
    s.page.level = .normal → s.page.spotItem = none →
    ∃ t, exec (.configReadEnd image) s = .next t ∧
      t.start.lifecycle = .listening ∧ t.start.config = some config ∧
      t.start.configGood = some true ∧
      t.start.listenDeadline = some (s.clock + config.listenPeriod * 1000) ∧
      (0 < clamps → t.start.clamped = true) ∧
      t.start.clamps = min 65535 (s.start.clamps + clamps) ∧
      t.ports.a = { s.ports.a with inUse := true, bitRate := some config.bitRate } ∧
      (config.bothPorts = true →
        t.ports.b = { s.ports.b with inUse := true, bitRate := some config.bitRate }) ∧
      (config.bothPorts = false → t.ports.b = s.ports.b) ∧
      (∀ d, (∃ e ∈ t.route.entries, e.dest = d) ↔
        (∃ x ∈ config.anchored, x.dest = d) ∨ (∃ x ∈ config.labels, x.dest = d) ∨
          ∃ x ∈ config.signposted, x.dest = d) ∧
      t.route.entries.Pairwise (fun x y => x.dest < y.dest) ∧
      (∀ e ∈ t.route.entries, e.pinned = true ∧ e.cells = List.replicate 6 Cell.empty ∧
        ((∃ x ∈ config.anchored, x.dest = e.dest) → e.state = .anchor ∧ e.cost = 0) ∧
        ((∀ x ∈ config.anchored, x.dest ≠ e.dest) →
          e.state = .unreachable ∧ e.cost = 65535 ∧ e.unreachableSince = some s.clock)) ∧
      (∀ e ∈ t.route.entries,
        e.kind = match config.anchored.find? (fun x => x.dest == e.dest) with
          | some x => x.kind
          | none => match config.labels.find? (fun x => x.dest == e.dest) with
            | some x => x.kind
            | none => .venue) ∧
      t.cabin.lines.length = config.lines.length ∧
      (∀ (n : Nat) (l : LineCfg), config.lines[n]? = some l →
        t.cabin.lines[n]? =
          some ⟨l.function, l.edge, l.debounce, some (s.pins.lines.getD n true), none⟩) ∧
      ((config.role = .cabin ∨ config.role = .assembly ∨ config.sweepRanges = []) →
        t.cabin.tally = none) ∧
      (config.role = .corridor ∨ config.role = .stair → config.sweepRanges ≠ [] →
        ∃ tally, t.cabin.tally = some tally ∧
          tally.Pairwise (fun x y => x.cabin < y.cabin) ∧ (∀ x ∈ tally, x.sweep = .idle) ∧
          ∀ cabin, (∃ x ∈ tally, x.cabin = cabin) ↔
            ∃ r ∈ config.sweepRanges, r.1 ≤ cabin ∧ cabin ≤ r.2) ∧
      t.trig.sets = config.triggers.map
        (fun c => ⟨c, if c.enabledAtStart then .enabled else .disabled⟩) ∧
      t.panel.dayLevel = config.panel.dayLevel ∧
      t.page.selected = (if config.role = .cabin then .cabin else .rotation .route) ∧
      OnlyChanges [.start, .ports, .route, .cabin, .trig, .page, .panel] s t

/-- An image fails its check where the sum modulo 65536 of the 247 words of octets 0..493 differs from the last
word, and has a structural error where it passes and a count is too large, the node number is out of range, or the
sweep ranges of a CORRIDOR or STAIR node, as clamped, hold more than 64 distinct cabins. Either takes the node from
LOADING to CONFIG_FAULT: port A alone in use, the FALLBACK page, the fault line asserted (R152, R170, R171, R181).
That the check result stands as good after a structural error is the model's reading (DEDUCED, log entry 25). -/
def Obligations.BadImageFaults : Prop :=
  ∀ (image : List Byte) (s : State), image.length = 496 →
    let o (i : Nat) : Nat := (image.getD i 0#8).toNat
    let w (i : Nat) : Nat := o i * 256 + o (i + 1)
    let passes : Prop := ((List.range 247).map (fun i => w (2 * i))).sum % 65536 = w 494
    let cabin (i : Nat) : Nat := max 1 (min 9999 (w i))
    let held (n : Nat) : Prop := ∃ i < o 11,
      min (cabin (389 + 4 * i)) (cabin (391 + 4 * i)) ≤ n ∧
        n ≤ max (cabin (389 + 4 * i)) (cabin (391 + 4 * i))
    let structural : Prop := 6 < o 7 ∨ 2 < o 8 ∨ 16 < o 9 ∨ 4 < o 10 ∨ 2 < o 11 ∨ w 0 = 0 ∨ 4095 < w 0 ∨
      (o 4 ≤ 1 ∧ ∃ l : List Nat, l.Nodup ∧ l.length = 65 ∧ ∀ n ∈ l, held n)
    (readImage image = .checkFailed ↔ ¬passes) ∧
    (readImage image = .structuralError ↔ passes ∧ structural) ∧
    (s.start.lifecycle = .loading → ¬passes ∨ structural →
      ∃ t, exec (.configReadEnd image) s = .next t ∧
        t.start = { s.start with lifecycle := .configFault, configGood := some (decide passes) } ∧
        t.ports.a = { s.ports.a with
          inUse := true, bitRate := some (if o 6 = 1 then .kbit250 else .kbit125) } ∧
        t.ports.b = s.ports.b ∧ t.page.selected = .fallback ∧ t.ind.fault = true ∧
        t.ind.lamp = s.ind.lamp ∧ (s.panel.kind = .lit → t.panel.luminance = 800) ∧
        OnlyChanges [.start, .ports, .page, .panel, .ind] s t)

/-- A good image gives the configuration copy field by field: each at the octets of its layout, high octet first,
brought into its range, a code beyond the last read as the last, entries beyond a count and fields of roles that do
not use them not read; and the clamps are the fields that stood outside their ranges and the ranges exchanged (R168,
R172). That of the boundary flag bit 0 alone is read, that a range is exchanged by its cabins as clamped, and that
bit n of an ENABLE_SETS or DISABLE_SETS argument marks set n, are the model's choices (log entries 37, 38, 41). -/
def Obligations.ImageFieldsClamped : Prop :=
  ∀ (image : List Byte) (c : ConfigCopy) (clamps : Nat), image.length = 496 →
    readImage image = .good c clamps →
    let o (i : Nat) : Nat := (image.getD i 0#8).toNat
    let w (i : Nat) : Nat := o i * 256 + o (i + 1)
    let l (i : Nat) : Nat := w i * 65536 + w (i + 2)
    let clamp (lo hi v : Nat) : Nat := max lo (min hi v)
    let glyphs (i n : Nat) : List Byte := (image.drop i).take n
    let ports : List Port := [.a, .b]
    let kinds : List DestKind := [.assembly, .embark, .venue]
    let links : List LinkKind := [.level, .stairUp, .stairDown]
    let bearings : List Bearing :=
      [.ahead, .aheadRight, .right, .backRight, .back, .backLeft, .left, .aheadLeft, .up, .down]
    let functions : List LineFunction :=
      [.none, .entryContact, .privacyButton, .makeupButton, .crewClear, .crewAssist, .presence,
        .triggerOnly]
    let edges : List ActiveEdge := [.rise, .fall, .both]
    let factors : List Factor :=
      [.none, .minute, .programmeLead, .input, .alarmChange, .routeChange, .timer]
    let actions : List Action :=
      [.none, .showPage, .capture, .timerStart, .timerStop, .luminance, .quietEnter, .quietLeave,
        .enableSets, .disableSets]
    let ranged : Prop := c.role = .corridor ∨ c.role = .stair
    let factorTop (f : Factor) : Option Nat := match f with
      | .none => none
      | .minute => some 1439
      | .programmeLead => none
      | .input => some 7
      | .alarmChange => some 3
      | .routeChange => some 255
      | .timer => some 1
    let actionTop (x : Action) : Option Nat := match x with
      | .none => none
      | .showPage => some 2
      | .capture => some 3
      | .timerStart => some 1
      | .timerStop => some 1
      | .luminance => some 1023
      | .quietEnter => none
      | .quietLeave => none
      | .enableSets => none
      | .disableSets => none
    let cabins (i : Nat) : Nat × Nat := (clamp 1 9999 (w (389 + 4 * i)), clamp 1 9999 (w (391 + 4 * i)))
    -- node, address and role
    (c.nodeNumber = w 0 ∧ c.deck = clamp 0 31 (o 2) ∧ c.zone = clamp 1 15 (o 3) ∧
      [Role.corridor, .stair, .cabin, .assembly][min 3 (o 4)]? = some c.role ∧
      (c.bothPorts = true ↔ o 5 ≠ 0) ∧ (c.bitRate = .kbit250 ↔ o 6 ≠ 0)) ∧
    -- the lists, each as long as its count
    (c.neighbours.length = o 7 ∧ ∀ i x, c.neighbours[i]? = some x →
      let a := 12 + 10 * i
      x.node = clamp 1 4095 (w a) ∧ ports[min 1 (o (a + 2))]? = some x.port ∧
        x.distance = clamp 1 2000 (w (a + 3)) ∧ links[min 2 (o (a + 5))]? = some x.kind ∧
        x.boundary = (o (a + 6)).testBit 0 ∧ x.zone = clamp 1 15 (o (a + 7)) ∧
        x.deck = clamp 0 31 (o (a + 8)) ∧ bearings[min 9 (o (a + 9))]? = some x.bearing) ∧
    (c.anchored.length = o 8 ∧ ∀ i x, c.anchored[i]? = some x →
      x.dest = clamp 1 255 (o (72 + 2 * i)) ∧ kinds[min 2 (o (73 + 2 * i))]? = some x.kind) ∧
    (c.labels.length = o 9 ∧ ∀ i x, c.labels[i]? = some x →
      let a := 80 + 13 * i
      x.dest = clamp 1 255 (o a) ∧ kinds[min 2 (o (a + 1))]? = some x.kind ∧
        x.deck = clamp 0 31 (o (a + 2)) ∧ x.zone = clamp 1 15 (o (a + 3)) ∧
        x.label = glyphs (a + 5) (min 8 (o (a + 4)))) ∧
    (c.signposted.length = o 10 ∧ ∀ i x, c.signposted[i]? = some x →
      let a := 288 + 18 * i
      x.dest = clamp 1 255 (o a) ∧ x.label = glyphs (a + 2) (min 16 (o (a + 1)))) ∧
    (ranged → c.sweepRanges.length = o 11 ∧ ∀ i x, c.sweepRanges[i]? = some x →
      x.1 = min (cabins i).1 (cabins i).2 ∧ x.2 = max (cabins i).1 (cabins i).2) ∧
    (c.role = .cabin → c.cabinNumber = clamp 1 9999 (w 387)) ∧
    -- routes, time and pages
    (c.assemblyPrimary = o 76 ∧ c.assemblyAlternate = o 77 ∧ c.embarkPrimary = o 78 ∧
      c.embarkAlternate = o 79 ∧ c.stairUpFactor = clamp 8 32 (o 360) ∧
      c.stairDownFactor = clamp 8 32 (o 361) ∧ c.cautionPenalty = clamp 0 5000 (w 362) ∧
      c.boundaryPenalty = clamp 0 500 (w 364) ∧ c.hysteresis = o 366 ∧
      c.advertInterval = clamp 2 60 (o 367) ∧ c.triggeredThreshold = clamp 0 1000 (w 368) ∧
      c.triggeredGap = clamp 100 5000 (w 370) ∧ c.holdDown = clamp 0 30 (o 372) ∧
      c.returnDelay = clamp 0 120 (o 373)) ∧
    (c.beaconInterval = clamp 1 60 (o 374) ∧ c.slewWindow = clamp 1 1000 (w 375) ∧
      c.transitAllowance = clamp 0 20 (o 377) ∧ c.staleLimit = clamp 10 1440 (w 378) ∧
      c.lookahead = clamp 0 720 (w 380) ∧ c.linesPerPage = clamp 3 8 (o 382) ∧
      c.dwell = clamp 2 60 (o 383) ∧ c.spotlightDwell = clamp 2 60 (o 384) ∧
      c.presenceDwell = clamp 10 600 (w 385)) ∧
    -- lines, sets and timers
    (c.lines.length = 8 ∧ ∀ i x, c.lines[i]? = some x →
      functions[min 7 (o (397 + 3 * i))]? = some x.function ∧
        edges[min 2 (o (398 + 3 * i))]? = some x.edge ∧ x.debounce = o (399 + 3 * i)) ∧
    (c.triggers.length = 4 ∧ ∀ i x, c.triggers[i]? = some x →
      let a := 421 + 8 * i
      factors[min 6 (o a)]? = some x.factor ∧ actions[min 9 (o (a + 3))]? = some x.action ∧
        (∀ top, factorTop x.factor = some top → x.factorArg = min top (w (a + 1))) ∧
        (∀ top, actionTop x.action = some top → x.actionArg = min top (w (a + 4))) ∧
        (x.action = .enableSets ∨ x.action = .disableSets →
          ∀ n < 4, x.actionArg.testBit n = (w (a + 4)).testBit n) ∧
        (∀ n < 4, x.chain.getLsbD n = (o (a + 6)).testBit n) ∧
        x.repeats = (o (a + 7)).testBit 0 ∧ x.normalOnly = (o (a + 7)).testBit 1 ∧
        x.enabledAtStart = (o (a + 7)).testBit 2) ∧
    (c.timers.length = 2 ∧ ∀ i x, c.timers[i]? = some x →
      x.terminal = clamp 1 65535 (w (453 + 3 * i)) ∧ (x.mode = .repeating ↔ o (455 + 3 * i) ≠ 0)) ∧
    -- panel, blink and listen period
    c.panel =
      { groupCount := clamp 1 4 (o 459), windowCount := clamp 2 8 (o 460)
        windowSeconds := clamp 10 3600 (w 461), gapAnyMicros := clamp 0 60000000 (l 463)
        gapAnyFrames := clamp 0 600 (w 467), gapSameMicros := clamp 0 60000000 (l 469)
        gapSameFrames := clamp 0 600 (w 473), framePeriodMicros := clamp 1000 100000 (l 475)
        ghostLimit := clamp 1 32 (o 479), refreshTimeout := clamp 1 30 (o 480)
        dayLevel := clamp 0 1023 (w 481), nightLevel := clamp 0 1023 (w 483)
        rampInitial := clamp 1 255 (o 485), rampAcceleration := clamp 0 63 (o 486)
        rampMaximum := clamp 1 1023 (w 487) } ∧
    (c.blinkPeriod = clamp 100 5000 (w 489) ∧
      c.blinkOnTime = clamp 50 (clamp 100 5000 (w 489) - 50) (w 491) ∧
      c.listenPeriod = clamp 2 60 (o 493)) ∧
    -- the clamps: the fields read (lowest, highest, as it stands) that lie outside their ranges
    (let fields : List (Nat × Nat × Nat) :=
      [(0, 31, o 2), (1, 15, o 3), (0, 3, o 4), (0, 1, o 5), (0, 1, o 6)] ++
      (List.range (o 7)).flatMap (fun i =>
        let a := 12 + 10 * i
        [(1, 4095, w a), (0, 1, o (a + 2)), (1, 2000, w (a + 3)), (0, 2, o (a + 5)),
          (1, 15, o (a + 7)), (0, 31, o (a + 8)), (0, 9, o (a + 9))]) ++
      (List.range (o 8)).flatMap (fun i => [(1, 255, o (72 + 2 * i)), (0, 2, o (73 + 2 * i))]) ++
      (List.range (o 9)).flatMap (fun i =>
        let a := 80 + 13 * i
        [(1, 255, o a), (0, 2, o (a + 1)), (0, 31, o (a + 2)), (1, 15, o (a + 3)),
          (0, 8, o (a + 4))]) ++
      (List.range (o 10)).flatMap (fun i =>
        let a := 288 + 18 * i
        [(1, 255, o a), (0, 16, o (a + 1))]) ++
      (if ranged then (List.range (o 11)).flatMap (fun i =>
        [(1, 9999, w (389 + 4 * i)), (1, 9999, w (391 + 4 * i))]) else []) ++
      (if c.role = .cabin then [(1, 9999, w 387)] else []) ++
      [(8, 32, o 360), (8, 32, o 361), (0, 5000, w 362), (0, 500, w 364), (2, 60, o 367),
        (0, 1000, w 368), (100, 5000, w 370), (0, 30, o 372), (0, 120, o 373), (1, 60, o 374),
        (1, 1000, w 375), (0, 20, o 377), (10, 1440, w 378), (0, 720, w 380), (3, 8, o 382),
        (2, 60, o 383), (2, 60, o 384), (10, 600, w 385)] ++
      (List.range 8).flatMap (fun i => [(0, 7, o (397 + 3 * i)), (0, 2, o (398 + 3 * i))]) ++
      (List.range 4).flatMap (fun i =>
        let a := 421 + 8 * i
        [(0, 6, o a), (0, 9, o (a + 3))] ++
          (((c.triggers[i]?).bind (fun x => factorTop x.factor)).map
            (fun top => (0, top, w (a + 1)))).toList ++
          (((c.triggers[i]?).bind (fun x => actionTop x.action)).map
            (fun top => (0, top, w (a + 4)))).toList) ++
      (List.range 2).flatMap (fun i => [(1, 65535, w (453 + 3 * i)), (0, 1, o (455 + 3 * i))]) ++
      [(1, 4, o 459), (2, 8, o 460), (10, 3600, w 461), (0, 60000000, l 463), (0, 600, w 467),
        (0, 60000000, l 469), (0, 600, w 473), (1000, 100000, l 475), (1, 32, o 479), (1, 30, o 480),
        (0, 1023, w 481), (0, 1023, w 483), (1, 255, o 485), (0, 63, o 486), (1, 1023, w 487),
        (100, 5000, w 489), (50, c.blinkPeriod - 50, w 491), (2, 60, o 493)]
    clamps = fields.countP (fun f => decide (f.2.2 < f.1 ∨ f.2.1 < f.2.2)) +
      if ranged then (List.range (o 11)).countP (fun i => decide ((cabins i).2 < (cabins i).1)) else 0)

/-- The end of the listen period takes the node to OPERATING and, on empty queues, leaves on every port in use
and UP the advertisement token before the SOLICIT, and on port A of a CABIN node its own report
(R24, R91, R106, R158, R173). -/
def Obligations.ListenPeriodEnds : Prop :=
  ∀ (s : State) (d : Nat), s.start.lifecycle = .listening → s.start.listenDeadline = some d →
    d ≤ s.clock → s.ports.a.queue = [] → s.ports.b.queue = [] →
    ∃ t, exec .listenPeriodEnd s = .next t ∧
      t.start = { s.start with lifecycle := .operating, listenDeadline := none } ∧
      t.route = { s.route with
        nextFull := some
          (s.clock + s.cfg.advertInterval * 1000 + s.cfg.nodeNumber % 8 * 100) } ∧
      t.time = { s.time with
        beaconDeadline := some
          (s.clock + s.cfg.beaconInterval * 1000 + s.cfg.nodeNumber % 8 * 100) } ∧
      (∀ p, (s.ports.get p).inUse = false → t.ports.get p = s.ports.get p) ∧
      (∀ p, (s.ports.get p).inUse = true → (s.ports.get p).state = .up →
        (t.ports.get p).queue.map (fun e => e.content) =
          (if p = .a ∧ s.cfg.role = .cabin ∧ s.cabin.sweep ≠ .idle then
            [.fixed (s.ownFrame .sweep
              (sweepPayload s.cfg.cabinNumber s.cabin.sweep s.cabin.sweepMinute))]
          else []) ++
          [.token (.full 1), .fixed (s.ownFrame .solicit [])] ++
          (if p = .a ∧ s.cfg.role = .cabin then
            [.fixed (s.ownFrame .service
              (servicePayload s.cfg.cabinNumber s.cabin.service s.cabin.request))]
          else [])) ∧
      OnlyChanges [.start, .ports, .route, .time] s t

/-- A SOLICIT on a running node: with the schedule of its port idle in OPERATING it sets the response deadline
and is counted; with the schedule pending, and in LISTENING, it changes nothing in the start block
(R174). -/
def Obligations.SolicitTaken : Prop :=
  ∀ (p : Port) (f : RxFrame) (s : State), s.hears p f → f.payload = [] →
    ∃ t, exec (.solicitFrame p f) s = .next t ∧
      (s.start.lifecycle = .operating → s.start.schedules.get p = none →
        t.start.schedules.get p =
            some ⟨s.clock + s.cfg.nodeNumber % 16 * 25 + 25, false, [], []⟩ ∧
          t.start.schedules.get (otherPort p) = s.start.schedules.get (otherPort p) ∧
          t.start.solicitsAnswered = bump s.start.solicitsAnswered) ∧
      (s.start.schedules.get p ≠ none ∨ s.start.lifecycle = .listening → t.start = s.start) ∧
      (s.ports.get p).countsFrame (t.ports.get p) ∧
      t.ports.get (otherPort p) = s.ports.get (otherPort p) ∧
      OnlyChanges [.start, .ports, .ind] s t

/-- A due response deadline on a port in use and UP with an empty queue: the schedule becomes idle, every item
without a mark is queued in class and key order with the FULL token last, and every marked item is counted,
while the whole response fits the queue (R45, R158, R175). -/
def Obligations.ResponseDeadlineAnswers : Prop :=
  ∀ (p : Port) (c : Schedule) (s : State), s.start.lifecycle = .operating →
    s.start.schedules.get p = some c → c.deadline ≤ s.clock →
    (s.ports.get p).inUse = true → (s.ports.get p).state = .up → (s.ports.get p).queue = [] →
    s.reportLaw → s.reassignLaw → s.start.suppressedItems ≤ 65535 →
    let zones := s.alarm.reports.filter (fun r => !c.zoneMarks.contains (r.origin, r.number))
    let places := s.alarm.reassignments.filter (fun r => !c.placeMarks.contains (r.zone, r.kind))
    let alarm := if c.alarmMark then [] else s.alarm.alarmPayload.toList
    let marked := (s.alarm.alarmPayload.toList.length - alarm.length) +
      (s.alarm.reports.length - zones.length) + (s.alarm.reassignments.length - places.length)
    alarm.length + zones.length + places.length ≤ 15 →
    ∃ t, exec (.responseDeadline p) s = .next t ∧
      t.start.schedules.get p = none ∧
      t.start.schedules.get (otherPort p) = s.start.schedules.get (otherPort p) ∧
      t.start.suppressedItems = min 65535 (s.start.suppressedItems + marked) ∧
      (t.ports.get p).queue.map (fun e => e.content) =
        alarm.map (fun o =>
          .fixed ⟨.alarm, 0, s.cfg.nodeNumber, s.alarm.origin, o⟩) ++
        zones.map (fun r =>
          .fixed ⟨.zone, 0, s.cfg.nodeNumber, r.origin, r.payload⟩) ++
        places.map (fun r =>
          .fixed ⟨.reassign, 0, s.cfg.nodeNumber, r.origin,
            r.payload (s.alarm.epoch.getD 0)⟩) ++
        [.token (.full 1)] ∧
      t.ports.get (otherPort p) = s.ports.get (otherPort p) ∧
      OnlyChanges [.start, .ports] s t

/-! ### The corridor bus (chapter 10) -/

/-- Serial number comparison (R1): a is newer than b when the difference modulo 2^n lies in
1..2^(n−1) − 1; equal values are duplicates, newer neither way. -/
def Obligations.SerialNewer : Prop :=
  ∀ n a b : Nat, 1 ≤ n → a < 2 ^ n → b < 2 ^ n →
    (newer n a b = true ↔
      1 ≤ ((a : Int) - b) % (2 ^ n : Nat) ∧
        ((a : Int) - b) % (2 ^ n : Nat) ≤ ((2 ^ (n - 1) : Nat) : Int) - 1) ∧
    newer n a a = false

/-- Every step keeps the queue law on both ports, at most 16 entries, in class and age order, never two of one
class and key, and the silence of a node that is not in OPERATING, nothing queued and nothing in flight (R152,
R153, R158). -/
def Obligations.QueueLawsKept : Prop :=
  ∀ s t : State, step s = .next t →
    (s.queueLaw → t.queueLaw) ∧ (s.silenceLaw → t.silenceLaw)

/-- A request to queue an entry, by the first case of R158 that holds, with R159 for a full queue. A queued entry
of the key then holds the new content, and the token the result of the table of R160. -/
def Obligations.RequestTaken : Prop :=
  ((∀ (frame : TxFrame) (c : QueueContent), mergeContent (.fixed frame) c = c) ∧
    (∀ c, mergeContent .beacon c = c) ∧
    (∀ cursor k, mergeContent (.token (.full cursor)) (.token k) = .token (.full cursor)) ∧
    (∀ n, mergeContent (.token .triggered) (.token (.full n)) = .token (.full 1)) ∧
    mergeContent (.token .triggered) (.token .triggered) = .token .triggered) ∧
  ∀ (s : State) (p : Port) (cls : FrameClass) (key : QueueKey) (content : QueueContent),
    let c := s.ports.get p
    let t := s.request p cls key content
    let d := t.ports.get p
    let new : QueueEntry := ⟨cls, key, c.nextAge, content⟩
    OnlyChanges [.ports] s t ∧ t.ports.get (otherPort p) = s.ports.get (otherPort p) ∧
    (c.inUse = false ∨ s.start.lifecycle ≠ .operating → t = s) ∧
    (c.inUse = true → s.start.lifecycle = .operating →
      (c.state = .down → d = { c with refusedWhileDown := bump c.refusedWhileDown }) ∧
      (c.state = .up → c.queueLaw →
        d.queueLaw ∧ d.inFlight = c.inFlight ∧
        ((∃ x ∈ c.queue, x.cls = cls ∧ x.key = key) →
          d.nextAge = c.nextAge ∧ d.queueDrops = c.queueDrops ∧
          ∀ e, e ∈ d.queue ↔ ∃ x ∈ c.queue,
            e = if x.cls = cls ∧ x.key = key then
              { x with content := mergeContent x.content content } else x) ∧
        ((∀ x ∈ c.queue, ¬(x.cls = cls ∧ x.key = key)) → c.queue.length < 16 →
          d.nextAge = c.nextAge + 1 ∧ d.queueDrops = c.queueDrops ∧
          ∀ e, e ∈ d.queue ↔ e = new ∨ e ∈ c.queue) ∧
        ((∀ x ∈ c.queue, ¬(x.cls = cls ∧ x.key = key)) → c.queue.length = 16 →
          d.queueDrops = bump c.queueDrops ∧
          ∃ y ∈ c.queue,
            (∀ x ∈ c.queue, x.cls.code ≤ y.cls.code ∧ (x.cls = y.cls → x.age ≤ y.age)) ∧
            (cls.code < y.cls.code →
              ∀ e, e ∈ d.queue ↔ e = new ∨ (e ∈ c.queue ∧ e ≠ y)) ∧
            (y.cls.code ≤ cls.code → d.queue = c.queue))))

/-- A transmission start takes the head of the queue: a fixed frame goes out as it was queued, a BEACON with its
content taken now; the advertisement token forms one ADVERT frame from the table as it stands, each entry told by
the table of R22, marks what it carries, and stays queued where more is to come; a token with nothing to carry
leaves the queue and the next head is considered (R22, R23, R106, R153, R161, R165). The stratum 15 of a SYNCED
node without a source is the model's choice (log entry 30). -/
def Obligations.TransmissionStarts : Prop :=
  ∀ (p : Port) (e : QueueEntry) (rest : List QueueEntry) (s : State),
    s.start.lifecycle = .operating → (s.ports.get p).inUse = true → (s.ports.get p).state = .up →
    (s.ports.get p).inFlight = none → (s.ports.get p).queue = e :: rest →
    let told (x : RouteEntry) : AdvertEntry := match x.state with
      | .anchor => ⟨x.dest, x.kind.code, 0, 0, 0, false, false⟩
      | .reachable => ⟨x.dest, x.kind.code, x.cost, x.hop,
          (match x.nextHop with
            | .slot n => (s.cfg.neighbours[n]?.map (fun l => l.node)).getD 0
            | .self => 0
            | .none => 0), x.viaStair, x.viaBoundary⟩
      | .holdDown => ⟨x.dest, x.kind.code, 65535, 0, 0, false, false⟩
      | .unreachable => ⟨x.dest, x.kind.code, 65535, 0, 0, false, false⟩
    (∀ frame, e.content = .fixed frame →
      ∃ t, exec (.transmissionStart p) s = .next t ∧
        t.ports.get p = { s.ports.get p with
          queue := rest, inFlight := some ⟨e.key, e.age, .fixed, frame⟩ } ∧
        t.ports.get (otherPort p) = s.ports.get (otherPort p) ∧ OnlyChanges [.ports] s t) ∧
    (e.content = .beacon →
      ∃ t f, exec (.transmissionStart p) s = .next t ∧
        t.ports.get p = { s.ports.get p with
          queue := rest, inFlight := some ⟨e.key, e.age, .beacon, f⟩ } ∧
        f.cls = .beacon ∧ f.hop = 0 ∧ f.sender = s.cfg.nodeNumber ∧
        f.origin = s.cfg.nodeNumber ∧
        f.payload = octets4 (s.shipMs / 1000) ++ octets2 (s.shipMs % 1000) ++
          octets1 (if s.time.state = .synced then s.time.ownStratum.getD 15 else 15) ++
          octets1 s.time.state.code ∧
        t.ports.get (otherPort p) = s.ports.get (otherPort p) ∧ OnlyChanges [.ports] s t) ∧
    (∀ kind, e.content = .token kind →
      let holds (x : RouteEntry) : Bool := match kind with
        | .full cursor => decide (cursor ≤ x.dest)
        | .triggered => decide (x.marks.get p = .set)
      let carried := (s.route.entries.filter holds).take 12
      (carried = [] →
        exec (.transmissionStart p) s =
          exec (.transmissionStart p) (s.putPort p { s.ports.get p with queue := rest })) ∧
      (∀ (first last : RouteEntry), carried.head? = some first → carried.getLast? = some last →
        ∃ t f, exec (.transmissionStart p) s = .next t ∧
          (t.ports.get p).inFlight = some f ∧ f.key = e.key ∧ f.age = e.age ∧
          f.source = (match kind with
            | .full _ => .fullToken first.dest
            | .triggered => .triggeredToken) ∧
          f.frame = s.ownFrame .advert (advertPayload (carried.map told)) ∧
          t.route = { s.route with
            entries := s.route.entries.map (fun x =>
              if x.dest ∈ carried.map (fun y => y.dest) then
                { x with marks := x.marks.put p .carried } else x) } ∧
          (t.ports.get p).queue =
            (match kind with
              | .full _ =>
                if ∃ x ∈ s.route.entries, last.dest < x.dest then
                  [{ e with content := .token (.full (last.dest + 1)) }]
                else if ∃ x ∈ t.route.entries, x.marks.get p = .set then
                  [{ e with content := .token .triggered }]
                else []
              | .triggered =>
                if ∃ x ∈ t.route.entries, x.marks.get p = .set then [e] else []) ++ rest ∧
          t.ports.get (otherPort p) = s.ports.get (otherPort p) ∧
          OnlyChanges [.route, .ports] s t))

/-- How a flight ends. SENT drops the frame, clears the fault run and counts it; an ADVERT frame's carried marks
become clear. Lost arbitration returns the frame to the queue with its age: as itself, as its token, or, by the
model's choice in log entry 26, as a BEACON entry that takes its content again; a queued entry of its key keeps its
content and takes its age; of 17 entries the youngest of the highest class is dropped and counted; the carried
marks become set again (R23, R153, R162). -/
def Obligations.FlightsEnd : Prop :=
  ∀ (p : Port) (f : InFlight) (s : State), (s.ports.get p).inFlight = some f →
    (∃ t, exec (.sent p) s = .next t ∧
      t.ports.get p = { s.ports.get p with
        inFlight := none, faultRun := 0, framesSent := bump (s.ports.get p).framesSent } ∧
      t.ports.get (otherPort p) = s.ports.get (otherPort p) ∧
      ((f.source = .fixed ∨ f.source = .beacon) → t.route = s.route) ∧
      ((f.source = .triggeredToken ∨ ∃ n, f.source = .fullToken n) →
        t.route = { s.route with
          entries := s.route.entries.map (fun e =>
            if e.marks.get p = .carried then { e with marks := e.marks.put p .clear } else e) }) ∧
      OnlyChanges [.route, .ports] s t) ∧
    ((s.ports.get p).queueLaw →
      ∃ t, exec (.arbitrationLost p) s = .next t ∧
        (t.ports.get p).queueLaw ∧ (t.ports.get p).inFlight = none ∧
        (t.ports.get p).faultRun = (s.ports.get p).faultRun ∧
        (t.ports.get p).arbitrationLosses = bump (s.ports.get p).arbitrationLosses ∧
        ((∀ x ∈ (s.ports.get p).queue, ¬(x.cls = f.frame.cls ∧ x.key = f.key)) →
          let back : QueueEntry := ⟨f.frame.cls, f.key, f.age, match f.source with
            | .fixed => .fixed f.frame
            | .beacon => .beacon
            | .fullToken n => .token (.full n)
            | .triggeredToken => .token .triggered⟩
          let all (x : QueueEntry) : Prop := x = back ∨ x ∈ (s.ports.get p).queue
          ((s.ports.get p).queue.length < 16 →
            (t.ports.get p).queueDrops = (s.ports.get p).queueDrops ∧
            ∀ e, e ∈ (t.ports.get p).queue ↔ all e) ∧
          ((s.ports.get p).queue.length = 16 →
            (t.ports.get p).queueDrops = bump (s.ports.get p).queueDrops ∧
            ∃ y, all y ∧
              (∀ x, all x → x.cls.code ≤ y.cls.code ∧ (x.cls = y.cls → x.age ≤ y.age)) ∧
              ∀ e, e ∈ (t.ports.get p).queue ↔ all e ∧ e ≠ y)) ∧
        (∀ x ∈ (s.ports.get p).queue, x.cls = f.frame.cls → x.key = f.key →
          ∀ e, e ∈ (t.ports.get p).queue ↔ (e ∈ (s.ports.get p).queue ∧ e ≠ x) ∨
            e = (match f.source with
              | .fixed => { x with age := f.age }
              | .beacon => { x with age := f.age }
              | .fullToken n => { x with age := min x.age f.age, content := .token (.full n) }
              | .triggeredToken => { x with age := min x.age f.age })) ∧
        ((f.source = .fixed ∨ f.source = .beacon) → t.route = s.route) ∧
        ((f.source = .triggeredToken ∨ ∃ n, f.source = .fullToken n) →
          t.route = { s.route with
            entries := s.route.entries.map (fun e =>
              if e.marks.get p = .carried then { e with marks := e.marks.put p .set } else e) }) ∧
        t.ports.get (otherPort p) = s.ports.get (otherPort p) ∧
        OnlyChanges [.route, .ports] s t)

/-- A transmit fault is counted and raises the fault run; the sixteenth in a row takes the port DOWN, its
queue, the returned frame in it, emptied and each entry counted as lost, and the fault line asserted (R153, R154,
R181). -/
def Obligations.TransmitFaultCounts : Prop :=
  ∀ (p : Port) (f : InFlight) (s : State), (s.ports.get p).inFlight = some f →
    (s.ports.get p).inUse = true → (s.ports.get p).queueLaw →
    ∃ t, exec (.transmitFault p) s = .next t ∧
      (t.ports.get p).inFlight = none ∧
      (t.ports.get p).transmitFaults = bump (s.ports.get p).transmitFaults ∧
      ((s.ports.get p).faultRun < 15 →
        (t.ports.get p).faultRun = (s.ports.get p).faultRun + 1 ∧
        (t.ports.get p).state = (s.ports.get p).state ∧ (t.ports.get p).queueLaw ∧
        ((∃ e ∈ (t.ports.get p).queue, e.cls = f.frame.cls ∧ e.key = f.key) ∨
          (t.ports.get p).queue.length = 16)) ∧
      (15 ≤ (s.ports.get p).faultRun →
        (t.ports.get p).state = .down ∧ (t.ports.get p).queue = [] ∧
        (t.ports.get p).faultRun = 0 ∧ (t.ports.get p).goodRun = 0 ∧
        (t.ports.get p).downEntries = bump (s.ports.get p).downEntries ∧ t.ind.fault = true ∧
        let lost := (s.ports.get p).lostAtDown
        let waiting := (s.ports.get p).queue.length
        ((∃ x ∈ (s.ports.get p).queue, x.cls = f.frame.cls ∧ x.key = f.key) →
          (t.ports.get p).lostAtDown = min 65535 (lost + waiting)) ∧
        ((∀ x ∈ (s.ports.get p).queue, ¬(x.cls = f.frame.cls ∧ x.key = f.key)) →
          (t.ports.get p).lostAtDown = min 65535 (lost + min 16 (waiting + 1)))) ∧
      ((f.source = .fixed ∨ f.source = .beacon) → t.route = s.route) ∧
      ((f.source = .triggeredToken ∨ ∃ n, f.source = .fullToken n) →
        t.route = { s.route with
          entries := s.route.entries.map (fun e =>
            if e.marks.get p = .carried then { e with marks := e.marks.put p .set } else e) }) ∧
      t.ports.get (otherPort p) = s.ports.get (otherPort p) ∧
      OnlyChanges [.route, .ports, .ind] s t

/-- A run of octets of fewer than nine, with a payload length above 120, or of another length than nine more than
that, is a length error; one whose last two octets are not the CRC of the others, of polynomial 0x1021 and initial
value 0xFFFF, nothing reflected or inverted, is a check error; one of a class octet above 12 is of an unknown class.
Each is discarded and counted as such; a DOWN port's good-frame run returns to 0 at the first two and rises at the
third (R154, R155, R164). -/
def Obligations.ReceiveErrorsCounted : Prop :=
  ∀ (p : Port) (octets : List Byte) (s : State), (s.ports.get p).inUse = true →
    let o (i : Nat) : Nat := (octets.getD i 0#8).toNat
    let crc (l : List Byte) : BitVec 16 :=
      (l.flatMap (fun x => [7, 6, 5, 4, 3, 2, 1, 0].map x.getLsbD)).foldl
        (fun c b => (c <<< 1) ^^^ (if c.msb = b then 0#16 else 0x1021#16)) 0xFFFF#16
    let lengthError : Prop := octets.length < 9 ∨ 120 < o 6 ∨ octets.length ≠ 9 + o 6
    let checkError : Prop := ¬lengthError ∧
      (crc (octets.take (7 + o 6))).toNat ≠ o (7 + o 6) * 256 + o (8 + o 6)
    let unknownClass : Prop := ¬lengthError ∧ ¬checkError ∧ 12 < o 0
    (parseFrame octets = .lengthError ↔ lengthError) ∧
    (parseFrame octets = .checkError ↔ checkError) ∧
    (parseFrame octets = .unknownClass ↔ unknownClass) ∧
    ∃ t, exec (.frameReceiveError p octets) s = .next t ∧
      (lengthError →
        t.bus = { s.bus with lengthErrors := bump s.bus.lengthErrors } ∧
        OnlyChanges [.bus, .ports] s t) ∧
      (checkError →
        t.bus = { s.bus with checkErrors := bump s.bus.checkErrors } ∧
        OnlyChanges [.bus, .ports] s t) ∧
      (lengthError ∨ checkError →
        (t.ports.get p).queue = (s.ports.get p).queue ∧
        (t.ports.get p).faultRun = (s.ports.get p).faultRun ∧
        ((s.ports.get p).state = .down → (t.ports.get p).state = .down ∧
          (t.ports.get p).goodRun = 0)) ∧
      (unknownClass →
        t.bus = { s.bus with unknownClasses := bump s.bus.unknownClasses } ∧
        (t.ports.get p).framesReceived = (s.ports.get p).framesReceived ∧
        ((s.ports.get p).state = .down →
          ((s.ports.get p).goodRun < 3 → (t.ports.get p).state = .down ∧
            (t.ports.get p).goodRun = (s.ports.get p).goodRun + 1) ∧
          (3 ≤ (s.ports.get p).goodRun → (t.ports.get p).state = .up ∧
            (t.ports.get p).goodRun = 0 ∧ (t.ports.get p).faultRun = 0)) ∧
        OnlyChanges [.bus, .ports, .ind] s t) ∧
      (lengthError ∨ checkError ∨ unknownClass →
        t.ports.get (otherPort p) = s.ports.get (otherPort p))

/-- A frame of this node's own number, or with header or payload outside its class's conditions, reaches no
block: the first is dropped uncounted, the others count as malformed. A payload is malformed where its class's rule
says so of its length, its codes and its ranges (R30, R37, R43, R59, R66, R85, R86, R90, R97, R155, R174, R177); that
a payload of another length than the fixed layout of its class is malformed is the model's reading (DEDUCED, log
entry 15). A well-formed SERVICE or STATUS frame is taken without effect: it is counted as received and nothing else
changes (R85, R155, R156). -/
def Obligations.FramesStopAtHandler : Prop :=
  let outOfRange (f : RxFrame) : Prop := 15 < f.hop ∨ f.sender = 0 ∨ 4095 < f.sender ∨
    f.origin = 0 ∨ 4095 < f.origin
  let malformed (cls : FrameClass) (f : RxFrame) : Prop :=
    let n := f.payload.length
    let o (i : Nat) : Nat := (f.payload.getD i 0#8).toNat
    let w (i : Nat) : Nat := o i * 256 + o (i + 1)
    let minute (i : Nat) : Nat := o i * 65536 + w (i + 1)
    let noCabin : Prop := w 0 = 0 ∨ 9999 < w 0
    match cls with
    | .alarm => n ≠ 3 ∨ 3 < o 2
    | .zone => n ≠ 6 ∨ o 2 = 0 ∨ 15 < o 2 ∨ 31 < o 3 ∨ 31 < o 4 ∨ 3 < o 5
    | .reassign => n ≠ 6 ∨ o 2 = 0 ∨ 15 < o 2 ∨ 1 < o 3
    | .sweep => n ≠ 6 ∨ noCabin ∨ 4 < o 2 ∨ (368639 < minute 3 ∧ minute 3 ≠ 16777215)
    | .advert => o 0 = 0 ∨ 12 < o 0 ∨ n ≠ 1 + 8 * o 0
    | .beacon => n ≠ 8 ∨ 22118399 < w 0 * 65536 + w 2 ∨ 999 < w 4 ∨ 15 < o 6 ∨ 3 < o 7
    | .solicit => n ≠ 0
    | .service => n ≠ 4 ∨ noCabin ∨ 2 < o 2
    | .cabin => noCabin ∨ 1 < o 3 ∨ 1 < o 6 ∨ 32 < o 8 ∨ n ≠ 9 + o 8
    | .status => n < 2
    | .query => n ≠ 4 ∨ w 0 = 0 ∨ 4095 < w 0
    | .item =>
      let venue := o 19
      let title := o (20 + venue)
      let detail := o (21 + venue + title)
      w 0 = 0 ∨ 4 < o 9 ∨ 368639 < minute 3 ∨ 368639 < minute 6 ∨ title = 0 ∨ 32 < title ∨
        40 < detail ∨ 16 < venue ∨ n ≠ 22 + venue + title + detail
    | .withdraw => n ≠ 3 ∨ w 0 = 0
  (∀ (p : Port) (cls : FrameClass) (f : RxFrame),
    (headerInRange f = false ↔ outOfRange f) ∧ (classHandler p cls f = none ↔ malformed cls f)) ∧
  (∀ (p : Port) (cls : FrameClass) (f : RxFrame) (s : State),
    (s.ports.get p).inUse = true → f.payload.length ≤ 120 →
    (s.start.lifecycle ≠ .configFault → f.sender = s.cfg.nodeNumber →
      OnlyChanges [.ports, .ind] s (s.receiveFrame p cls f) ∧
      ((s.receiveFrame p cls f).ports.get p).framesReceived = (s.ports.get p).framesReceived) ∧
    (s.start.lifecycle = .configFault ∨ f.sender ≠ s.cfg.nodeNumber →
      outOfRange f ∨ malformed cls f →
      (s.receiveFrame p cls f).bus =
          { s.bus with malformedFrames := bump s.bus.malformedFrames } ∧
        OnlyChanges [.bus, .ports, .ind] s (s.receiveFrame p cls f) ∧
        ((s.receiveFrame p cls f).ports.get p).framesReceived = (s.ports.get p).framesReceived)) ∧
  ∀ (p : Port) (f : RxFrame) (s : State), s.hears p f →
    (¬malformed .service f →
      ∃ t, exec (.serviceFrame p f) s = .next t ∧ (s.ports.get p).countsFrame (t.ports.get p) ∧
        t.ports.get (otherPort p) = s.ports.get (otherPort p) ∧ OnlyChanges [.ports, .ind] s t) ∧
    (¬malformed .status f →
      ∃ t, exec (.statusFrame p f) s = .next t ∧ (s.ports.get p).countsFrame (t.ports.get p) ∧
        t.ports.get (otherPort p) = s.ports.get (otherPort p) ∧ OnlyChanges [.ports, .ind] s t)

/-- A frame laid out in octets is read back as itself: class, header and payload, whatever they are (R155,
R164). -/
def Obligations.FrameOctetsReadBack : Prop :=
  ∀ (cls : FrameClass) (f : RxFrame), f.hop < 256 → f.sender < 65536 → f.origin < 65536 →
    f.payload.length ≤ 120 →
    parseFrame (frameOctets cls f) = .good cls f ∧
      (frameOctets cls f).length = 9 + f.payload.length

/-- What the node sends of its records and of its advertisement entries reads back, at the node that hears it, as
what the sender holds; and of a payload that is well formed each field is read at the octets of its layout, high
octet first, an ITEM record with its end and its lead clamped, which is noted (R22, R30, R37, R43, R59, R66, R85, R86,
R90, R97, R165, R166, R177). -/
def Obligations.PayloadsReadBack : Prop :=
  (∀ (u : AlarmUnit) (e : Nat), u.epoch = some e → e < 65536 →
    u.alarmPayload.bind parseAlarm = some ⟨e, u.level⟩) ∧
  (∀ r : ZoneReport, r.number < 256 → r.sequence < 256 → 1 ≤ r.zone → r.zone ≤ 15 →
    r.deckLow ≤ 31 → r.deckHigh ≤ 31 → parseZone r.payload =
      some ⟨r.number, r.sequence, r.zone, r.deckLow, r.deckHigh, r.state⟩) ∧
  (∀ (r : Reassignment) (e : Nat), e < 65536 → 1 ≤ r.zone → r.zone ≤ 15 → r.dest < 256 →
    r.sequence < 256 → parseReassign (r.payload e) =
      some ⟨e, r.zone, r.kind, r.dest, r.sequence⟩) ∧
  (∀ (cabin : Nat) (x : SweepState) (m : Option Nat), 1 ≤ cabin → cabin ≤ 9999 →
    (∀ n, m = some n → n ≤ 368639) → parseSweep (sweepPayload cabin x m) = some ⟨cabin, x, m⟩) ∧
  (∀ (cabin request : Nat) (x : ServiceState), 1 ≤ cabin → cabin ≤ 9999 →
    wellFormedService (servicePayload cabin x request) = true) ∧
  (∀ s : State, s.time.sentStratum ≤ 15 → parseBeacon s.beaconFrame.payload =
    some ⟨s.shipMs / 1000, s.shipMs % 1000, s.time.sentStratum, s.time.state⟩) ∧
  (∀ entries : List AdvertEntry, 1 ≤ entries.length → entries.length ≤ 12 →
    (∀ a ∈ entries, a.dest < 256 ∧ a.kindCode < 256 ∧ a.cost < 65536 ∧ a.hop < 256 ∧
      a.nextNode < 65536) →
    parseAdvert (advertPayload entries) = some entries) ∧
  ∀ payload : List Byte,
    let o (i : Nat) : Nat := (payload.getD i 0#8).toNat
    let w (i : Nat) : Nat := o i * 256 + o (i + 1)
    let minute (i : Nat) : Nat := o i * 65536 + w (i + 1)
    let long (i : Nat) : Nat := w i * 65536 + w (i + 2)
    (∀ a, parseAlarm payload = some a → a.epoch = w 0 ∧ a.level.code = o 2) ∧
    (∀ z, parseZone payload = some z → z.number = o 0 ∧ z.sequence = o 1 ∧ z.zone = o 2 ∧
      z.deckLow = o 3 ∧ z.deckHigh = o 4 ∧ z.state.code = o 5) ∧
    (∀ r, parseReassign payload = some r → r.epoch = w 0 ∧ r.zone = o 2 ∧ r.kind.code = o 3 ∧
      r.dest = o 4 ∧ r.sequence = o 5) ∧
    (∀ x, parseSweep payload = some x → x.cabin = w 0 ∧ x.sweep.code = o 2 ∧
      x.minute = if minute 3 = 16777215 then none else some (minute 3)) ∧
    (∀ b, parseBeacon payload = some b → b.seconds = long 0 ∧ b.millis = w 4 ∧ b.stratum = o 6 ∧
      b.state.code = o 7) ∧
    (∀ l, parseAdvert payload = some l → l.length = o 0 ∧ ∀ i e, l[i]? = some e →
      let a := 1 + 8 * i
      e = ⟨o a, o (a + 1), w (a + 2), o (a + 4), w (a + 5), (o (a + 7)).testBit 0,
        (o (a + 7)).testBit 1⟩) ∧
    (∀ c, parseCabin payload = some c → c.cabin = w 0 ∧ c.version = o 2 ∧
      (c.occupancy = .occupied ↔ o 3 = 1) ∧ c.embarkDay = o 4 ∧ c.disembarkDay = o 5 ∧
      c.serviceDone = (if o 6 = 1 then some (o 7) else none) ∧ c.greeting = payload.drop 9) ∧
    (∀ k, parseWithdraw payload = some k → k = ⟨w 0, o 2⟩) ∧
    (∀ q, parseQuery payload = some q → q = ⟨w 0, o 2, o 3⟩) ∧
    (∀ i, parseItem payload = some i →
      let r := i.record
      let venue := o 19
      let title := o (20 + venue)
      let detail := o (21 + venue + title)
      let text (at' n : Nat) : List Byte := (payload.drop at').take n
      (r.id = w 0 ∧ r.version = o 2 ∧ r.start = minute 3 ∧
        r.last = max (minute 3) (min (minute 3 + 1440) (minute 6)) ∧
        [Category.show, .dining, .excursion, .activity, .notice][o 9]? = some r.category ∧
        r.venue = o 10 ∧ r.cancelled = (o 11).testBit 1 ∧
        r.highlight = if (o 11).testBit 0 then some (min 120 (o 12)) else none) ∧
      (∀ d < 32, r.deckMask.getLsbD d = (long 13).testBit d) ∧
      (∀ z < 16, r.zoneMask.getLsbD z = (w 17).testBit z) ∧
      r.venueLabel = text 20 venue ∧ r.title = text (21 + venue) title ∧
      r.detail = text (22 + venue + title) detail ∧
      (i.clamps = true ↔ minute 6 < minute 3 ∨ minute 3 + 1440 < minute 6 ∨
        ((o 11).testBit 0 = true ∧ 120 < o 12)))

/-- A STAIR node in OPERATING with both ports in use relays a flood frame of a hop limit above 0 that its owning
block has taken as a change: one copy is requested on the other port, hop limit one lower, this node as sender,
origin and payload as they came, and counted; any other flood frame leaves what its block made of it (R157). -/
def Obligations.FloodFramesRelayed : Prop :=
  ∀ (p : Port) (f : RxFrame) (s : State), s.hears p f → s.reportLaw → s.reassignLaw → s.programmeLaw →
    let heard := (s.noteGood p).countReceived p
    let floods : Prop := s.cfg.role = .stair ∧ s.ports.a.inUse = true ∧ s.ports.b.inUse = true ∧
      s.start.lifecycle = .operating ∧ 0 < f.hop
    let relays (c : Instr) (v : State) (cls : FrameClass) (key : QueueKey) (changed : Prop) : Prop :=
      v.bus = s.bus ∧
      ∃ t, exec c s = .next t ∧
        (floods → changed →
          t.bus = { s.bus with relayedCopies := bump s.bus.relayedCopies } ∧
          t.ports = (v.request (otherPort p) cls key
            (.fixed ⟨cls, f.hop - 1, s.cfg.nodeNumber, f.origin, f.payload⟩)).ports ∧
          OnlyChanges [.bus, .ports] v t) ∧
        (¬floods ∨ ¬changed → t = v)
    (∀ a, parseAlarm f.payload = some a →
      let v := (heard.takeAlarmFrame f.origin a).1.hearAlarm p a
      relays (.alarmFrame p f) v .alarm .whole
        (v.alarm.epoch ≠ s.alarm.epoch ∨ v.alarm.level ≠ s.alarm.level)) ∧
    (∀ z, parseZone f.payload = some z →
      let v := (heard.takeZoneFrame f.origin z).1.hearZone p f.origin z
      relays (.zoneFrame p f) v .zone (.zoneReport f.origin z.number)
        (v.alarm.reports ≠ s.alarm.reports)) ∧
    (∀ r, parseReassign f.payload = some r →
      let v := (heard.takeReassignFrame f.origin r).1.hearReassign p r
      relays (.reassignFrame p f) v .reassign (.place r.zone r.kind.code)
        (v.alarm.reassignments ≠ s.alarm.reassignments)) ∧
    (∀ i, parseItem f.payload = some i →
      let v := (heard.takeItemFrame i).1
      relays (.itemFrame p f) v .item (.itemId i.record.id) (v.prog.items ≠ s.prog.items)) ∧
    (∀ w, parseWithdraw f.payload = some w →
      let v := (heard.takeWithdrawFrame w).1
      relays (.withdrawFrame p f) v .withdraw (.itemId w.id)
        (v.prog.items ≠ s.prog.items ∨ v.prog.tombstones ≠ s.prog.tombstones))

/-! ### Alarm record, zone reports and reassignments (chapter 2) -/

/-- Every step keeps the zone report list, at most 32 reports in strictly ascending key order, and the
reassignment list, at most one record for each of the 30 places of the zones 1 to 15, each of the held epoch (R36,
R42). That the reassignment list stands in the order of its places is the model's choice (log entry 28). -/
def Obligations.AlarmListsKept : Prop :=
  ∀ s t : State, s.reportLaw → s.reassignLaw → step s = .next t →
    t.reportLaw ∧ t.reassignLaw ∧ t.alarm.reassignments.length ≤ 30

/-- A well-formed ALARM frame by the cases of R31: at a running node, with the level every block then has in use,
and in CONFIG_FAULT, where the record is kept as well and the change reaches the lamp and the FALLBACK page alone
(R30, R31, R34, R35). -/
def Obligations.AlarmFrameTaken : Prop :=
  (∀ (p : Port) (f : RxFrame) (a : AlarmPayload) (s : State), s.hears p f →
    parseAlarm f.payload = some a →
    ∃ t, exec (.alarmFrame p f) s = .next t ∧
      let levelInUse : Prop := t.page.level = a.level ∧ t.ind.level = a.level ∧
        t.trig.level = a.level ∧ t.panel.level = a.level ∧ t.ind.lamp = t.lampFor a.level
      (s.alarm.epoch = none ∨ (∃ e, s.alarm.epoch = some e ∧ newer 16 a.epoch e = true) →
        levelInUse ∧ t.alarm = { s.alarm with
          epoch := some a.epoch, level := a.level, origin := f.origin, changedAt := some s.clock,
          reassignments := [] }) ∧
      (s.alarm.epoch = some a.epoch → s.alarm.level.code < a.level.code →
        levelInUse ∧ t.alarm = { s.alarm with
          level := a.level, origin := f.origin, changedAt := some s.clock }) ∧
      (s.alarm.epoch = some a.epoch → a.level.code ≤ s.alarm.level.code → t.alarm = s.alarm ∧
        OnlyChanges [.start, .ports, .ind] s t) ∧
      (∀ e, s.alarm.epoch = some e → a.epoch ≠ e → newer 16 a.epoch e = false →
        t.alarm = { s.alarm with olderAlarmFrames := bump s.alarm.olderAlarmFrames } ∧
          OnlyChanges [.alarm, .ports, .ind] s t) ∧
      t.start.lifecycle = s.start.lifecycle ∧ t.start.config = s.start.config ∧
      OnlyChanges [.alarm, .start, .ports, .bus, .route, .cabin, .muster, .trig, .panel, .ind,
        .page] s t) ∧
  ∀ (p : Port) (f : RxFrame) (a : AlarmPayload) (s : State),
    s.start.lifecycle = .configFault → (s.ports.get p).inUse = true → f.payload.length ≤ 120 →
    headerInRange f = true → parseAlarm f.payload = some a →
    ∃ t, exec (.alarmFrame p f) s = .next t ∧
      let shows : Prop := t.page.level = a.level ∧ t.ind.level = a.level ∧
        t.ind.lamp = t.lampFor a.level ∧ t.page.selected = .fallback ∧ t.shown
      (s.alarm.epoch = none ∨ (∃ e, s.alarm.epoch = some e ∧ newer 16 a.epoch e = true) →
        shows ∧ t.alarm = { s.alarm with
          epoch := some a.epoch, level := a.level, origin := f.origin, changedAt := some s.clock,
          reassignments := [] }) ∧
      (s.alarm.epoch = some a.epoch → s.alarm.level.code < a.level.code →
        shows ∧ t.alarm = { s.alarm with
          level := a.level, origin := f.origin, changedAt := some s.clock }) ∧
      (s.alarm.epoch = some a.epoch → a.level.code ≤ s.alarm.level.code →
        OnlyChanges [.ports, .ind] s t) ∧
      (∀ e, s.alarm.epoch = some e → a.epoch ≠ e → newer 16 a.epoch e = false →
        t.alarm = { s.alarm with olderAlarmFrames := bump s.alarm.olderAlarmFrames } ∧
          OnlyChanges [.alarm, .ports, .ind] s t) ∧
      t.start.lifecycle = .configFault ∧ t.start.config = s.start.config ∧
      OnlyChanges [.alarm, .start, .ports, .panel, .ind, .page] s t

/-- The sweep events of an alarm change: an ONSET, for a new epoch at GENERAL or above and for a rise to it within
one epoch, makes every cabin node UNCHECKED with no service state, and an END, for a new epoch below GENERAL, IDLE;
the corridor tally follows; any other rise within one epoch marks no event (R33, R88, R93). -/
def Obligations.AlarmMovesSweep : Prop :=
  ∀ (p : Port) (f : RxFrame) (a : AlarmPayload) (s : State), s.hears p f →
    parseAlarm f.payload = some a →
    let fresh : Prop :=
      s.alarm.epoch = none ∨ ∃ e, s.alarm.epoch = some e ∧ newer 16 a.epoch e = true
    let rises : Prop := s.alarm.epoch = some a.epoch ∧ s.alarm.level.code < a.level.code
    let onset : Prop := a.level.emergency = true ∧
      (fresh ∨ (rises ∧ s.alarm.level.emergency = false))
    let ending : Prop := fresh ∧ a.level.emergency = false
    ∃ t, exec (.alarmFrame p f) s = .next t ∧
      (s.cfg.role = .cabin → onset →
        t.cabin = { s.cabin with
          service := .none, sweep := .unchecked, sweepMinute := s.sweepMinuteNow }) ∧
      (s.cfg.role = .cabin → ending → s.cabin.sweep ≠ .idle →
        t.cabin = { s.cabin with sweep := .idle, sweepMinute := s.sweepMinuteNow }) ∧
      (s.cfg.role = .cabin → ending → s.cabin.sweep = .idle → t.cabin = s.cabin) ∧
      (s.cfg.role ≠ .cabin → onset ∨ ending →
        t.cabin = { s.cabin with
          tally := s.cabin.tally.map (fun l => l.map (fun x =>
            { x with sweep := if a.level.emergency then .unchecked else .idle })) }) ∧
      (¬onset → ¬ending → t.cabin = s.cabin)

/-- A well-formed ZONE frame at a running node: stored as new, replacing an older version of its key, ignored,
or displacing a report of a full list by R39 (R36, R37, R38, R39). -/
def Obligations.ZoneFrameTaken : Prop :=
  ∀ (p : Port) (f : RxFrame) (z : ZonePayload) (s : State), s.hears p f →
    parseZone f.payload = some z → s.reportLaw →
    let new : ZoneReport := ⟨f.origin, z.number, z.sequence, z.zone, min z.deckLow z.deckHigh,
      max z.deckLow z.deckHigh, z.state, s.clock⟩
    let held (r : ZoneReport) : Prop :=
      r ∈ s.alarm.reports ∧ r.origin = f.origin ∧ r.number = z.number
    ∃ t, exec (.zoneFrame p f) s = .next t ∧ t.reportLaw ∧
      ((∀ r, ¬held r) → s.alarm.reports.length < 32 →
        ∀ r, r ∈ t.alarm.reports ↔ r = new ∨ r ∈ s.alarm.reports) ∧
      (∀ h, held h → newer 8 z.sequence h.sequence = true →
        ∀ r, r ∈ t.alarm.reports ↔ r = new ∨ (r ∈ s.alarm.reports ∧ r ≠ h)) ∧
      (∀ h, held h → newer 8 z.sequence h.sequence = false →
        t.alarm = s.alarm ∧ OnlyChanges [.start, .ports, .ind] s t) ∧
      ((∀ r, ¬held r) → s.alarm.reports.length = 32 →
        (∀ v ∈ s.alarm.reports,
          (v.state = .clear ∧ ∀ x ∈ s.alarm.reports, x.state = .clear → x.olderThan v = false) ∨
            ((∀ x ∈ s.alarm.reports, x.state ≠ .clear) ∧ v.state.code < z.state.code ∧
              ∀ x ∈ s.alarm.reports, x.milderThan v = false) →
          (∀ r, r ∈ t.alarm.reports ↔ r = new ∨ (r ∈ s.alarm.reports ∧ r ≠ v)) ∧
            t.alarm.evictedReports = bump s.alarm.evictedReports) ∧
        ((∀ x ∈ s.alarm.reports, x.state ≠ .clear ∧ z.state.code ≤ x.state.code) →
          t.alarm = { s.alarm with droppedReports := bump s.alarm.droppedReports })) ∧
      t.alarm.epoch = s.alarm.epoch ∧ t.alarm.level = s.alarm.level ∧
      t.alarm.reassignments = s.alarm.reassignments ∧
      OnlyChanges [.alarm, .start, .ports, .bus, .route, .muster, .trig, .page, .panel, .ind] s t

/-- A well-formed REASSIGN frame at a running node, by the four cases of R43 (R42, R43). -/
def Obligations.ReassignFrameTaken : Prop :=
  ∀ (p : Port) (f : RxFrame) (z : ReassignPayload) (s : State), s.hears p f →
    parseReassign f.payload = some z → s.reassignLaw →
    let new : Reassignment := ⟨z.zone, z.kind, z.dest, z.epoch, z.sequence, f.origin⟩
    let held (r : Reassignment) : Prop :=
      r ∈ s.alarm.reassignments ∧ r.zone = z.zone ∧ r.kind = z.kind
    ∃ t, exec (.reassignFrame p f) s = .next t ∧ t.reassignLaw ∧
      (s.alarm.epoch ≠ some z.epoch →
        t.alarm = { s.alarm with
          otherEpochReassignments := bump s.alarm.otherEpochReassignments }) ∧
      (s.alarm.epoch = some z.epoch → (∀ r, ¬held r) →
        ∀ r, r ∈ t.alarm.reassignments ↔ r = new ∨ r ∈ s.alarm.reassignments) ∧
      (∀ h, s.alarm.epoch = some z.epoch → held h → newer 8 z.sequence h.sequence = true →
        ∀ r, r ∈ t.alarm.reassignments ↔ r = new ∨ (r ∈ s.alarm.reassignments ∧ r ≠ h)) ∧
      (∀ h, s.alarm.epoch = some z.epoch → held h → newer 8 z.sequence h.sequence = false →
        t.alarm = s.alarm) ∧
      t.alarm.epoch = s.alarm.epoch ∧ t.alarm.level = s.alarm.level ∧
      t.alarm.reports = s.alarm.reports ∧
      OnlyChanges [.alarm, .start, .ports, .bus, .muster, .page, .panel, .ind] s t

/-- The effective zone state of a location: the highest severity among the held reports that cover it, and
CLEAR where none does (R41). -/
def Obligations.EffectiveZoneIsHighest : Prop :=
  ∀ (reports : List ZoneReport) (zone deck : Nat),
    let covers (r : ZoneReport) : Prop := r.zone = zone ∧ r.deckLow ≤ deck ∧ deck ≤ r.deckHigh
    (∀ r ∈ reports, covers r → r.state.code ≤ (effectiveZone reports zone deck).code) ∧
    ((∃ r ∈ reports, covers r ∧ r.state = effectiveZone reports zone deck) ∨
      ((∀ r ∈ reports, ¬covers r) ∧ effectiveZone reports zone deck = .clear))

/-! ### Route engine (chapter 1) -/

/-- Every step keeps the destination table: at most 48 entries in strictly ascending order of id, none before
the node runs, each with the values of its state; a REACHABLE entry holds the figures of the candidate through
its next hop, and no candidate is lower in cost by more than the hysteresis (R3, R13, R15). -/
def Obligations.RouteLawKept : Prop :=
  ∀ s t : State, s.routeLaw → step s = .next t → t.routeLaw

/-- The candidate through a configured link: unreachable in the four cases of R11 and beyond the two limits of
R12, and else of the cost, hop and flags of R12, whose parts keep their ranges. -/
def Obligations.CandidateThroughLink : Prop :=
  ∀ (s : State) (n : Nat) (l : NeighbourCfg) (c : Cell),
    let zone := effectiveZone s.alarm.reports l.zone l.deck
    let factor := match l.kind with
      | .level => 8
      | .stairUp => s.cfg.stairUpFactor
      | .stairDown => s.cfg.stairDownFactor
    let length := (l.distance * factor + 4) / 8
    let penalty := (if zone = .caution then s.cfg.cautionPenalty else 0) +
      (if l.boundary = true ∧ (s.alarm.level = .general ∨ s.alarm.level = .abandon) then
        s.cfg.boundaryPenalty else 0)
    let sum := c.cost + length + penalty
    let unreachable := c.state ≠ .live ∨ c.cost = 65535 ∨ c.nextNode = s.cfg.nodeNumber ∨
      zone = .smoke ∨ zone = .fire ∨ 65534 < sum ∨ 63 < c.hop + 1
    (unreachable → s.linkCandidate n l c = none) ∧
    (¬unreachable → s.linkCandidate n l c =
      some ⟨n, sum, c.hop + 1, c.viaStair || decide (l.kind ≠ .level), c.viaBoundary || l.boundary⟩) ∧
    (1 ≤ l.distance → l.distance ≤ 2000 → 8 ≤ factor → factor ≤ 32 → 1 ≤ length ∧ length ≤ 8000) ∧
    (s.cfg.cautionPenalty ≤ 5000 → s.cfg.boundaryPenalty ≤ 500 → penalty ≤ 5500)

/-- Re-evaluation of an entry by the rule for its state: ANCHOR and HOLD_DOWN stay; an UNREACHABLE entry takes
the best candidate; a REACHABLE entry keeps its next hop within the hysteresis, and when it is lost takes the
best candidate or gives up the route (R5, R14, R15, R16, R17). -/
def Obligations.ReevaluationByState : Prop :=
  ∀ (s : State) (e : RouteEntry),
    let reachable (c : RouteCandidate) : Prop := ∃ n < 6, s.candidateAt e.cells n = some c
    let best (c : RouteCandidate) : Prop := reachable c ∧ ∀ d, reachable d →
      c.cost < d.cost ∨ (c.cost = d.cost ∧ (c.hop < d.hop ∨ (c.hop = d.hop ∧ c.slot ≤ d.slot)))
    (e.state = .anchor ∨ e.state = .holdDown → s.reevaluated e = e) ∧
    (e.state = .unreachable →
      (∀ c, best c → s.reevaluated e = e.takeRoute c) ∧
      ((∀ c, ¬reachable c) → s.reevaluated e = e)) ∧
    (e.state = .reachable → s.currentCandidate e = none →
      (∀ c, best c → s.reevaluated e = e.takeRoute c) ∧
      ((∀ c, ¬reachable c) →
        (s.cfg.holdDown = 0 → s.reevaluated e = e.becomeUnreachable s.clock) ∧
        (s.cfg.holdDown ≠ 0 → s.reevaluated e = { e.dropRoute .holdDown with
          holdDownDeadline := some (s.clock + s.cfg.holdDown * 1000) }))) ∧
    (∀ n k, e.state = .reachable → e.nextHop = .slot n → n < 6 → s.candidateAt e.cells n = some k →
      ((∀ c, reachable c → k.cost ≤ c.cost + s.cfg.hysteresis) →
        s.reevaluated e = e.takeRoute k) ∧
      (∀ c, best c → c.cost + s.cfg.hysteresis < k.cost → s.reevaluated e = e.takeRoute c))

/-- An ADVERT frame of one entry at a running node: from no neighbour it is counted, an entry out of range is
skipped and counted; for a held destination the cell of every matching slot is refreshed, the entry re-evaluated
its marks set by the cases of R23 and what moved told to the other blocks; a new destination is created where there
is room, or where an entry gives way in the order of R20, and else dropped and counted, unless it comes unreachable or
poisoned (R7, R8, R9, R20, R23, R27, R52, R110). -/
def Obligations.AdvertFrameTaken : Prop :=
  ∀ (p : Port) (f : RxFrame) (a : AdvertEntry) (s : State), s.hears p f →
    parseAdvert f.payload = some [a] → s.routeLaw →
    let slot (n : Nat) : Prop :=
      n < 6 ∧ ∃ l, s.cfg.neighbours[n]? = some l ∧ l.node = f.sender ∧ l.port = p
    let skipped : Prop :=
      a.dest = 0 ∨ DestKind.ofCode a.kindCode = none ∨ 63 < a.hop ∨ 4095 < a.nextNode
    let live : Cell := ⟨.live, a.cost, a.hop, a.nextNode, a.viaStair, a.viaBoundary, s.clock⟩
    let marked (x y : RouteEntry) : Prop :=
      (x.state = .reachable ∧ (y.state = .holdDown ∨ y.state = .unreachable)) ∨
      ((x.state = .holdDown ∨ x.state = .unreachable) ∧ y.state = .reachable) ∨
      (x.state = .reachable ∧ y.state = .reachable ∧
        (x.nextHop ≠ y.nextHop ∨ (x.cost ≠ y.cost ∧
          (x.cost + s.cfg.triggeredThreshold ≤ y.cost ∨
            y.cost + s.cfg.triggeredThreshold ≤ x.cost))))
    let idle (x : RouteEntry) : Prop :=
      x ∈ s.route.entries ∧ x.pinned = false ∧ x.state = .unreachable
    let venue (x : RouteEntry) : Prop :=
      x ∈ s.route.entries ∧ x.pinned = false ∧ x.state = .reachable ∧ x.kind = .venue ∧
        ∀ i ∈ s.prog.items, i.venue ≠ x.dest
    let since (x : RouteEntry) : Nat := x.unreachableSince.getD 0
    let givesWay (v : RouteEntry) : Prop :=
      (idle v ∧ ∀ x, idle x → since v < since x ∨ (since v = since x ∧ v.dest ≤ x.dest)) ∨
      ((∀ x, ¬idle x) ∧ venue v ∧
        ∀ x, venue x → x.cost < v.cost ∨ (x.cost = v.cost ∧ x.dest ≤ v.dest))
    let created (t : State) : Prop :=
      ∃ e' ∈ t.route.entries, ∃ kind, DestKind.ofCode a.kindCode = some kind ∧
        (∀ n, (slot n → e'.cells[n]? = some live) ∧
          (¬slot n → n < 6 → e'.cells[n]? = some Cell.empty)) ∧
        e' = { s.reevaluated
            { RouteEntry.fresh a.dest kind false s.clock with cells := e'.cells } with
          marks := e'.marks } ∧
        (e'.state = .reachable → ∀ q, (s.ports.get q).inUse = true → e'.marks.get q = .set) ∧
        (e'.state ≠ .reachable → e'.marks = ⟨.clear, .clear⟩)
    ∃ t, exec (.advertFrame p f) s = .next t ∧ t.routeLaw ∧
      ((∀ n, ¬slot n) → OnlyChanges [.route, .ports, .ind] s t ∧
        t.route = { s.route with nonNeighbourAdverts := bump s.route.nonNeighbourAdverts }) ∧
      ((∃ n, slot n) → skipped → OnlyChanges [.route, .ports, .ind] s t ∧
        t.route = { s.route with skippedEntries := bump s.route.skippedEntries }) ∧
      ((∃ n, slot n) → ¬skipped → ∀ e ∈ s.route.entries, e.dest = a.dest →
        ∃ e' ∈ t.route.entries,
          (∀ n, (slot n → e'.cells[n]? = (e.cells[n]?).map (fun _ => live)) ∧
            (¬slot n → e'.cells[n]? = e.cells[n]?)) ∧
          e' = { s.reevaluated { e with cells := e'.cells } with marks := e'.marks } ∧
          (marked e e' → ∀ q, (s.ports.get q).inUse = true → e'.marks.get q = .set) ∧
          (¬marked e e' → e'.marks = e.marks) ∧
          s.toldOfRoute t a.dest (e'.state ≠ e.state ∨ e'.nextHop ≠ e.nextHop)
            (figuresOf s.cfg e' ≠ figuresOf s.cfg e) ∧
          ∀ x, x.dest ≠ a.dest → (x ∈ t.route.entries ↔ x ∈ s.route.entries)) ∧
      ((∃ n, slot n) → ¬skipped → (∀ e ∈ s.route.entries, e.dest ≠ a.dest) →
        (a.cost = 65535 ∨ a.nextNode = s.cfg.nodeNumber →
          t.route = s.route ∧ OnlyChanges [.ports, .ind] s t) ∧
        (a.cost < 65535 → a.nextNode ≠ s.cfg.nodeNumber →
          (s.route.entries.length < 48 → created t ∧
            ∀ x, x.dest ≠ a.dest → (x ∈ t.route.entries ↔ x ∈ s.route.entries)) ∧
          (s.route.entries.length = 48 →
            (∀ v, givesWay v → created t ∧
              (∀ x, x.dest ≠ a.dest →
                (x ∈ t.route.entries ↔ x ∈ s.route.entries ∧ x ≠ v)) ∧
              t.route.evictedEntries = bump s.route.evictedEntries) ∧
            ((∀ x, ¬idle x ∧ ¬venue x) →
              t.route = { s.route with
                droppedDestinations := bump s.route.droppedDestinations } ∧
              OnlyChanges [.route, .ports, .ind] s t)))) ∧
      OnlyChanges [.route, .ports, .muster, .trig, .page, .panel, .ind] s t

/-- An ADVERT frame of several entries from a neighbour does to the route engine what its first entry and then the
rest do in frames of their own from the same sender: the entries are taken one at a time in the order of the
frame, each re-evaluated before the next (R8). -/
def Obligations.AdvertEntriesInTurn : Prop :=
  ∀ (p : Port) (f first others : RxFrame) (a : AdvertEntry) (more : List AdvertEntry) (s : State),
    s.hears p f → s.hears p first → s.hears p others →
    first.sender = f.sender → others.sender = f.sender →
    parseAdvert f.payload = some (a :: more) → parseAdvert first.payload = some [a] →
    parseAdvert others.payload = some more →
    (∃ l ∈ s.cfg.neighbours.take 6, l.node = f.sender ∧ l.port = p) →
    ∃ t u v, exec (.advertFrame p f) s = .next t ∧ exec (.advertFrame p first) s = .next u ∧
      exec (.advertFrame p others) u = .next v ∧ t.route = v.route

/-- The deadlines of the destination table: a LIVE cell unrefreshed for three advert intervals becomes EXPIRED
and its entry is re-evaluated; an entry whose hold-down ends takes the best candidate or becomes UNREACHABLE as
of the deadline; an unpinned entry UNREACHABLE for six advert intervals is removed. A changed state or next hop, or a
removal, is told to the muster selector, which reviews its target, and to the trigger unit, and changed figures to
the page selector (R10, R17, R19, R27, R52, R110). -/
def Obligations.RouteDeadlinesTaken : Prop :=
  ∀ (e : RouteEntry) (s : State), s.running = true → s.routeLaw → e ∈ s.route.entries →
    (∀ (n : Fin 6) (c : Cell), e.cells[n.val]? = some c → c.state = .live →
      c.refreshed + 3 * (s.cfg.advertInterval * 1000) ≤ s.clock →
      ∃ t, exec (.cellExpiry e.dest n) s = .next t ∧ t.routeLaw ∧
        (∃ e' ∈ t.route.entries, e'.cells = e.cells.set n.val { c with state := .expired } ∧
          e' = { s.reevaluated { e with cells := e'.cells } with marks := e'.marks } ∧
          s.toldOfRoute t e.dest (e'.state ≠ e.state ∨ e'.nextHop ≠ e.nextHop)
            (figuresOf s.cfg e' ≠ figuresOf s.cfg e)) ∧
        (∀ x, x.dest ≠ e.dest → (x ∈ t.route.entries ↔ x ∈ s.route.entries)) ∧
        OnlyChanges [.route, .ports, .muster, .trig, .page, .panel] s t) ∧
    (∀ d, e.state = .holdDown → e.holdDownDeadline = some d → d ≤ s.clock →
      ∃ t, exec (.holdDownDeadline e.dest) s = .next t ∧ t.routeLaw ∧
        (∃ e' ∈ t.route.entries,
          (∀ c, s.bestRoute e.cells (fun _ => true) = some c →
            e' = { e.takeRoute c with marks := e'.marks } ∧
              ∀ q, (s.ports.get q).inUse = true → e'.marks.get q = .set) ∧
          (s.bestRoute e.cells (fun _ => true) = none → e' = e.becomeUnreachable d) ∧
          s.toldOfRoute t e.dest (e'.state ≠ e.state ∨ e'.nextHop ≠ e.nextHop)
            (figuresOf s.cfg e' ≠ figuresOf s.cfg e)) ∧
        (∀ x, x.dest ≠ e.dest → (x ∈ t.route.entries ↔ x ∈ s.route.entries)) ∧
        OnlyChanges [.route, .ports, .muster, .trig, .page, .panel] s t) ∧
    (∀ d, e.pinned = false → e.state = .unreachable → e.unreachableSince = some d →
      d + 6 * (s.cfg.advertInterval * 1000) ≤ s.clock →
      ∃ t, exec (.flush e.dest) s = .next t ∧ t.routeLaw ∧
        (∀ x, x ∈ t.route.entries ↔ x ∈ s.route.entries ∧ x ≠ e) ∧
        t.route.flushedEntries = bump s.route.flushedEntries ∧ s.toldOfRoute t e.dest True True ∧
        OnlyChanges [.route, .muster, .trig, .page, .panel] s t)

/-- The periodic schedules of a node in OPERATING: at the FULL request every port in use is asked for a FULL
token, at the beacon deadline of a SYNCED node of stratum 14 or less for a BEACON, and the next deadline is one
interval later; at a gap expiry a TRIGGERED token is requested where some entry holds the port's mark set
(R24, R25, R106). -/
def Obligations.PeriodicSchedulesRun : Prop :=
  ∀ (s : State) (d : Nat), s.start.lifecycle = .operating → d ≤ s.clock →
    (s.route.nextFull = some d →
      ∃ t, exec .periodicFullRequest s = .next t ∧
        t.route = { s.route with nextFull := some (d + s.cfg.advertInterval * 1000) } ∧
        (∀ p, (s.ports.get p).inUse = true →
          t.ports.get p = (s.request p .advert .token (.token (.full 1))).ports.get p) ∧
        (∀ p, (s.ports.get p).inUse = false → t.ports.get p = s.ports.get p) ∧
        OnlyChanges [.route, .ports] s t) ∧
    (s.time.beaconDeadline = some d →
      ∃ t, exec .beaconDeadline s = .next t ∧
        t.time = { s.time with beaconDeadline := some (d + s.cfg.beaconInterval * 1000) } ∧
        (∀ n, s.time.state = .synced → s.time.ownStratum = some n → n ≤ 14 →
          (∀ p, (s.ports.get p).inUse = true →
            t.ports.get p = (s.request p .beacon .whole .beacon).ports.get p) ∧
          (∀ p, (s.ports.get p).inUse = false → t.ports.get p = s.ports.get p)) ∧
        (s.time.state ≠ .synced ∨ (∀ n, s.time.ownStratum = some n → 14 < n) →
          t.ports = s.ports) ∧
        OnlyChanges [.time, .ports] s t) ∧
    (∀ p, s.route.gapExpiry.get p = some d →
      ∃ t, exec (.gapExpiry p) s = .next t ∧ t.route.entries = s.route.entries ∧
        t.route.gapExpiry.get p = none ∧
        t.route.gapExpiry.get (otherPort p) = s.route.gapExpiry.get (otherPort p) ∧
        ((∃ e ∈ s.route.entries, e.marks.get p = .set) →
          t.route.lastRequest.get p = some s.clock ∧
          t.ports.get p = (s.request p .advert .token (.token .triggered)).ports.get p) ∧
        ((∀ e ∈ s.route.entries, e.marks.get p ≠ .set) →
          t.route.lastRequest.get p = s.route.lastRequest.get p ∧ t.ports = s.ports) ∧
        t.route.lastRequest.get (otherPort p) = s.route.lastRequest.get (otherPort p) ∧
        t.ports.get (otherPort p) = s.ports.get (otherPort p) ∧
        OnlyChanges [.route, .ports] s t)

/-! ### Levels, muster target and page (chapters 3, 7 and 8) -/

/-- Every step keeps one alarm level in use in every block of a running node, the kind of muster target that
level calls for, every normal-only trigger set out of ENABLED at GENERAL and above, and the arbiter's page
selected (R47, R111, R121). -/
def Obligations.LevelLawsKept : Prop :=
  ∀ s t : State, s.musterLaw → s.triggerLaw → s.pageLaw → step s = .next t →
    t.musterLaw ∧ t.triggerLaw ∧ t.pageLaw

/-- Rank, eligibility and choice of a muster candidate: the best of the ranks R48 names a destination at, HELD
where it names none; a route and a location free of smoke and fire; and of the eligible candidates a set of ranks
admits the one of lowest rank, among rank 3 of lowest cost, an ANCHOR counting as 0, then of lowest id (R48, R49,
R50). -/
def Obligations.BestEligibleCandidate : Prop :=
  ∀ (s : State) (k : PointKind), s.reassignLaw → s.routeLaw →
    let routed (e : RouteEntry) : Prop := e.state = .reachable ∨ e.state = .anchor
    let named (r : MusterRank) (d : Nat) : Prop := match r, k with
      | .r0, _ => d ≠ 0 ∧
          ∃ x ∈ s.alarm.reassignments, x.zone = s.cfg.zone ∧ x.kind = k ∧ x.dest = d
      | .r1, .assembly => d ≠ 0 ∧ s.cfg.assemblyPrimary = d
      | .r1, .embark => d ≠ 0 ∧ s.cfg.embarkPrimary = d
      | .r2, .assembly => d ≠ 0 ∧ s.cfg.assemblyAlternate = d
      | .r2, .embark => d ≠ 0 ∧ s.cfg.embarkAlternate = d
      | .r3, .assembly => ∃ e ∈ s.route.entries, e.dest = d ∧ e.kind = .assembly ∧ routed e
      | .r3, .embark => ∃ e ∈ s.route.entries, e.dest = d ∧ e.kind = .embark ∧ routed e
      | .held, _ => False
    let ranked (r : MusterRank) (d : Nat) : Prop :=
      named r d ∧ ∀ q : MusterRank, q.code < r.code → ¬named q d
    let eligible (d : Nat) : Prop :=
      (∃ e ∈ s.route.entries, e.dest = d ∧ routed e) ∧
        ∀ l, s.cfg.labels.find? (fun l => l.dest == d) = some l →
          effectiveZone s.alarm.reports l.zone l.deck ≠ .smoke ∧
            effectiveZone s.alarm.reports l.zone l.deck ≠ .fire
    let cost (e : RouteEntry) : Nat := if e.state = .anchor then 0 else e.cost
    (∀ d, ((∀ r, ¬named r d) ↔ s.rankOf k d = .held) ∧
      ∀ r, ranked r d → s.rankOf k d = r) ∧
    (∀ d, eligible d ↔ s.eligible d = true) ∧
    (∀ admits : MusterRank → Bool,
      let pool (r : MusterRank) (d : Nat) : Prop :=
        ranked r d ∧ eligible d ∧ admits r = true
      ((∀ r d, ¬pool r d) → s.bestCandidate k (fun c => admits c.rank) = none) ∧
      (∀ r d, pool r d →
        (∀ q x, pool q x → r.code < q.code ∨ (r = q ∧ (r = .r3 →
          ∀ e ∈ s.route.entries, ∀ e' ∈ s.route.entries, e.dest = d → e'.dest = x →
            cost e < cost e' ∨ (cost e = cost e' ∧ d ≤ x)))) →
        ∃ c, s.bestCandidate k (fun c => admits c.rank) = some c ∧ c.dest = d ∧ c.rank = r))

/-- The muster record: an alarm change at GENERAL or above makes a fresh selection and one below it clears the
record; a review takes a better target for NONE at once, switches on loss, lets an eligible order over, and else
keeps, replaces, turns to or drops the return-pending candidate; a reassignment for the own zone and current kind
and every change of the zone reports are reviewed; and the return deadline turns the target to the pending
candidate, counted, a changed target being shown (R47, R51, R52, R53, R54, R55, R56). -/
def Obligations.MusterFollows : Prop :=
  (∀ (s : State) (k : PointKind), s.muster.kind = some k →
    let m := s.muster
    let all := s.bestCandidate k (fun _ => true)
    let ordered := s.bestCandidate k (fun c => decide (c.rank = .r0))
    (m.dest = none → s.review = { m with
      dest := all.map (fun c => c.dest), rank := all.map (fun c => c.rank) }) ∧
    (∀ d, m.dest = some d → s.eligible d = false → s.review = { m with
      dest := all.map (fun c => c.dest), rank := all.map (fun c => c.rank)
      candidate := none, candidateRank := none, returnDeadline := none
      switchesOnLoss := bump m.switchesOnLoss }) ∧
    (∀ d, m.dest = some d → s.eligible d = true →
      (∀ c, ordered = some c → c.dest ≠ d → s.review = { m with
        dest := some c.dest, rank := some .r0
        candidate := none, candidateRank := none, returnDeadline := none }) ∧
      ((∀ c, ordered = some c → c.dest = d) →
        let rank := s.rankOf k d
        let better := s.bestCandidate k (fun c => decide (c.rank.code < rank.code))
        (better = none → s.review = { m with
          rank := some rank, candidate := none, candidateRank := none, returnDeadline := none }) ∧
        (∀ c, better = some c →
          (m.candidate = some c.dest → s.review = { m with
            rank := some rank, candidateRank := some c.rank }) ∧
          (m.candidate ≠ some c.dest →
            (s.cfg.returnDelay ≠ 0 → s.review = { m with
              rank := some rank, candidate := some c.dest, candidateRank := some c.rank
              returnDeadline := some (s.clock + s.cfg.returnDelay * 1000) }) ∧
            (s.cfg.returnDelay = 0 → s.review = { m with
              dest := some c.dest, rank := some c.rank
              candidate := none, candidateRank := none, returnDeadline := none
              returns := bump m.returns })))))) ∧
  (∀ (p : Port) (f : RxFrame) (a : AlarmPayload) (s : State), s.hears p f →
    parseAlarm f.payload = some a →
    (s.alarm.epoch = none ∨ (∃ e, s.alarm.epoch = some e ∧ newer 16 a.epoch e = true) ∨
      (s.alarm.epoch = some a.epoch ∧ s.alarm.level.code < a.level.code)) →
    ∃ t, exec (.alarmFrame p f) s = .next t ∧
      t.muster.candidate = none ∧ t.muster.candidateRank = none ∧
      t.muster.returnDeadline = none ∧ t.muster.kind = musterKindFor a.level ∧
      (a.level.emergency = false → t.muster.dest = none ∧ t.muster.rank = none) ∧
      (∀ k, musterKindFor a.level = some k →
        t.muster.dest = (t.bestCandidate k (fun _ => true)).map (fun c => c.dest) ∧
        t.muster.rank = (t.bestCandidate k (fun _ => true)).map (fun c => c.rank))) ∧
  (∀ (p : Port) (f : RxFrame) (r : ReassignPayload) (s : State), s.hears p f →
    parseReassign f.payload = some r →
    ∃ t, exec (.reassignFrame p f) s = .next t ∧
      (t.alarm.reassignments ≠ s.alarm.reassignments → r.zone = s.cfg.zone →
        s.muster.kind = some r.kind → t.muster = { t with muster := s.muster }.review) ∧
      (t.alarm.reassignments = s.alarm.reassignments ∨ r.zone ≠ s.cfg.zone ∨
        s.muster.kind ≠ some r.kind → s.reassignLaw → t.muster = s.muster)) ∧
  (∀ (p : Port) (f : RxFrame) (z : ZonePayload) (s : State), s.hears p f →
    parseZone f.payload = some z → s.reportLaw →
    ∃ t, exec (.zoneFrame p f) s = .next t ∧
      let review (m : MusterSelector) : MusterSelector := { t with muster := m }.review
      (t.alarm.reports ≠ s.alarm.reports →
        t.muster = review s.muster ∨ t.muster = review (review s.muster)) ∧
      (t.alarm.reports = s.alarm.reports → t.muster = s.muster)) ∧
  (∀ (s : State) (d : Nat), s.running = true → s.muster.returnDeadline = some d → d ≤ s.clock →
    ∃ t, exec .returnDeadline s = .next t ∧
      t.muster = { s.muster with
        dest := s.muster.candidate
        rank := s.muster.candidateRank
        candidate := none
        candidateRank := none
        returnDeadline := none
        returns := bump s.muster.returns } ∧
      (s.muster.dest ≠ s.muster.candidate → t.shown) ∧
      (s.muster.dest = s.muster.candidate → OnlyChanges [.muster] s t) ∧
      OnlyChanges [.muster, .page, .panel] s t)

/-! ### Programme store (chapter 4) -/

/-- Every step keeps the bounds and orders of item list, tombstone queue and spotlight list, no held item the
same as or older than its tombstone, and every spotlight id held (R61, R65, R72). -/
def Obligations.ProgrammeLawKept : Prop :=
  ∀ s t : State, s.programmeLaw → step s = .next t → t.programmeLaw

/-- A well-formed ITEM frame at a running node, by the five cases of R62 with R63 for a full list (R60, R62,
R63). -/
def Obligations.ItemFrameTaken : Prop :=
  ∀ (p : Port) (f : RxFrame) (i : ItemPayload) (s : State), s.hears p f →
    parseItem f.payload = some i → s.programmeLaw →
    let r := i.record
    let pool (x : Item) : Prop := x = r ∨ x ∈ s.prog.items
    let outside (x : Item) : Prop := inAudience s.cfg x = false
    ∃ t, exec (.itemFrame p f) s = .next t ∧ t.programmeLaw ∧
      t.prog.tombstones = s.prog.tombstones ∧
      (i.clamps = true → t.prog.clampedItems = bump s.prog.clampedItems) ∧
      ((∃ k ∈ s.prog.tombstones, k.id = r.id ∧ newer 8 r.version k.version = false) →
        t.prog.items = s.prog.items ∧ t.prog.tombstoneHits = bump s.prog.tombstoneHits) ∧
      ((∀ k ∈ s.prog.tombstones, k.id = r.id → newer 8 r.version k.version = true) →
        t.prog.tombstoneHits = s.prog.tombstoneHits ∧
        (∀ h ∈ s.prog.items, h.id = r.id → newer 8 r.version h.version = true →
          ∀ x, x ∈ t.prog.items ↔ x = r ∨ (x ∈ s.prog.items ∧ x ≠ h)) ∧
        (∀ h ∈ s.prog.items, h.id = r.id → newer 8 r.version h.version = false →
          t.prog.items = s.prog.items) ∧
        ((∀ h ∈ s.prog.items, h.id ≠ r.id) → s.prog.items.length < 128 →
          ∀ x, x ∈ t.prog.items ↔ x = r ∨ x ∈ s.prog.items) ∧
        ((∀ h ∈ s.prog.items, h.id ≠ r.id) → s.prog.items.length = 128 →
          ∀ v, pool v →
            (outside v ∧ ∀ x, pool x → outside x → v.before x = false) ∨
              ((∀ x, pool x → ¬outside x) ∧ ∀ x, pool x → v.before x = false) →
            (v = r → t.prog.items = s.prog.items ∧
              t.prog.droppedItems = bump s.prog.droppedItems) ∧
            (v ≠ r → (∀ x, x ∈ t.prog.items ↔ x = r ∨ (x ∈ s.prog.items ∧ x ≠ v)) ∧
              t.prog.evictedItems = bump s.prog.evictedItems))) ∧
      OnlyChanges [.prog, .ports, .bus, .page, .panel, .ind] s t

/-- A well-formed WITHDRAW frame at a running node: the held item goes unless its version is newer, and the
tombstone is appended, replaced or left, the head giving way in a full queue (R64, R65, R66). -/
def Obligations.WithdrawFrameTaken : Prop :=
  ∀ (p : Port) (f : RxFrame) (w : Tombstone) (s : State), s.hears p f →
    parseWithdraw f.payload = some w → s.programmeLaw →
    ∃ t, exec (.withdrawFrame p f) s = .next t ∧ t.programmeLaw ∧
      (∀ h ∈ s.prog.items, h.id = w.id → newer 8 h.version w.version = false →
        (∀ x, x ∈ t.prog.items ↔ x ∈ s.prog.items ∧ x ≠ h) ∧
        t.prog.withdrawnItems = bump s.prog.withdrawnItems ∧ w.id ∉ t.prog.spotlight ∧ t.shown) ∧
      ((∀ h ∈ s.prog.items, h.id = w.id → newer 8 h.version w.version = true) →
        t.prog.items = s.prog.items ∧ t.prog.withdrawnItems = s.prog.withdrawnItems ∧
        t.prog.spotlight = s.prog.spotlight ∧ OnlyChanges [.prog, .ports, .bus, .ind] s t) ∧
      ((∀ k ∈ s.prog.tombstones, k.id ≠ w.id) → s.prog.tombstones.length < 16 →
        t.prog.tombstones = s.prog.tombstones ++ [w]) ∧
      ((∀ k ∈ s.prog.tombstones, k.id ≠ w.id) → s.prog.tombstones.length = 16 →
        t.prog.tombstones = s.prog.tombstones.tail ++ [w] ∧
        t.prog.evictedTombstones = bump s.prog.evictedTombstones) ∧
      (∀ k ∈ s.prog.tombstones, k.id = w.id →
        (k.version ≠ w.version → newer 8 k.version w.version = false →
          t.prog.tombstones = s.prog.tombstones.filter (fun x => decide (x ≠ k)) ++ [w]) ∧
        (k.version = w.version ∨ newer 8 k.version w.version = true →
          t.prog.tombstones = s.prog.tombstones)) ∧
      OnlyChanges [.prog, .ports, .bus, .page, .panel, .ind] s t

/-! ### Cabin unit (chapter 5) -/

/-- An input line at a running node: leaving the stable level sets the debounce deadline, coming back before it
drops the deadline and counts a bounce, and the deadline moves the stable level; a transition that is not a
counted edge does nothing else (R80, R81). That a command for the level a line already stands at has no
effect is the model's choice (log entry 7). -/
def Obligations.LinesDebounced : Prop :=
  ∀ (n : Fin 8) (s : State) (l : LineRecord), s.running = true →
    s.cabin.lines[n.val]? = some l →
    let high := s.pins.lines.getD n.val true
    exec (.inputLineTransition n high) s = .next s ∧
    (∃ t, exec (.inputLineTransition n (!high)) s = .next t ∧
      t.pins = { s.pins with lines := s.pins.lines.set n.val (!high) } ∧
      (l.stable ≠ some (!high) → l.deadline = none →
        t.cabin = { s.cabin with
          lines := s.cabin.lines.set n.val
            { l with deadline := some (s.clock + l.debounce) } }) ∧
      (l.stable = some (!high) → l.deadline ≠ none →
        t.cabin = { s.cabin with
          lines := s.cabin.lines.set n.val { l with deadline := none }
          rejectedBounces := bump s.cabin.rejectedBounces }) ∧
      (l.stable ≠ some (!high) → l.deadline ≠ none → t.cabin = s.cabin) ∧
      (l.stable = some (!high) → l.deadline = none → t.cabin = s.cabin) ∧
      OnlyChanges [.pins, .cabin] s t) ∧
    (∀ d, l.deadline = some d → d ≤ s.clock → l.stable ≠ some high →
      (match l.function, l.edge with
        | .entryContact, .fall => high = true
        | .entryContact, _ => high = false
        | _, .rise => high = false
        | _, .fall => high = true
        | _, .both => False) →
      ∃ t, exec (.debounceDeadline n) s = .next t ∧
        t.cabin = { s.cabin with
          lines := s.cabin.lines.set n.val { l with stable := some high, deadline := none } } ∧
        OnlyChanges [.cabin] s t)

/-- A counted edge of an input line, by the function of the line and the role of the node: the service buttons
move the service state, the crew lines and the opening of the entry contact the sweep state, each with its
report on port A and on the page, and PRESENCE and TRIGGER_ONLY lines reach the trigger unit, where a set that
waits for the line is activated (R82, R83, R84, R85, R88, R89, R90, R110, R112, R113, R116, R126). -/
def Obligations.CountedEdgesTaken : Prop :=
  ∀ (n : Fin 8) (s : State) (l : LineRecord) (d : Nat), s.running = true →
    s.cabin.lines[n.val]? = some l → l.deadline = some d → d ≤ s.clock →
    l.stable ≠ some (s.pins.lines.getD n.val true) →
    l.counts (s.pins.lines.getD n.val true) = true →
    let lines := s.cabin.lines.set n.val
      { l with stable := some (s.pins.lines.getD n.val true), deadline := none }
    let afterPrivacy : ServiceState := match s.cabin.service with
      | .none => .privacy | .privacy => .none | .makeup => .privacy
    let afterMakeup : ServiceState := match s.cabin.service with
      | .none => .makeup | .privacy => .makeup | .makeup => .none
    let raised := (s.cabin.request + 1) % 256
    let serves (t : State) (after : ServiceState) : Prop :=
      let request := if after = .makeup then raised else s.cabin.request
      t.cabin = { s.cabin with lines := lines, service := after, request := request } ∧
      t.ports.get .a = (s.request .a .service (.cabin s.cfg.cabinNumber)
        (.fixed (s.ownFrame .service
          (octets2 s.cfg.cabinNumber ++ octets1 after.code ++ octets1 request)))).ports.get .a ∧
      t.shown
    let sweeps (t : State) (after : SweepState) : Prop :=
      let minute := if s.time.state = .unset then none else some s.programmeMinute
      t.cabin = { s.cabin with lines := lines, sweep := after, sweepMinute := minute } ∧
      t.ports.get .a = (s.request .a .sweep (.cabin s.cfg.cabinNumber)
        (.fixed (s.ownFrame .sweep (octets2 s.cfg.cabinNumber ++ octets1 after.code ++
          octets3 (minute.getD 16777215))))).ports.get .a ∧
      t.shown
    ∃ t, exec (.debounceDeadline n) s = .next t ∧ t.cabin.lines = lines ∧
      (l.function = .none → t.cabin = { s.cabin with lines := lines } ∧ OnlyChanges [.cabin] s t) ∧
      (s.cfg.role ≠ .cabin → l.function ≠ .presence → l.function ≠ .triggerOnly →
        t.cabin = { s.cabin with lines := lines } ∧ OnlyChanges [.cabin] s t) ∧
      (s.cfg.role = .cabin → l.function = .privacyButton ∨ l.function = .makeupButton →
        (s.alarm.level = .general ∨ s.alarm.level = .abandon →
          t.cabin = { s.cabin with
            lines := lines, ignoredButtonEdges := bump s.cabin.ignoredButtonEdges } ∧
          OnlyChanges [.cabin] s t) ∧
        (s.alarm.level = .normal ∨ s.alarm.level = .alert →
          (l.function = .privacyButton → serves t afterPrivacy) ∧
          (l.function = .makeupButton → serves t afterMakeup))) ∧
      (s.cfg.role = .cabin → l.function = .crewClear →
        (s.cabin.sweep = .unchecked ∨ s.cabin.sweep = .assist ∨ s.cabin.sweep = .reopened →
          sweeps t .cleared) ∧
        (s.cabin.sweep = .idle ∨ s.cabin.sweep = .cleared → OnlyChanges [.cabin] s t)) ∧
      (s.cfg.role = .cabin → l.function = .crewAssist →
        (s.cabin.sweep = .unchecked ∨ s.cabin.sweep = .cleared ∨ s.cabin.sweep = .reopened →
          sweeps t .assist) ∧
        (s.cabin.sweep = .idle ∨ s.cabin.sweep = .assist → OnlyChanges [.cabin] s t)) ∧
      (s.cfg.role = .cabin → l.function = .entryContact →
        (s.cabin.sweep = .cleared → sweeps t .reopened) ∧
        (s.cabin.sweep ≠ .cleared → OnlyChanges [.cabin] s t)) ∧
      (l.function = .presence →
        (∀ x ∈ s.trig.sets, x.state = .enabled → x.cfg.factor = .input → x.cfg.factorArg ≠ n.val) →
        t.trig = s.trig ∧
        (s.page.quiet = true →
          t.page.presence = some (s.clock + s.cfg.presenceDwell * 1000) ∧ t.shown) ∧
        (s.page.quiet = false → t.page.presence = s.page.presence)) ∧
      (l.function = .triggerOnly →
        (∀ x ∈ s.trig.sets, x.state = .enabled → x.cfg.factor = .input → x.cfg.factorArg ≠ n.val) →
        OnlyChanges [.cabin] s t) ∧
      (l.function = .presence ∨ l.function = .triggerOnly →
        ∀ (m : Nat) (y : TriggerSet), s.trig.soleEnabled m y → y.cfg.factor = .input →
          y.cfg.factorArg = n.val →
          let activated := { s.trig with
            activations := bump s.trig.activations, sets := afterOnce s.trig.sets m y }
          (y.cfg.action = .none → t.trig = activated) ∧
          (y.cfg.action = .capture → t.trig = { activated with
            captures := s.trig.captures.set y.cfg.actionArg
              (some ⟨s.captureTime, m, false, .input, n.val⟩) })) ∧
      (l.function = .presence ∨ l.function = .triggerOnly →
        t.cabin = { s.cabin with lines := lines } ∧
        OnlyChanges [.cabin, .trig, .page, .panel] s t) ∧
      OnlyChanges [.cabin, .ports, .trig, .page, .panel] s t

/-- A SWEEP frame moves the tally entry of its cabin and a CABIN frame the record of its cabin and, by its
service-done number, the make-up request (R86, R87, R92, R93). -/
def Obligations.CabinBusFramesTaken : Prop :=
  ∀ (p : Port) (f : RxFrame) (s : State), s.hears p f →
    (∀ w, parseSweep f.payload = some w →
      ∃ t, exec (.sweepFrame p f) s = .next t ∧
        (s.cabin.tally = none → OnlyChanges [.ports, .ind] s t) ∧
        (∀ l, s.cabin.tally = some l →
          ((∀ x ∈ l, x.cabin ≠ w.cabin) → OnlyChanges [.ports, .ind] s t) ∧
          ((∃ x ∈ l, x.cabin = w.cabin) →
            let after := l.map (fun x => if x.cabin = w.cabin then { x with sweep := w.sweep } else x)
            t.cabin = { s.cabin with tally := some after } ∧
            (uncheckedCount l ≠ uncheckedCount after ∨ assistCount l ≠ assistCount after → t.shown) ∧
            (uncheckedCount l = uncheckedCount after → assistCount l = assistCount after →
              OnlyChanges [.cabin, .ports, .ind] s t))) ∧
        OnlyChanges [.cabin, .ports, .page, .panel, .ind] s t) ∧
    (∀ c, parseCabin f.payload = some c →
      ∃ t, exec (.cabinFrame p f) s = .next t ∧
        (s.cfg.role ≠ .cabin ∨ c.cabin ≠ s.cfg.cabinNumber → OnlyChanges [.ports, .ind] s t) ∧
        (s.cfg.role = .cabin → c.cabin = s.cfg.cabinNumber →
          (s.cabin.info = none ∨ (∃ h, s.cabin.info = some h ∧ newer 8 c.version h.version = true) →
            t.cabin.info =
              some ⟨c.version, c.greeting, c.occupancy, c.embarkDay, c.disembarkDay⟩) ∧
          (∀ h, s.cabin.info = some h → newer 8 c.version h.version = false →
            t.cabin.info = s.cabin.info) ∧
          (c.serviceDone = none →
            t.cabin = { s.cabin with info := t.cabin.info }) ∧
          (∀ d, c.serviceDone = some d → s.cabin.service = .makeup ∧ d = s.cabin.request →
            t.cabin = { s.cabin with info := t.cabin.info, service := .none } ∧ t.shown ∧
            let u := (s.noteGood p).countReceived p
            t.ports.get .a = (u.request .a .service (.cabin s.cfg.cabinNumber)
              (.fixed (s.ownFrame .service (octets2 s.cfg.cabinNumber ++
                octets1 ServiceState.none.code ++ octets1 s.cabin.request)))).ports.get .a) ∧
          (∀ d, c.serviceDone = some d → ¬(s.cabin.service = .makeup ∧ d = s.cabin.request) →
            t.cabin = { s.cabin with
              info := t.cabin.info, staleServiceDone := bump s.cabin.staleServiceDone })) ∧
        OnlyChanges [.cabin, .ports, .page, .panel, .ind] s t)

/-! ### Ship time (chapter 6) -/

/-- Every step keeps the source table in its bound without two entries of one sender, the selection and the own
stratum those of the best source, a source in SYNCED, and a stale deadline in HOLDOVER alone (R98, R99,
R103). That the source table stands in ascending order of sender is the model's choice (log entry 28). -/
def Obligations.TimeLawKept : Prop :=
  ∀ s t : State, s.timeLaw → step s = .next t → t.timeLaw

/-- A well-formed BEACON frame at a running node: unusable ones are counted, a usable one enters or refreshes
the source table, where in a full one the worst entry gives way to a lower stratum, and the beacon of the
selected source steps, slews or waits for its confirmation by the residue (R97, R98, R100, R102, R105). -/
def Obligations.BeaconFrameTaken : Prop :=
  ∀ (p : Port) (f : RxFrame) (b : BeaconPayload) (s : State), s.hears p f →
    parseBeacon f.payload = some b → s.timeLaw →
    let r : Int := ((b.seconds * 1000 + b.millis + s.cfg.transitAllowance : Nat) : Int) - s.shipMs
    let wide : Prop := s.cfg.slewWindow < r.natAbs
    ∃ t, exec (.beaconFrame p f) s = .next t ∧ t.timeLaw ∧
      (b.stratum = 15 ∨ b.state ≠ .synced →
        t.time = { s.time with unusableBeacons := bump s.time.unusableBeacons } ∧
        OnlyChanges [.time, .ports, .ind] s t) ∧
      (b.stratum ≠ 15 → b.state = .synced →
        ((∃ x ∈ s.time.sources, x.sender = f.sender) ∨ s.time.sources.length < 4 →
          ∀ x, x ∈ t.time.sources ↔
            x = ⟨f.sender, b.stratum, s.clock⟩ ∨ (x ∈ s.time.sources ∧ x.sender ≠ f.sender)) ∧
        ((∀ x ∈ s.time.sources, x.sender ≠ f.sender) → s.time.sources.length = 4 →
          (∀ x ∈ s.time.sources, x.stratum ≤ b.stratum) →
          t.time = { s.time with refusedSources := bump s.time.refusedSources } ∧
          OnlyChanges [.time, .ports, .ind] s t) ∧
        ((∀ x ∈ s.time.sources, x.sender ≠ f.sender) → s.time.sources.length = 4 →
          ∀ w ∈ s.time.sources, b.stratum < w.stratum →
          (∀ x ∈ s.time.sources, x = w ∨ x.stratum < w.stratum ∨ (x.stratum = w.stratum ∧
            (w.lastBeacon < x.lastBeacon ∨
              (w.lastBeacon = x.lastBeacon ∧ x.sender < w.sender)))) →
          t.time.refusedSources = s.time.refusedSources ∧
          ∀ x, x ∈ t.time.sources ↔
            x = ⟨f.sender, b.stratum, s.clock⟩ ∨ (x ∈ s.time.sources ∧ x ≠ w)) ∧
        (t.time.selected ≠ some f.sender →
          t.time.offset = s.time.offset ∧ t.time.slewRemaining = s.time.slewRemaining ∧
          t.time.state = s.time.state) ∧
        (t.time.selected = some f.sender → s.time.state = .unset →
          t.time.offset = s.time.offset + r ∧ t.time.slewRemaining = 0 ∧ t.time.slewTick = none ∧
          t.time.confirm = none ∧ t.time.state = .synced ∧
          t.time.notifiedMinute = t.programmeMinute ∧ t.time.stepsTaken = s.time.stepsTaken ∧
          t.shown) ∧
        (t.time.selected = some f.sender → s.time.state ≠ .unset → ¬wide →
          t.time.offset = s.time.offset ∧ t.time.slewRemaining = r ∧ t.time.confirm = none ∧
          t.time.state = .synced ∧
          t.time.slewTick = (if r = 0 then none
            else if s.time.slewRemaining = 0 then some (s.clock + 64) else s.time.slewTick)) ∧
        (t.time.selected = some f.sender → s.time.state ≠ .unset → wide →
          (∀ q, s.time.selected = some f.sender → s.time.confirm = some q →
            (r - q).natAbs ≤ s.cfg.slewWindow →
            t.time.offset = s.time.offset + r ∧ t.time.slewRemaining = 0 ∧
            t.time.slewTick = none ∧ t.time.confirm = none ∧ t.time.state = .synced ∧
            t.time.stepsTaken = bump s.time.stepsTaken ∧ t.shown) ∧
          (s.time.selected ≠ some f.sender ∨ s.time.confirm = none ∨
              (∃ q, s.time.confirm = some q ∧ s.cfg.slewWindow < (r - q).natAbs) →
            t.time.offset = s.time.offset ∧ t.time.slewRemaining = s.time.slewRemaining ∧
            t.time.slewTick = s.time.slewTick ∧ t.time.confirm = some r ∧
            t.time.state = s.time.state ∧
            t.time.unconfirmedSteps = bump s.time.unconfirmedSteps))) ∧
      OnlyChanges [.time, .prog, .trig, .page, .panel, .ports, .ind] s t

/-- The deadlines of ship time: a slew tick moves offset and remaining by 1 ms, an expired source leaves the
table and the last one of a SYNCED node brings HOLDOVER, the stale deadline STALE, and a minute above the
notified one is announced: expiry run, leads detected, page shown (R69, R71, R99, R101, R103, R104). That a
late notice announces the current minute alone is the model's choice (log entry 8). -/
def Obligations.TimeDeadlinesTaken : Prop :=
  ∀ s : State,
    (∀ d, s.time.slewTick = some d → d ≤ s.clock → s.time.slewRemaining ≠ 0 →
      ∃ t, exec .slewTick s = .next t ∧
        (0 < s.time.slewRemaining →
          t.time.offset = s.time.offset + 1 ∧ t.time.slewRemaining = s.time.slewRemaining - 1 ∧
          t.time.notifiedMinute = max s.time.notifiedMinute t.programmeMinute) ∧
        (s.time.slewRemaining < 0 →
          t.time.offset = s.time.offset - 1 ∧ t.time.slewRemaining = s.time.slewRemaining + 1 ∧
          OnlyChanges [.time] s t) ∧
        t.time.slewTick = (if t.time.slewRemaining = 0 then none else some (d + 64)) ∧
        t.time.state = s.time.state ∧ t.time.sources = s.time.sources ∧
        OnlyChanges [.time, .prog, .trig, .page, .panel] s t) ∧
    (∀ x ∈ s.time.sources, s.running = true → s.timeLaw →
      x.lastBeacon + 3 * (s.cfg.beaconInterval * 1000) ≤ s.clock →
      ∃ t, exec (.sourceExpiry x.sender) s = .next t ∧ t.timeLaw ∧
        (∀ y, y ∈ t.time.sources ↔ y ∈ s.time.sources ∧ y ≠ x) ∧
        (s.time.state = .synced → (∀ y ∈ s.time.sources, y = x) →
          t.time.state = .holdover ∧
          t.time.staleDeadline = some (s.clock + s.cfg.staleLimit * 60000) ∧ t.shown) ∧
        (s.time.state ≠ .synced ∨ (∃ y ∈ s.time.sources, y ≠ x) →
          t.time.state = s.time.state ∧ t.time.staleDeadline = s.time.staleDeadline ∧
          OnlyChanges [.time] s t) ∧
        t.time.offset = s.time.offset ∧ t.time.slewRemaining = s.time.slewRemaining ∧
        OnlyChanges [.time, .page, .panel] s t) ∧
    (∀ d, s.time.state = .holdover → s.time.staleDeadline = some d → d ≤ s.clock →
      ∃ t, exec .staleDeadline s = .next t ∧
        t.time = { s.time with state := .stale, staleDeadline := none } ∧
        (s.running = true → t.shown) ∧ OnlyChanges [.time, .page, .panel] s t) ∧
    (s.time.notifiedMinute < s.programmeMinute →
      ∃ t, exec .minuteNotice s = .next t ∧
        t.time = { s.time with notifiedMinute := s.programmeMinute } ∧
        (s.running = false → OnlyChanges [.time] s t) ∧
        (s.running = true → t.shown ∧
          (s.time.state = .unset → t.prog = s.prog) ∧
          (s.time.state ≠ .unset →
            t.prog.items = s.prog.items.filter (fun i => decide (s.programmeMinute ≤ i.last))) ∧
          (s.time.state = .synced ∨ s.time.state = .holdover →
            ∀ i ∈ s.prog.items, detectedAt s.cfg s.programmeMinute i = true →
              s.programmeMinute ≤ i.last →
              (∀ j ∈ s.prog.items, detectedAt s.cfg s.programmeMinute j = true → j = i) →
              i.id ∈ t.prog.spotlight)) ∧
        OnlyChanges [.time, .prog, .trig, .page, .panel] s t)

/-! ### Interval timers and pages (chapters 7 and 8) -/

/-- An interval timer that runs: each tick raises the count, the terminal count expires it, counted, and its
occurrence activates the set that waits for it, here one that takes a capture (R112, R113, R116, R117). -/
def Obligations.TimersRun : Prop :=
  ∀ (n : Fin 2) (s : State) (x : TimerState), s.running = true →
    s.trig.timers[n.val]? = some x → x.running = true →
    (∀ d, x.tick = some d → d ≤ s.clock → x.count < (s.timerCfg n.val).terminal →
      ∃ t, exec (.intervalTimerTick n) s = .next t ∧
        t.trig = { s.trig with
          timers := s.trig.timers.set n.val ⟨true, x.count + 1, some (d + 100)⟩ } ∧
        OnlyChanges [.trig] s t) ∧
    ((s.timerCfg n.val).terminal ≤ x.count →
      let timers := s.trig.timers.set n.val (match (s.timerCfg n.val).mode with
        | .single => ⟨false, 0, none⟩
        | .repeating => { x with count := 0 })
      ∃ t, exec (.intervalTimerExpiry n) s = .next t ∧
        t.trig.expiries = bump s.trig.expiries ∧
        ((∀ y ∈ s.trig.sets, y.state = .enabled → y.cfg.factor ≠ .timer) →
          t.trig = { s.trig with timers := timers, expiries := bump s.trig.expiries } ∧
          OnlyChanges [.trig] s t) ∧
        (∀ (m : Nat) (y : TriggerSet), m < 4 → s.trig.sets[m]? = some y → y.state = .enabled →
          y.cfg.factor = .timer → y.cfg.factorArg = n.val → y.cfg.action = .capture →
          (∀ (j : Nat) (z : TriggerSet), s.trig.sets[j]? = some z → z.state = .enabled → j = m) →
          t.trig = { s.trig with
            timers := timers
            expiries := bump s.trig.expiries
            activations := bump s.trig.activations
            captures := s.trig.captures.set y.cfg.actionArg
              (some ⟨if s.time.state = .unset then .clock s.clock
                else .ship (s.shipMs / 1000) (s.shipMs % 1000), m, false, .timer, n.val⟩)
            sets := if y.cfg.repeats then s.trig.sets
              else s.trig.sets.set m { y with state := .disabled } } ∧
          OnlyChanges [.trig] s t) ∧
        OnlyChanges [.trig, .page, .panel] s t)

/-- The actions of an activated set, here one that waits for a timer: NONE changes nothing more, TIMER_START and
TIMER_STOP move their timer, LUMINANCE sets the day level in use, ENABLE_SETS and DISABLE_SETS move the marked sets
before the once-step, and SHOW_PAGE, QUIET_ENTER and QUIET_LEAVE are taken by the page selector below GENERAL and
refused, counted, from GENERAL up, a page without an item and PROGRAMME in quiet being refused too (R113, R114,
R115, R118, R123, R124, R125, R149). That bit n of an action argument marks set n, and that QUIET_LEAVE clears a quiet
set before QUIET_ENTER, are the model's choices (log entries 40, 41). -/
def Obligations.TriggerActionsPerformed : Prop :=
  ∀ (n : Fin 2) (s : State) (x : TimerState) (m : Nat) (y : TriggerSet), s.running = true →
    s.trig.timers[n.val]? = some x → x.running = true → (s.timerCfg n.val).terminal ≤ x.count →
    s.trig.soleEnabled m y → y.cfg.factor = .timer → y.cfg.factorArg = n.val →
    let timers := s.trig.timers.set n.val (match (s.timerCfg n.val).mode with
      | .single => ⟨false, 0, none⟩
      | .repeating => { x with count := 0 })
    let activated : TriggerUnit := { s.trig with
      timers := timers, expiries := bump s.trig.expiries
      activations := bump s.trig.activations, sets := afterOnce s.trig.sets m y }
    let marked (moved : TriggerSet → TriggerSet) : TriggerUnit := { activated with
      sets := afterOnce (s.trig.sets.mapIdx
        (fun i z => if y.cfg.actionArg.testBit i then moved z else z)) m y }
    let arg := y.cfg.actionArg
    let dwelling := some (s.clock + s.cfg.dwell * 1000)
    let inQuiet := s.page.quietInEffect
    ∃ t, exec (.intervalTimerExpiry n) s = .next t ∧
      (y.cfg.action = .none → t.trig = activated ∧ OnlyChanges [.trig] s t) ∧
      (y.cfg.action = .timerStart →
        t.trig = { activated with timers := timers.set arg ⟨true, 0, some (s.clock + 100)⟩ } ∧
        OnlyChanges [.trig] s t) ∧
      (y.cfg.action = .timerStop →
        t.trig = { activated with timers := timers.set arg ⟨false, 0, none⟩ } ∧
        OnlyChanges [.trig] s t) ∧
      (y.cfg.action = .luminance → t.trig = activated ∧ t.panel.dayLevel = arg ∧
        (s.panel.kind = .paper → t.panel = { s.panel with dayLevel := arg }) ∧
        (s.panel.kind = .lit → t.panel.luminance = s.panel.luminance ∧
          t.panel.target = some (if s.panel.level.emergency then 1023
            else if s.panel.quiet then s.cfg.panel.nightLevel else arg)) ∧
        OnlyChanges [.trig, .panel] s t) ∧
      (y.cfg.action = .enableSets → y.cfg.chain = 0#4 →
        (∀ (j : Nat) (z : TriggerSet), s.trig.sets[j]? = some z → j ≠ m → z.cfg.factor ≠ .timer) →
        t.trig = marked (fun z => match z.state with
          | .enabled => z
          | .suspended => z
          | .disabled => { z with
            state := if z.cfg.normalOnly = true ∧ s.trig.level.emergency = true then .suspended
              else .enabled }) ∧
        OnlyChanges [.trig] s t) ∧
      (y.cfg.action = .disableSets →
        t.trig = marked (fun z => { z with state := .disabled }) ∧ OnlyChanges [.trig] s t) ∧
      (s.pageLaw →
        let refused : Prop := t.page = { s.page with
          refusedRequests := bump s.page.refusedRequests, dwell := t.page.dwell
          handed := t.page.handed, pageChanges := t.page.pageChanges } ∧ t.shown
        let turned (position : RotationPage) : Prop :=
          t.page.spotItem = none ∧ t.page.spotDeadline = none ∧ t.page.rotation = position ∧
          t.page.selected = (if s.cfg.role = .cabin then .cabin else .rotation position) ∧
          (s.cfg.role ≠ .cabin → inQuiet = false → t.page.dwell = dwelling) ∧
          t.page.quiet = s.page.quiet ∧ t.page.presence = s.page.presence ∧
          t.page.refusedRequests = s.page.refusedRequests ∧ t.shown
        (y.cfg.action = .showPage →
          t.trig = activated ∧ OnlyChanges [.trig, .page, .panel] s t ∧
          (s.page.level.emergency = true → refused) ∧
          (s.page.level.emergency = false →
            (arg = 1 → turned .route) ∧
            (arg = 2 →
              (s.programmePages = 0 ∨ inQuiet = true → refused) ∧
              (s.programmePages ≠ 0 → inQuiet = false → turned (.programme 1))) ∧
            (arg = 0 →
              (s.prog.spotlight = [] → refused) ∧
              (∀ i rest, s.prog.spotlight = i :: rest →
                t.page.refusedRequests = s.page.refusedRequests ∧ t.page.selected = .spotlight ∧
                (s.page.spotItem = none → t.page.spotItem = some i ∧
                  t.page.spotDeadline = some (s.clock + s.cfg.spotlightDwell * 1000)) ∧
                (s.page.spotItem ≠ none → t.page.spotItem = s.page.spotItem ∧
                  t.page.spotDeadline = s.page.spotDeadline) ∧ t.shown)))) ∧
        (y.cfg.action = .quietEnter →
          t.trig = activated ∧ OnlyChanges [.trig, .page, .panel] s t ∧
          (s.page.level.emergency = true → refused) ∧
          (s.page.level.emergency = false →
            t.page.quiet = true ∧ t.page.presence = s.page.presence ∧
            t.page.spotItem = s.page.spotItem ∧
            (s.page.quiet = false → s.page.presence = none →
              t.page.rotation = .route ∧ t.page.dwell = none ∧ t.panel.quiet = true) ∧
            (s.page.quiet = true → t.page.rotation = s.page.rotation ∧
              t.panel.quiet = s.panel.quiet) ∧
            t.page.refusedRequests = s.page.refusedRequests ∧ t.shown)) ∧
        (y.cfg.action = .quietLeave →
          t.trig = activated ∧ OnlyChanges [.trig, .page, .panel] s t ∧
          (s.page.level.emergency = true → refused) ∧
          (s.page.level.emergency = false →
            t.page.quiet = false ∧ t.page.rotation = s.page.rotation ∧
            t.page.spotItem = s.page.spotItem ∧
            (s.page.quiet = true → t.page.presence = none) ∧
            (s.page.quiet = false → t.page.presence = s.page.presence ∧
              t.panel.quiet = s.panel.quiet) ∧
            (s.page.quiet = true → s.page.presence = none → t.panel.quiet = false ∧
              (s.page.selected.isRotation = true → t.page.dwell = dwelling)) ∧
            t.page.refusedRequests = s.page.refusedRequests ∧ t.shown)))

/-- Chains and the alarm notice: a set marked in the chain mask of an activated set is activated after it, marked as
chained, whatever its factor; an alarm change suspends every ENABLED normal-only set at GENERAL and above, counted,
and restores the suspended ones below; and a changed level activates the set that waits for it (R111, R112, R113,
R116). -/
def Obligations.ChainsAndSuspensions : Prop :=
  (∀ (n : Fin 2) (s : State) (x : TimerState) (m j : Nat) (y z : TriggerSet), s.running = true →
    s.trig.timers[n.val]? = some x → x.running = true → (s.timerCfg n.val).terminal ≤ x.count →
    m < 4 → j < 4 → m ≠ j → s.trig.sets[m]? = some y → s.trig.sets[j]? = some z →
    y.state = .enabled → z.state = .enabled →
    (∀ (k : Nat) (w : TriggerSet), s.trig.sets[k]? = some w → w.state = .enabled → k = m ∨ k = j) →
    y.cfg.factor = .timer → y.cfg.factorArg = n.val → y.cfg.action = .none →
    z.cfg.factor ≠ .timer → z.cfg.action = .capture →
    let activated : TriggerUnit := { s.trig with
      timers := s.trig.timers.set n.val (match (s.timerCfg n.val).mode with
        | .single => ⟨false, 0, none⟩
        | .repeating => { x with count := 0 })
      expiries := bump s.trig.expiries, activations := bump s.trig.activations
      sets := afterOnce s.trig.sets m y }
    ∃ t, exec (.intervalTimerExpiry n) s = .next t ∧ OnlyChanges [.trig] s t ∧
      (y.cfg.chain.getLsbD j = false → t.trig = activated) ∧
      (y.cfg.chain.getLsbD j = true → t.trig = { activated with
        activations := bump (bump s.trig.activations)
        sets := afterOnce (afterOnce s.trig.sets m y) j z
        captures := s.trig.captures.set z.cfg.actionArg
          (some ⟨s.captureTime, j, true, .timer, n.val⟩) })) ∧
  ∀ (p : Port) (f : RxFrame) (a : AlarmPayload) (s : State), s.hears p f →
    parseAlarm f.payload = some a →
    (s.alarm.epoch = none ∨ (∃ e, s.alarm.epoch = some e ∧ newer 16 a.epoch e = true) ∨
      (s.alarm.epoch = some a.epoch ∧ s.alarm.level.code < a.level.code)) →
    ∃ t, exec (.alarmFrame p f) s = .next t ∧
      ((∀ x ∈ s.trig.sets, x.cfg.factor ≠ .alarmChange ∧ x.cfg.factor ≠ .routeChange) →
        t.trig = { s.trig with
          level := a.level
          suspensions := min 65535 (s.trig.suspensions +
            (if a.level.emergency then
              s.trig.sets.countP (fun x => decide (x.state = .enabled) && x.cfg.normalOnly) else 0))
          sets := s.trig.sets.map (fun x =>
            if a.level.emergency = true ∧ x.state = .enabled ∧ x.cfg.normalOnly = true then
              { x with state := .suspended }
            else if a.level.emergency = false ∧ x.state = .suspended then
              { x with state := .enabled }
            else x) }) ∧
      ∀ (m : Nat) (y : TriggerSet), s.trig.soleEnabled m y →
        (∀ x ∈ s.trig.sets, x.state ≠ .suspended) → y.cfg.normalOnly = false →
        y.cfg.factor = .alarmChange →
        let told : TriggerUnit := { s.trig with
          level := a.level, suspensions := min 65535 s.trig.suspensions }
        let activated : TriggerUnit := { told with
          activations := bump s.trig.activations, sets := afterOnce s.trig.sets m y }
        (a.level = s.alarm.level ∨ a.level.code < y.cfg.factorArg → t.trig = told) ∧
        (a.level ≠ s.alarm.level → y.cfg.factorArg ≤ a.level.code →
          (y.cfg.action = .none → t.trig = activated) ∧
          (y.cfg.action = .capture → t.trig = { activated with
            captures := s.trig.captures.set y.cfg.actionArg
              (some ⟨s.captureTime, m, false, .alarmChange, a.level.code⟩) }))

/-- The end of the page selector's work for an event: another page is handed whole with the urgency of the event's
cause and counted; of the same page the records that changed are handed, each with the urgency and the mark of its
own cause, by its page and field number: alarm, muster target, sweep and tally fields and the two target route
fields of MUSTER and ABANDON urgent, the others not (R136; which cause a field has is the model's reading, DEDUCED,
log entry 18). What each page holds, and so what is handed, is said by GuidancePagesCompose and
ContentPagesCompose. -/
def Obligations.ChangesHandedByCause : Prop :=
  ∀ (cause : PageCause) (s : State),
    let page := s.page.selected
    let composed := s.composePage page
    let handed (t : State) : Prop := t.page.handed = some ⟨page, composed⟩ ∧
      t.page.selected = page ∧ OnlyChanges [.page, .panel] s t
    let byCause : Bool := match cause with
      | .alarm => true
      | .musterTarget => true
      | .sweep => true
      | .tally => true
      | .route => false
      | .service => false
      | .cabinInfo => false
      | .other => false
    let urgent (n : Nat) : Bool := match page with
      | .fallback => true
      | .muster => decide (n = 1 ∨ 16 ≤ n)
      | .abandon => decide (n = 1 ∨ 16 ≤ n)
      | .cabin => false
      | .spotlight => decide (n = 1)
      | .rotation _ => decide (n = 1)
    let mark (n : Nat) : OriginMark :=
      if page = .cabin ∧ n = 25 then .cabinInput
      else if page = .cabin ∧ (n = 23 ∨ n = 24) then .cabinInformation
      else .none
    let t := s.handOver cause
    handed t ∧
    ((∀ h, s.page.handed = some h → h.page ≠ page) →
      t.page.pageChanges = bump s.page.pageChanges ∧
      t.panel = s.panel.takePageChange s.panelEnv composed byCause) ∧
    (∀ h, s.page.handed = some h → h.page = page →
      let changed := composed.filter
        (fun r => decide (h.fields.find? (fun x => x.num == r.num) ≠ some r))
      t.page.pageChanges = s.page.pageChanges ∧
      (changed = [] → t.panel = s.panel) ∧
      (changed ≠ [] → t.panel = s.panel.takeFieldChange s.panelEnv
        (changed.map (fun r => ⟨r, urgent r.num, mark r.num⟩))))

/-- What the guidance pages show, each a set of field records with regions and attributes: the FALLBACK text, the
signpost rows of ROUTE, and on MUSTER and ABANDON, which are selected at GENERAL and ABANDON alone, the target, its
arrow and distance, the rows, the tally counts, and at a CABIN node the sweep line; numbers are shown in digits
(R26, R56, R92, R127, R128, R129, R131, R132, R134, R135). That a text is held as named pieces, with a joint where
the manual does not say what separates two parts, is the model's choice (log entry 1); that what other blocks
hold is read when the page is composed is its reading (DEDUCED, log entry 19). -/
def Obligations.GuidancePagesCompose : Prop :=
  (∀ n : Nat, n < 100000000 → ∃ ds : List Nat, digitsText n = ds.map .digit ∧ (∀ d ∈ ds, d < 10) ∧
    ds.foldl (fun v d => 10 * v + d) 0 = n ∧ (ds.head? = some 0 → ds = [0])) ∧
  ∀ s : State,
    let emergency : Bool := decide (s.page.level = .general ∨ s.page.level = .abandon)
    let text (n : Nat) (regions : List Nat) (t : List TextPiece) : FieldRecord :=
      ⟨n, .normal, .text t, regions⟩
    let clock (m : Nat) : List TextPiece :=
      [.digit (m % 1440 / 600), .digit (m % 1440 / 60 % 10), .colon, .digit (m % 60 / 10),
        .digit (m % 10)]
    let entry (d : Nat) := s.route.entries.find? (fun e => e.dest == d)
    let distance (d : Nat) : List TextPiece := match entry d with
      | none => [.stock .routePending]
      | some e => match e.state with
        | .anchor => [.stock .here]
        | .reachable => (if 9990 < e.cost then [.moreThan] else []) ++
            digitsText (min 999 ((e.cost + 9) / 10)) ++ [.metres]
        | .holdDown => [.stock .noRoute]
        | .unreachable => [.stock .noRoute]
    let bearing (d : Nat) : Option Bearing := match entry d with
      | none => none
      | some e => match e.nextHop with
        | .slot n => if e.state = .reachable then (s.cfg.neighbours[n]?).map (fun l => l.bearing) else none
        | .self => none
        | .none => none
    let attr : FieldAttr :=
      if emergency then (if s.panel.kind = .lit then .blink else .inverse) else .normal
    let header : List FieldRecord :=
      [text 0 [1] (if s.time.state = .unset then [] else clock (s.shipMs / 60000)),
        ⟨1, .normal, .symbol (if s.page.level = .alert then .crewAlert else .none), [1]⟩]
    let visible := s.cfg.signposted.filter (fun d =>
      !(emergency && (entry d.dest).any (fun e => decide (e.kind = .venue))))
    let rows (region : Nat → Nat) : List FieldRecord := [0, 1, 2, 3].flatMap (fun i =>
      let label := match visible[i]? with
        | some d => d.label.map .octet
        | none => []
      let figures := match visible[i]? with
        | some d => (bearing d.dest, distance d.dest)
        | none => (none, [])
      [text (4 + 3 * i) [region i] label, ⟨5 + 3 * i, attr, .arrow figures.1, [region i]⟩,
        text (6 + 3 * i) [region i] figures.2])
    let carries (page : Page) (l : List FieldRecord) : Prop := ∀ r, r ∈ s.composePage page ↔ r ∈ l
    carries .fallback
      [text 30 [2, 3] [.stock (if emergency then .emergencyFollowCrew else .outOfService)]] ∧
    carries (.rotation .route) (header ++ rows (fun i => if i ≤ 1 then 2 else 3)) ∧
    ∀ page heading, page = .muster ∧ heading = StockText.goToAssembly ∨
        page = .abandon ∧ heading = .goToEmbarkation → emergency = true →
      let labelled (d : Nat) := s.cfg.labels.find? (fun l => l.dest == d)
      let target : List FieldRecord := text 16 [2] [.stock heading] :: match s.muster.dest with
        | some d =>
          [text 17 [2, 3] (match labelled d with
              | some l => l.label.map .octet
              | none => digitsText d),
            text 18 [2] (match labelled d with
              | some l => [.stock .deck, .joint] ++ digitsText l.deck
              | none => [])]
        | none => [text 17 [2, 3] [.stock .awaitCrew], text 18 [2] []]
      let far : List TextPiece := match s.muster.dest with
        | some d => distance d
        | none => []
      let tallied : List FieldRecord := match s.cabin.tally with
        | some l =>
          [⟨28, .normal, .number
              (l.countP (fun x => decide (x.sweep = .unchecked) || decide (x.sweep = .reopened))), [4]⟩,
            ⟨29, .normal, .number (l.countP (fun x => decide (x.sweep = .assist))), [4]⟩]
        | none => []
      let sweep : List TextPiece := match s.cabin.sweep with
        | .idle => []
        | .unchecked => [.stock .unchecked]
        | .cleared => [.stock .cleared]
        | .assist => [.stock .assist]
        | .reopened => [.stock .reopened]
      let since : List TextPiece := match s.cabin.sweepMinute with
        | some m => .joint :: clock m
        | none => []
      (s.cfg.role ≠ .cabin → carries page (header ++ rows (fun _ => 3) ++ target ++
        [⟨19, attr, .arrow (s.muster.dest.bind bearing), [2]⟩, text 20 [2] far] ++ tallied)) ∧
      (s.cfg.role = .cabin → carries page (header ++ target ++
        [text 20 [3] far, text 21 [4] (if s.cabin.sweep = .idle then [] else sweep ++ since)]))

/-- What the programme, SPOTLIGHT and CABIN pages show, each a set of field records: the displayed selection, its
pages and lines with start, title, status and venue, the current spotlight item, and the cabin number, greeting,
occupancy and service symbol (R68, R73, R74, R75, R130, R133, R134). That a text is held as named pieces, with a
joint where the manual does not say what separates two parts, is the model's choice (log entry 1). -/
def Obligations.ContentPagesCompose : Prop :=
  ∀ s : State, 1 ≤ s.cfg.linesPerPage →
    let now := s.shipMs / 60000
    let lines := s.cfg.linesPerPage
    let text (n : Nat) (regions : List Nat) (t : List TextPiece) : FieldRecord :=
      ⟨n, .normal, .text t, regions⟩
    let glyphs (t : List Byte) : List TextPiece := t.map .octet
    let clock (m : Nat) : List TextPiece :=
      [.digit (m % 1440 / 600), .digit (m % 1440 / 60 % 10), .colon, .digit (m % 60 / 10),
        .digit (m % 10)]
    let header : List FieldRecord :=
      [text 0 [1] (if s.time.state = .unset then [] else clock now),
        ⟨1, .normal, .symbol (if s.page.level = .alert then .crewAlert else .none), [1]⟩]
    let selection := s.prog.items.filter (fun i =>
      i.deckMask.getLsbD s.cfg.deck && i.zoneMask.getLsbD s.cfg.zone &&
        (decide (s.time.state = .unset) ||
          decide (now ≤ i.last ∧ i.start ≤ now + s.cfg.lookahead)))
    let pages := min 4 (selection.length / lines + if selection.length % lines = 0 then 0 else 1)
    let status (i : Item) : List TextPiece :=
      if i.cancelled then [.stock .cancelled]
      else if s.time.state = .unset then []
      else if i.start ≤ now then [.stock .now]
      else match s.panel.kind with
        | .lit =>
          if i.start ≤ now + 60 ∧ s.time.state ≠ .stale then
            [.stock .inWord, .space] ++ digitsText (i.start - now) ++ [.space, .stock .minWord]
          else []
        | .paper => if i.start ≤ now + 15 then [.stock .soon] else []
    let venue (i : Item) : List TextPiece :=
      let named := if i.venueLabel = [] then digitsText i.venue else glyphs i.venueLabel
      if i.venue = 0 then glyphs i.venueLabel
      else named ++ .joint :: match s.route.entries.find? (fun e => e.dest == i.venue) with
        | none => [.stock .routePending]
        | some e => match e.state with
          | .anchor => [.stock .here]
          | .reachable =>
            (match e.nextHop with
              | .slot n => match s.cfg.neighbours[n]? with
                | some l => [.arrow l.bearing, .joint]
                | none => []
              | .self => []
              | .none => []) ++
              (if 9990 < e.cost then [.moreThan] else []) ++
              digitsText (min 999 ((e.cost + 9) / 10)) ++ [.metres]
          | .holdDown => [.stock .noRoute]
          | .unreachable => [.stock .noRoute]
    let line (k j : Nat) : List FieldRecord :=
      let region := if j ≤ 3 then 2 else 3
      match selection[(k - 1) * lines + j]? with
      | some i =>
        [text (4 + 3 * j) [region] (clock i.start ++ .space :: glyphs i.title),
          text (5 + 3 * j) [region] (status i), text (6 + 3 * j) [region] (venue i)]
      | none =>
        [text (4 + 3 * j) [region] [], text (5 + 3 * j) [region] [], text (6 + 3 * j) [region] []]
    let carries (page : Page) (l : List FieldRecord) : Prop := ∀ r, r ∈ s.composePage page ↔ r ∈ l
    s.programmePages = pages ∧
    (∀ k, 1 ≤ k → k ≤ pages → ∀ r, r ∈ s.composePage (.rotation (.programme k)) ↔
      r ∈ header ∨ r = text 2 [1] (digitsText k ++ .slash :: digitsText pages) ∨
        ∃ j < lines, r ∈ line k j) ∧
    (∀ n i, s.page.spotItem = some n → s.prog.items.find? (fun x => x.id == n) = some i →
      carries .spotlight (header ++
        [text 16 [2] ([.stock (match i.category with
            | .show => .show
            | .dining => .dining
            | .excursion => .excursion
            | .activity => .activity
            | .notice => .notice), .space] ++ glyphs i.title),
          text 17 [3] (glyphs i.detail),
          text 18 [2] (clock i.start ++ .space :: status i),
          text 19 [3] (venue i)])) ∧
    carries .cabin
      [⟨22, .normal, .number s.cfg.cabinNumber, [1]⟩,
        text 23 [2] (match s.cabin.info with
          | some c => glyphs c.greeting
          | none => []),
        text 24 [2] (match s.cabin.info with
          | some c => match c.occupancy with
            | .vacant => [.stock .vacant]
            | .occupied => [.stock .occupied, .joint] ++ digitsText c.embarkDay ++
                .joint :: digitsText c.disembarkDay
          | none => []),
        ⟨25, .normal, .symbol (match s.cabin.service with
          | .none => .none
          | .privacy => .privacy
          | .makeup => .makeup), [3]⟩]

/-- The page selector's deadlines: the dwell turns the rotation, the spotlight deadline gives up the item shown
and shows the next, and the presence deadline brings quiet back (R122, R124, R125, R126). -/
def Obligations.PageDeadlinesTaken : Prop :=
  ∀ (s : State) (d : Nat), s.running = true → d ≤ s.clock →
    (s.page.dwell = some d → s.pageLaw → s.page.selected.isRotation = true →
      ∃ t, exec .dwellDeadline s = .next t ∧
        t.page.rotation = (match s.page.rotation with
          | .route => if s.programmePages = 0 then .route else .programme 1
          | .programme k => if k < s.programmePages then .programme (k + 1) else .route) ∧
        t.page.selected = .rotation t.page.rotation ∧
        t.page.dwell = some (s.clock + s.cfg.dwell * 1000) ∧ t.shown ∧
        OnlyChanges [.page, .panel] s t) ∧
    (∀ i, s.page.spotDeadline = some d → s.page.spotItem = some i →
      ∃ t, exec .spotlightDeadline s = .next t ∧
        t.prog = { s.prog with spotlight := s.prog.spotlight.filter (fun x => decide (x ≠ i)) } ∧
        (t.prog.spotlight = [] → t.page.spotItem = none ∧ t.page.spotDeadline = none) ∧
        (∀ j rest, t.prog.spotlight = j :: rest → t.page.spotItem = some j ∧
          t.page.spotDeadline = some (s.clock + s.cfg.spotlightDwell * 1000)) ∧
        t.shown ∧ OnlyChanges [.prog, .page, .panel] s t) ∧
    (s.page.presence = some d →
      ∃ t, exec .presenceDeadline s = .next t ∧ t.page.presence = none ∧
        t.page.quiet = s.page.quiet ∧
        (s.page.quiet = true → t.page.rotation = .route ∧ t.page.dwell = none ∧
          t.panel.quiet = true) ∧
        t.shown ∧ OnlyChanges [.page, .panel] s t)

/-! ### Panel and lamp (chapters 9 and 12) -/

/-- Every step keeps the full-refresh window: of the entries that count at most W, and at most W − 1 non-urgent
(R140, R142). -/
def Obligations.WindowLawKept : Prop :=
  ∀ s t : State, s.windowLaw → step s = .next t → t.windowLaw

/-- The load and the busy input of a PAPER panel: the end of a load brings BUSY with its timeout, or the
completion where busy fell during it; a fall completes a BUSY refresh, ends the busy watch in IDLE and is
ignored elsewhere; a rise in IDLE sets the busy watch. With an effective gap_any of 0 and busy low the completion
is itself a test of the refresh choice (R141, R144, R146, R147). -/
def Obligations.PanelBusyLine : Prop :=
  ∀ s : State, s.start.lifecycle ≠ .loading → s.panel.kind = .paper →
    let cfg := s.cfg.panel
    let spaced := 0 < effectiveGap cfg.gapAnyMicros cfg.gapAnyFrames cfg.framePeriodMicros
    let watch := some (s.clock + cfg.refreshTimeout * 1000)
    let counting := s.panel.window.filter
      (fun w => decide (s.clock < w.start + cfg.windowSeconds * 1000))
    let goesOn (done p : PanelCtl) : Prop :=
      (done.full = none → done.partials = [] → p = { done with window := counting }) ∧
      (∀ r, done.full = some r → r.urgent = true → counting.length < cfg.windowCount →
        p.state = .sending ∧ p.refreshUrgent = true ∧ p.full = none ∧ p.partials = [] ∧
        p.pending = [] ∧ p.window = counting ++ [⟨s.clock, true⟩] ∧
        p.lastCompletion = some s.clock ∧ p.timeoutRun = 0 ∧
        p.fullRefreshes = bump s.panel.fullRefreshes ∧
        ∃ load, p.load = some load ∧ load.command = .refreshFull ∧
          load.records.map (fun x => x.num) = List.range 32) ∧
      (∀ r, done.full = some r → cfg.windowCount ≤ counting.length →
        (r.urgent = true ∨ r.forced = true ∨ done.quiet = false ∨ done.level.emergency = true) →
        p = { done with window := counting })
    (s.panel.state = .sending →
      let done : PanelCtl := { s.panel with
        state := .idle, load := none, fellInLoad := false, refreshDeadline := none
        lastCompletion := some s.clock, timeoutRun := 0, refreshUrgent := false
        busyWatch := if s.pins.busy then watch else none }
      ∃ t, exec .loadEnd s = .next t ∧
        (s.panel.fellInLoad = false →
          t.panel = { s.panel with state := .busy, load := none, refreshDeadline := watch }) ∧
        (s.panel.fellInLoad = true →
          (spaced ∨ s.pins.busy = true → t.panel = done) ∧
          (¬spaced → s.pins.busy = false → goesOn done t.panel)) ∧
        OnlyChanges [.panel] s t) ∧
    (s.pins.busy = true →
      let done : PanelCtl := { s.panel with
        state := .idle, refreshDeadline := none, lastCompletion := some s.clock
        timeoutRun := 0, refreshUrgent := false, busyWatch := none }
      ∃ t, exec .panelBusyFall s = .next t ∧ t.pins = { s.pins with busy := false } ∧
        (s.panel.state = .busy →
          (spaced → t.panel = done) ∧ (¬spaced → goesOn done t.panel)) ∧
        (s.panel.state = .sending → t.panel = { s.panel with fellInLoad := true }) ∧
        (s.panel.state = .idle → s.panel.full = none → s.panel.partials = [] →
          t.panel.busyWatch = none ∧ t.panel.state = .idle) ∧
        (s.panel.state = .faultWait ∨ s.panel.state = .dead → t.panel = s.panel) ∧
        OnlyChanges [.pins, .panel] s t) ∧
    (s.pins.busy = false →
      ∃ t, exec .panelBusyRise s = .next t ∧ t.pins = { s.pins with busy := true } ∧
        (s.panel.state = .idle → t.panel = { s.panel with busyWatch := watch }) ∧
        (s.panel.state ≠ .idle → t.panel = s.panel) ∧
        OnlyChanges [.pins, .panel] s t)

/-- The tests of the refresh choice at the expiry of a spacing or of a window entry, on an idle PAPER panel
with busy low and gap_any passed. An urgent FULL request starts a full refresh below W of the window, any other that
is not deferred below W − 1, and else waits and holds back every partial; with no FULL request an urgent PARTIAL
request of several groups that is not startable is turned into an urgent full refresh below W; with none, or a
deferred one, the first request not deferred and startable starts a partial refresh of all groups that pending
fields join to its group, which makes a forced FULL request where a count reaches the ghost limit
(R141, R142, R143, R144, R145). That these commands are tests of the choice is the model's choice (log entry 22),
and that a partial refresh carries the fields whose groups all lie in its mask its reading (DEDUCED, log entry 20). -/
def Obligations.RefreshStarts : Prop :=
  ∀ (c : Instr) (s : State), s.start.lifecycle ≠ .loading → s.panel.kind = .paper →
    s.panel.state = .idle → s.pins.busy = false → s.panel.gapAnyPassed s.panelEnv = true →
    c = .gapAnyExpiry ∨ c = .windowEntryExpiry ∨
      (∃ g : Fin 4, c = .gapSameExpiry g ∧ s.panel.gapSamePassed s.panelEnv (g.val + 1) = true) →
    (∀ r ∈ s.panel.partials, 1 ≤ r.group ∧ r.group ≤ 4) →
    let cfg := s.cfg.panel
    let counting := s.panel.window.filter
      (fun w => decide (s.clock < w.start + cfg.windowSeconds * 1000))
    let quieted : Prop := s.panel.quiet = true ∧ s.panel.level.emergency = false
    let linked (a b : Nat) : Prop := 1 ≤ b ∧ b ≤ 4 ∧ ∃ f ∈ s.panel.pending, a ∈ f.groups ∧ b ∈ f.groups
    let joined (g h : Nat) : Prop := h = g ∨ Relation.TransGen linked g h
    let startable (g : Nat) : Prop := ∀ h, joined g h → s.panel.gapSamePassed s.panelEnv h = true
    let ready (r : PartialRequest) : Prop := r ∈ s.panel.partials ∧
      (quieted → r.urgent = true ∨ r.exempt = true) ∧ startable r.group
    let first (r : PartialRequest) : Prop := ready r ∧ ∀ x, ready x →
      (r.urgent = true ∧ x.urgent = false) ∨ (r.urgent = x.urgent ∧
        (r.time < x.time ∨ (r.time = x.time ∧ r.group ≤ x.group)))
    let converted : Prop := s.panel.full = none ∧ counting.length < cfg.windowCount ∧
      ∃ r ∈ s.panel.partials, r.urgent = true ∧ (∃ h, joined r.group h ∧ h ≠ r.group) ∧
        ¬startable r.group
    let partialsOpen : Prop := (s.panel.full = none ∧ ¬converted) ∨
      ∃ r, s.panel.full = some r ∧ r.urgent = false ∧ r.forced = false ∧ quieted
    ∃ t, exec c s = .next t ∧ OnlyChanges [.panel] s t ∧
      let fullStarts (urgent forced : Bool) : Prop :=
        t.panel.state = .sending ∧ t.panel.refreshUrgent = urgent ∧
        t.panel.window = counting ++ [⟨s.clock, urgent⟩] ∧ t.panel.full = none ∧
        t.panel.partials = [] ∧ t.panel.pending = [] ∧
        t.panel.groups = s.panel.groups.map (fun g => { g with partialCount := 0 }) ∧
        t.panel.fullRefreshes = bump s.panel.fullRefreshes ∧
        t.panel.forcedFullRefreshes =
          (if forced then bump s.panel.forcedFullRefreshes else s.panel.forcedFullRefreshes) ∧
        ∃ load, t.panel.load = some load ∧ load.command = .refreshFull ∧
          load.records.map (fun x => x.num) = List.range 32
      let nothing : Prop := t.panel = { s.panel with window := counting }
      (∀ r, s.panel.full = some r → r.urgent = true →
        (counting.length < cfg.windowCount → fullStarts true r.forced) ∧
        (cfg.windowCount ≤ counting.length → nothing)) ∧
      (∀ r, s.panel.full = some r → r.urgent = false → (quieted → r.forced = true) →
        (counting.length < cfg.windowCount - 1 → fullStarts false r.forced) ∧
        (cfg.windowCount - 1 ≤ counting.length → nothing)) ∧
      (converted → fullStarts true false) ∧
      (∀ r, partialsOpen → first r → ∃ mask : List Nat,
        mask.Pairwise (· < ·) ∧ (∀ h, h ∈ mask ↔ joined r.group h) ∧
        let carried (f : PendingField) : Bool := decide (∀ g ∈ f.groups, g ∈ mask)
        t.panel.state = .sending ∧ t.panel.window = counting ∧
        (t.panel.refreshUrgent = true ↔
          ∃ x ∈ s.panel.partials, x.urgent = true ∧ x.group ∈ mask) ∧
        t.panel.partials = s.panel.partials.filter (fun x => decide (x.group ∉ mask)) ∧
        t.panel.pending = s.panel.pending.filter (fun f => !carried f) ∧
        (∀ (i : Nat) (g : GroupRecord), s.panel.groups[i]? = some g →
          t.panel.groups[i]? = some
            (if i + 1 ∈ mask then ⟨g.partialCount + 1, some s.clock⟩ else g)) ∧
        ((∃ (i : Nat) (g : GroupRecord), i + 1 ∈ mask ∧ t.panel.groups[i]? = some g ∧
            cfg.ghostLimit ≤ g.partialCount) →
          t.panel.full = some (match s.panel.full with
            | some x => { x with forced := true }
            | none => ⟨false, true⟩)) ∧
        ((∀ g ∈ t.panel.groups, g.partialCount < cfg.ghostLimit) →
          t.panel.full = s.panel.full) ∧
        t.panel.partialRefreshes = bump s.panel.partialRefreshes ∧
        ∃ load, t.panel.load = some load ∧ load.command = .refreshPartial mask ∧
          load.records.map (fun x => x.num) =
            (s.panel.pending.filter carried).map (fun x => x.num)) ∧
      (partialsOpen → (∀ r, ¬ready r) → nothing)

/-- Timeouts of a PAPER panel: a due refresh timeout in BUSY and a due busy watch in IDLE are counted and lead
to FAULT_WAIT, or on the third in a row to DEAD, with the fault line asserted; the retry makes every field pending
and a FULL request, urgent where the refresh that timed out or a pending request was, and leaves the timeout run;
the request waits for busy and gap_any and then starts as the window allows (R138, R140, R142, R143, R144, R147,
R181). That the refresh timeout acts whatever the busy input then shows is the model's choice (log entry 21), and
that DEAD is entered with pending fields and requests emptied its reading (DEDUCED, log entry 23), and that the
pending fields stand in the order of their numbers its choice (log entry 28). -/
def Obligations.PanelTimeouts : Prop :=
  ∀ (s : State) (d : Nat), s.start.lifecycle ≠ .loading → s.panel.kind = .paper → d ≤ s.clock →
    let late (t : State) : Prop :=
      t.panel.panelTimeouts = bump s.panel.panelTimeouts ∧
      t.panel.timeoutRun = s.panel.timeoutRun + 1 ∧ t.panel.refreshDeadline = none ∧
      t.panel.busyWatch = none ∧ t.panel.window = s.panel.window ∧
      t.panel.held = s.panel.held ∧
      (s.panel.timeoutRun < 2 → t.panel.state = .faultWait ∧
        t.panel.retryDeadline = some (s.clock + 30000) ∧ t.panel.pending = s.panel.pending ∧
        t.panel.full = s.panel.full ∧ t.panel.partials = s.panel.partials) ∧
      (2 ≤ s.panel.timeoutRun → t.panel.state = .dead ∧ t.panel.pending = [] ∧
        t.panel.full = none ∧ t.panel.partials = []) ∧
      t.ind = { s.ind with fault := true } ∧ OnlyChanges [.panel, .ind] s t
    (s.panel.state = .busy → s.panel.refreshDeadline = some d →
      ∃ t, exec .refreshTimeout s = .next t ∧ late t) ∧
    (s.panel.state = .idle → s.panel.busyWatch = some d →
      ∃ t, exec .busyWatchExpiry s = .next t ∧ late t) ∧
    (s.panel.state = .faultWait → s.panel.retryDeadline = some d →
      let cfg := s.cfg.panel
      let counting := s.panel.window.filter
        (fun w => decide (s.clock < w.start + cfg.windowSeconds * 1000))
      let urgent : Prop := s.panel.refreshUrgent = true ∨
        (∃ x ∈ s.panel.partials, x.urgent = true) ∨
        ∃ x, s.panel.full = some x ∧ x.urgent = true
      let passes : Prop := s.panel.quiet = false ∨ s.panel.level.emergency = true ∨
        ∃ x, s.panel.full = some x ∧ x.forced = true
      ∃ t, exec .retryDeadline s = .next t ∧ t.panel.retryDeadline = none ∧
        t.panel.timeoutRun = s.panel.timeoutRun ∧
        t.ind = { s.ind with fault := t.faultCondition } ∧
        (t.panel.state = .idle ∨ t.panel.state = .sending) ∧
        let waits : Prop := t.panel.state = .idle ∧
          t.panel.pending.map (fun x => x.num) = List.range 32 ∧
          t.panel.partials = s.panel.partials ∧
          ∃ r, t.panel.full = some r ∧ (r.urgent = true ↔ urgent)
        let starts (tag : Bool) : Prop := t.panel.state = .sending ∧
          t.panel.refreshUrgent = tag ∧ t.panel.full = none ∧ t.panel.partials = [] ∧
          t.panel.pending = [] ∧ t.panel.window = counting ++ [⟨s.clock, tag⟩] ∧
          t.panel.busyWatch = none ∧ t.panel.fullRefreshes = bump s.panel.fullRefreshes ∧
          ∃ load, t.panel.load = some load ∧ load.command = .refreshFull ∧
            load.records.map (fun x => x.num) = List.range 32
        (s.pins.busy = true →
          waits ∧ t.panel.busyWatch = some (s.clock + cfg.refreshTimeout * 1000)) ∧
        (s.pins.busy = false → t.panel.state = .idle → t.panel.busyWatch = none) ∧
        (s.pins.busy = false → s.panel.gapAnyPassed s.panelEnv = false → waits) ∧
        (s.pins.busy = false → s.panel.gapAnyPassed s.panelEnv = true →
          (urgent → counting.length < cfg.windowCount → starts true) ∧
          (urgent → cfg.windowCount ≤ counting.length → waits) ∧
          (¬urgent → passes → counting.length < cfg.windowCount - 1 → starts false) ∧
          (¬urgent → passes → cfg.windowCount - 1 ≤ counting.length → waits) ∧
          (¬urgent → ¬passes → t.panel.full ≠ none) ∧
          (¬urgent → ¬passes → s.panel.partials = [] → waits)) ∧
        OnlyChanges [.panel, .ind] s t)

/-- A LIT panel and the lamp: the end of a load brings IDLE or the next load, a ramp tick moves the level by the
step of R150, an edge of the blink generator drives the lamp line for the level and makes every BLINK field
pending, and an ABANDON lamp edge drives the lamp at twice the rate (R148, R150, R180). -/
def Obligations.LitPanelAndLamp : Prop :=
  ∀ s : State,
    let period := s.cfg.blinkPeriod
    let on := decide (s.clock % period < s.cfg.blinkOnTime)
    let blinking (n : Nat) : Prop := ∃ h ∈ s.panel.held, h.record.num = n ∧ h.record.attr = .blink
    (s.start.lifecycle ≠ .loading → s.panel.kind = .lit → s.panel.state = .sending →
      ∃ t, exec .loadEnd s = .next t ∧ OnlyChanges [.panel] s t ∧
        (s.panel.pageMark = false → s.panel.pending = [] →
          t.panel = { s.panel with state := .idle, load := none }) ∧
        (s.panel.pageMark = true → t.panel.state = .sending ∧ t.panel.pageMark = false ∧
          t.panel.pending = [] ∧ t.panel.fullRefreshes = bump s.panel.fullRefreshes) ∧
        (s.panel.pageMark = false → s.panel.pending ≠ [] → t.panel.state = .sending ∧
          t.panel.pending = [] ∧ t.panel.partialRefreshes = bump s.panel.partialRefreshes)) ∧
    (∀ d g, s.start.lifecycle ≠ .loading → s.panel.rampTick = some d → s.panel.target = some g →
      d ≤ s.clock →
      let size := min s.cfg.panel.rampMaximum
        (s.cfg.panel.rampInitial + s.cfg.panel.rampAcceleration * s.panel.stepCount)
      let level := if s.panel.luminance ≤ g then min g (s.panel.luminance + size)
        else max g (s.panel.luminance - size)
      ∃ t, exec .rampTick s = .next t ∧ OnlyChanges [.panel] s t ∧
        t.panel = { s.panel with
          luminance := level, stepCount := s.panel.stepCount + 1
          rampTick := if level = g then none else some (d + 10) }) ∧
    (s.ind.phaseOn ≠ on →
      ∃ t, exec .blinkEdge s = .next t ∧ OnlyChanges [.ind, .panel] s t ∧
        t.ind = { s.ind with
          phaseOn := on
          lamp := match s.ind.level with
            | .normal => false
            | .alert => true
            | .general => on
            | .abandon => decide (s.clock % (period / 2) < s.cfg.blinkOnTime / 2) } ∧
        (s.panel.kind = .paper ∨ (∀ n, ¬blinking n) → t.panel = s.panel) ∧
        (s.panel.kind = .lit → s.panel.state = .sending →
          t.panel.state = .sending ∧ t.panel.load = s.panel.load ∧
          ∀ n, (∃ x ∈ t.panel.pending, x.num = n) ↔ (∃ x ∈ s.panel.pending, x.num = n) ∨ blinking n) ∧
        (s.panel.kind = .lit → s.panel.state = .idle → (∃ n, blinking n) →
          t.panel.state = .sending ∧ t.panel.pending = [])) ∧
    (s.ind.level = .abandon →
      ∃ t, exec .abandonLampEdge s = .next t ∧ OnlyChanges [.ind] s t ∧
        t.ind = { s.ind with
          lamp := decide (s.clock % (period / 2) < s.cfg.blinkOnTime / 2) })

/-- The fault line is asserted exactly while the node is in CONFIG_FAULT, the PAPER panel is in FAULT_WAIT or
DEAD, or a port in use is DOWN: every step keeps it so (R181). -/
def Obligations.FaultLineStands : Prop :=
  ∀ s t : State, s.faultLaw → step s = .next t → t.faultLaw ∧
    (t.ind.fault = true ↔ t.start.lifecycle = .configFault ∨
      (t.panel.kind = .paper ∧ (t.panel.state = .faultWait ∨ t.panel.state = .dead)) ∨
      ∃ p, (t.ports.get p).inUse = true ∧ (t.ports.get p).state = .down)

/-! ### Status responder (chapter 12) -/

/-- A well-formed QUERY at a running node: in OPERATING, with this node as target, the reply to its item and
argument, laid out item by item, is requested on the port it arrived on and the query counted; else nothing
happens; a reply of the PANEL item also drops the window entries that no longer count (R142, R177, R178, R179). The
queue key of an UNKNOWN reply, the octets of the yes or no fields, of the UNSET flag, of RUNNING, OPEN and PAPER, of
a displayed distance of none and of an EMPTY cell, and the bits of the route flags, are the model's choices (log
entry 29). -/
def Obligations.QueryTaken : Prop :=
  ∀ (p : Port) (f : RxFrame) (q : QueryPayload) (s : State), s.hears p f →
    parseQuery f.payload = some q →
    ∃ t, exec (.queryFrame p f) s = .next t ∧
      (s.start.lifecycle ≠ .operating ∨ q.target ≠ s.cfg.nodeNumber →
        OnlyChanges [.ports, .ind] s t ∧ (s.ports.get p).countsFrame (t.ports.get p)) ∧
      (s.start.lifecycle = .operating → q.target = s.cfg.nodeNumber →
        t.status = { s.status with queriesAnswered := bump s.status.queriesAnswered } ∧
        let u := (s.noteGood p).countReceived p
        let opt (width : Nat) (x : Option (List Byte)) : List Byte := match x with
          | some octets => 1#8 :: octets
          | none => List.replicate (width + 1) 0#8
        let yes (x : Bool) : List Byte := if x then [1#8] else [0#8]
        let signed (width : Nat) (x : Int) : Nat := (x % (2 ^ (8 * width) : Nat)).toNat
        let flags (stair boundary : Bool) : List Byte :=
          octets1 ((if stair then 1 else 0) + (if boundary then 2 else 0))
        let counting := s.panel.window.filter
          (fun w => decide (s.clock < w.start + s.cfg.panel.windowSeconds * 1000))
        let perPort (g : PortCtl → Nat) : List Nat :=
          [if u.ports.a.inUse then g u.ports.a else 0, if u.ports.b.inUse then g u.ports.b else 0]
        let report (r : ZoneReport) : List Byte :=
          octets2 r.origin ++ octets1 r.number ++ octets1 r.sequence ++ octets1 r.zone ++
            octets1 r.deckLow ++ octets1 r.deckHigh ++ octets1 r.state.code ++ octets4 r.received
        let cell (c : Cell) : List Byte :=
          octets1 c.state.code ++ octets2 c.cost ++ octets1 c.hop ++ octets2 c.nextNode ++
            flags c.viaStair c.viaBoundary ++ octets4 c.refreshed
        let route (e : RouteEntry) : List Byte :=
          octets1 e.dest ++ octets1 e.kind.code ++ octets1 e.state.code ++ yes e.pinned ++
            octets2 e.cost ++ octets1 e.hop ++ flags e.viaStair e.viaBoundary ++
            (match e.nextHop with
              | .slot n => octets1 n ++ octets2 ((s.cfg.neighbours[n]?.map (fun l => l.node)).getD 0)
              | .self => [6#8, 0#8, 0#8]
              | .none => [7#8, 0#8, 0#8]) ++
            (match figuresOf s.cfg e with
              | .here => [255#8, 0#8, 0#8, 0#8]
              | .noRoute => [255#8, 0#8, 0#8, 0#8]
              | .route metres more bearing =>
                octets1 ((bearing.map (fun b => b.code)).getD 255) ++ octets2 metres ++ yes more) ++
            e.cells.flatMap cell
        let capture (c : Capture) : List Byte :=
          (match c.time with
            | .ship seconds millis => [0#8] ++ octets4 seconds ++ octets2 millis
            | .clock value => [1#8] ++ octets4 value ++ [0#8, 0#8]) ++
            octets1 c.setNumber ++ yes c.chained ++ octets1 c.factor.captureCode ++ octets2 c.detail
        let counters : List Nat := match q.argument with
          | 0 => perPort (fun c => c.framesReceived) ++
              [s.bus.lengthErrors, s.bus.checkErrors, s.bus.unknownClasses, s.bus.malformedFrames,
                s.bus.relayedCopies] ++
              perPort (fun c => c.framesSent) ++ perPort (fun c => c.arbitrationLosses) ++
              perPort (fun c => c.transmitFaults) ++ perPort (fun c => c.queueDrops) ++
              perPort (fun c => c.downEntries) ++ perPort (fun c => c.lostAtDown) ++
              perPort (fun c => c.refusedWhileDown) ++ [s.status.queriesAnswered]
          | 1 => [s.route.nonNeighbourAdverts, s.route.skippedEntries, s.route.droppedDestinations,
              s.route.evictedEntries, s.route.flushedEntries, s.route.holdDownsEntered]
          | 2 => [s.alarm.olderAlarmFrames, s.alarm.droppedReports, s.alarm.evictedReports,
              s.alarm.otherEpochReassignments, s.muster.switchesOnLoss, s.muster.returns]
          | 3 => [s.prog.clampedItems, s.prog.tombstoneHits, s.prog.droppedItems,
              s.prog.evictedItems, s.prog.withdrawnItems, s.prog.evictedTombstones,
              s.prog.expiredItems, s.prog.spotlightOverflows]
          | 4 => [s.cabin.rejectedBounces, s.cabin.ignoredButtonEdges, s.cabin.staleServiceDone,
              s.time.stepsTaken, s.time.unconfirmedSteps, s.time.unusableBeacons,
              s.time.refusedSources]
          | 5 => [s.trig.activations, s.trig.expiries, s.trig.suspensions, s.page.pageChanges,
              s.page.refusedRequests, s.panel.fullRefreshes, s.panel.partialRefreshes,
              s.panel.forcedFullRefreshes, s.panel.panelTimeouts, s.start.clamps,
              s.start.solicitsAnswered, s.start.suppressedItems]
          | _ => []
        (q.item = 7 → t.panel = { s.panel with window := counting }) ∧
        (q.item ≠ 7 → t.panel = s.panel) ∧
        ∃ code data, t.ports = (u.request p .status (.statusItem code q.argument)
            (.fixed (s.ownFrame .status (octets1 code ++ octets1 q.argument ++ data)))).ports ∧
          (q.item = 0 → data = octets2 s.cfg.nodeNumber ++ octets1 s.cfg.deck ++
            octets1 s.cfg.zone ++ octets1 s.cfg.role.code ++
            (if s.start.configGood = some true then [0#8] else [1#8]) ++
            yes s.start.clamped ++ octets1 s.start.cause.code ++
            octets1 s.start.startCount ++ octets1 s.start.lifecycle.code) ∧
          (q.item = 1 → data = octets1 s.time.state.code ++ octets4 (s.shipMs / 1000) ++
            octets2 (s.shipMs % 1000) ++ opt 1 (s.time.ownStratum.map octets1) ++
            opt 2 (s.time.selected.map octets2) ++ octets1 s.time.sources.length ++
            octets2 (signed 2 s.time.slewRemaining) ++
            opt 4 (s.time.confirm.map (fun r => octets4 (signed 4 r)))) ∧
          (q.item = 2 → data = opt 2 (s.alarm.epoch.map octets2) ++
            octets1 s.alarm.level.code ++ octets2 s.alarm.origin ++
            opt 4 (s.alarm.changedAt.map octets4)) ∧
          (q.item = 3 → data = octets1 s.alarm.reports.length ++
            opt 12 (s.alarm.reports[q.argument]?.map report)) ∧
          (q.item = 4 → data =
            opt 81 ((s.route.entries.find? (fun e => e.dest == q.argument)).map route)) ∧
          (q.item = 5 → data = opt 1 (s.muster.kind.map (fun k => octets1 k.code)) ++
            opt 1 (s.muster.dest.map octets1) ++
            opt 1 (s.muster.rank.map (fun r => octets1 r.code)) ++
            opt 1 (s.muster.candidate.map octets1) ++
            opt 1 (s.muster.candidateRank.map (fun r => octets1 r.code)) ++
            opt 4 (s.muster.returnDeadline.map octets4)) ∧
          (q.item = 6 → data = octets1 s.prog.items.length ++ octets1 s.prog.tombstones.length ++
            octets2 (s.prog.items.foldl
              (fun x i => x ^^^ BitVec.ofNat 16 (i.id * 256 + i.version)) 0#16).toNat) ∧
          (q.item = 7 → data = yes (decide (s.panel.kind = .lit)) ++
            octets1 s.panel.state.code ++
            octets1 (if s.panel.kind = .paper then counting.length else 0) ++
            octets1 s.panel.timeoutRun ++ octets2 s.panel.panelTimeouts ++
            octets1 ((s.panel.partials.map (fun r => 2 ^ (r.group - 1))).sum) ++
            yes s.panel.full.isSome ++ octets2 s.panel.luminance ++
            opt 2 (s.panel.target.map octets2)) ∧
          (q.item = 8 → data = octets1 counters.length ++ counters.flatMap octets2) ∧
          (q.item = 9 → data =
            opt 12 ((s.trig.captures[q.argument]?).join.map capture) ++
            s.trig.sets.flatMap (fun x => octets1 x.state.code) ++
            s.trig.timers.flatMap
              (fun x => (if x.running then [0#8] else [1#8]) ++ octets2 x.count)) ∧
          (q.item = 10 → s.cfg.role = .cabin → data = [0#8] ++ octets1 s.cabin.sweep.code ++
            octets3 (s.cabin.sweepMinute.getD 16777215) ++ octets1 s.cabin.service.code ++
            octets1 s.cabin.request ++
            opt 1 (s.cabin.contact.map (fun isOpen => if isOpen then [0#8] else [1#8]))) ∧
          (q.item = 10 → s.cfg.role ≠ .cabin →
            (s.cabin.tally = none → data = [2#8]) ∧
            ∀ l, s.cabin.tally = some l → data = [1#8] ++ octets1 l.length ++
              octets1 (uncheckedCount l) ++ octets1 (assistCount l)) ∧
          (q.item ≤ 10 → code = q.item) ∧
          (10 < q.item → code = 255 ∧ data = octets1 q.item)) ∧
      OnlyChanges [.ports, .status, .panel, .ind] s t
end

