-- ==== Sys2Proof/Laws/Lists.lean ====
section
/-! SUPPORT. The ordered lists of the node: what inserting into one and choosing the least of one give. -/

namespace Sys2Proof.Machine

variable {α : Type} {lt : α → α → Bool}

@[simp] theorem mem_insertBy (x y : α) (l : List α) : y ∈ insertBy lt x l ↔ y = x ∨ y ∈ l := by
  induction l with
  | nil => simp [insertBy]
  | cons z zs ih =>
    unfold insertBy
    split
    · simp
    · simp only [List.mem_cons, ih]
      constructor
      · rintro (h | h | h)
        · exact .inr (.inl h)
        · exact .inl h
        · exact .inr (.inr h)
      · rintro (h | h | h)
        · exact .inr (.inl h)
        · exact .inl h
        · exact .inr (.inr h)

@[simp] theorem length_insertBy (x : α) (l : List α) : (insertBy lt x l).length = l.length + 1 := by
  induction l with
  | nil => rfl
  | cons z zs ih =>
    unfold insertBy
    split
    · rfl
    · simp [ih]

theorem insertBy_ne_nil (x : α) (l : List α) : insertBy lt x l ≠ [] := by
  intro h
  have := congrArg List.length h
  simp at this

/-- Inserting keeps an order that the test respects. -/
theorem pairwise_insertBy {R : α → α → Prop} (x : α) (l : List α) (h : l.Pairwise R)
    (before : ∀ y ∈ l, lt x y = true → R x y) (after : ∀ y ∈ l, lt x y = false → R y x)
    (trans : ∀ y ∈ l, ∀ z ∈ l, R x y → R y z → R x z) : (insertBy lt x l).Pairwise R := by
  induction l with
  | nil => simp [insertBy]
  | cons y ys ih =>
    obtain ⟨hy, hys⟩ := List.pairwise_cons.mp h
    unfold insertBy
    by_cases c : lt x y = true
    · rw [if_pos c]
      have xy := before y (by simp) c
      refine List.pairwise_cons.mpr ⟨?_, h⟩
      intro z hz
      rcases List.mem_cons.mp hz with rfl | hz
      · exact xy
      · exact trans y (by simp) z (by simp [hz]) xy (hy z hz)
    · rw [if_neg c]
      have yx := after y (by simp) (by simpa using c)
      refine List.pairwise_cons.mpr ⟨?_, ih hys ?_ ?_ ?_⟩
      · intro z hz
        rcases (mem_insertBy x z ys).mp hz with rfl | hz
        · exact yx
        · exact hy z hz
      · exact fun z hz => before z (by simp [hz])
      · exact fun z hz => after z (by simp [hz])
      · exact fun z hz w hw => trans z (by simp [hz]) w (by simp [hw])

theorem leastBy_none {l : List α} (h : leastBy lt l = none) : l = [] := by
  cases l with
  | nil => rfl
  | cons x xs =>
    unfold leastBy at h
    split at h
    · cases h
    · split at h <;> cases h

theorem leastBy_mem {l : List α} {m : α} (h : leastBy lt l = some m) : m ∈ l := by
  induction l generalizing m with
  | nil => cases h
  | cons x xs ih =>
    unfold leastBy at h
    split at h
    · cases h
      simp
    · rename_i y hy
      split at h
      · cases h
        exact List.mem_cons_of_mem _ (ih hy)
      · cases h
        simp

/-- No element precedes the chosen one, where "does not precede" is transitive and total. -/
theorem leastBy_least {l : List α} {m : α} (total : ∀ a b, lt a b = true → lt b a = false)
    (irrefl : ∀ a, lt a a = false)
    (trans : ∀ a b c, lt b a = false → lt c b = false → lt c a = false)
    (h : leastBy lt l = some m) : ∀ y ∈ l, lt y m = false := by
  induction l generalizing m with
  | nil => cases h
  | cons x xs ih =>
    unfold leastBy at h
    split at h
    · rename_i hn
      cases h
      have := leastBy_none hn
      subst this
      intro y hy
      simp at hy
      exact hy ▸ irrefl _
    · rename_i w hw
      split at h
      · rename_i c
        cases h
        intro y hy
        rcases List.mem_cons.mp hy with rfl | hy
        · exact total _ _ c
        · exact ih hw y hy
      · rename_i c
        cases h
        intro y hy
        rcases List.mem_cons.mp hy with rfl | hy
        · exact irrefl _
        · exact trans _ _ _ (by simpa using c) (ih hw y hy)

end Sys2Proof.Machine
end

