-- ==== Sys2Proof/Laws/State.lean ====
section
/-! SUPPORT. What each named update of the state leaves and what it sets: one lemma for each field, true by
`rfl`, so that no later proof unfolds a record update. -/

namespace Sys2Proof.Machine

/-! ### pageDo -/

@[simp] theorem State.pageDo_clock (s : State) (f : PageSelector → PageSelector) : (s.pageDo f).clock = s.clock := rfl
@[simp] theorem State.pageDo_start (s : State) (f : PageSelector → PageSelector) : (s.pageDo f).start = s.start := rfl
@[simp] theorem State.pageDo_ports (s : State) (f : PageSelector → PageSelector) : (s.pageDo f).ports = s.ports := rfl
@[simp] theorem State.pageDo_bus (s : State) (f : PageSelector → PageSelector) : (s.pageDo f).bus = s.bus := rfl
@[simp] theorem State.pageDo_time (s : State) (f : PageSelector → PageSelector) : (s.pageDo f).time = s.time := rfl
@[simp] theorem State.pageDo_alarm (s : State) (f : PageSelector → PageSelector) : (s.pageDo f).alarm = s.alarm := rfl
@[simp] theorem State.pageDo_route (s : State) (f : PageSelector → PageSelector) : (s.pageDo f).route = s.route := rfl
@[simp] theorem State.pageDo_muster (s : State) (f : PageSelector → PageSelector) : (s.pageDo f).muster = s.muster := rfl
@[simp] theorem State.pageDo_prog (s : State) (f : PageSelector → PageSelector) : (s.pageDo f).prog = s.prog := rfl
@[simp] theorem State.pageDo_cabin (s : State) (f : PageSelector → PageSelector) : (s.pageDo f).cabin = s.cabin := rfl
@[simp] theorem State.pageDo_trig (s : State) (f : PageSelector → PageSelector) : (s.pageDo f).trig = s.trig := rfl
@[simp] theorem State.pageDo_page (s : State) (f : PageSelector → PageSelector) : (s.pageDo f).page = f s.page := rfl
@[simp] theorem State.pageDo_panel (s : State) (f : PageSelector → PageSelector) : (s.pageDo f).panel = s.panel := rfl
@[simp] theorem State.pageDo_ind (s : State) (f : PageSelector → PageSelector) : (s.pageDo f).ind = s.ind := rfl
@[simp] theorem State.pageDo_status (s : State) (f : PageSelector → PageSelector) : (s.pageDo f).status = s.status := rfl
@[simp] theorem State.pageDo_pins (s : State) (f : PageSelector → PageSelector) : (s.pageDo f).pins = s.pins := rfl
@[simp] theorem State.pageDo_pending (s : State) (f : PageSelector → PageSelector) : (s.pageDo f).pending = s.pending := rfl

/-! ### panelDo -/

@[simp] theorem State.panelDo_clock (s : State) (f : PanelEnv → PanelCtl → PanelCtl) : (s.panelDo f).clock = s.clock := rfl
@[simp] theorem State.panelDo_start (s : State) (f : PanelEnv → PanelCtl → PanelCtl) : (s.panelDo f).start = s.start := rfl
@[simp] theorem State.panelDo_ports (s : State) (f : PanelEnv → PanelCtl → PanelCtl) : (s.panelDo f).ports = s.ports := rfl
@[simp] theorem State.panelDo_bus (s : State) (f : PanelEnv → PanelCtl → PanelCtl) : (s.panelDo f).bus = s.bus := rfl
@[simp] theorem State.panelDo_time (s : State) (f : PanelEnv → PanelCtl → PanelCtl) : (s.panelDo f).time = s.time := rfl
@[simp] theorem State.panelDo_alarm (s : State) (f : PanelEnv → PanelCtl → PanelCtl) : (s.panelDo f).alarm = s.alarm := rfl
@[simp] theorem State.panelDo_route (s : State) (f : PanelEnv → PanelCtl → PanelCtl) : (s.panelDo f).route = s.route := rfl
@[simp] theorem State.panelDo_muster (s : State) (f : PanelEnv → PanelCtl → PanelCtl) : (s.panelDo f).muster = s.muster := rfl
@[simp] theorem State.panelDo_prog (s : State) (f : PanelEnv → PanelCtl → PanelCtl) : (s.panelDo f).prog = s.prog := rfl
@[simp] theorem State.panelDo_cabin (s : State) (f : PanelEnv → PanelCtl → PanelCtl) : (s.panelDo f).cabin = s.cabin := rfl
@[simp] theorem State.panelDo_trig (s : State) (f : PanelEnv → PanelCtl → PanelCtl) : (s.panelDo f).trig = s.trig := rfl
@[simp] theorem State.panelDo_page (s : State) (f : PanelEnv → PanelCtl → PanelCtl) : (s.panelDo f).page = s.page := rfl
@[simp] theorem State.panelDo_panel (s : State) (f : PanelEnv → PanelCtl → PanelCtl) : (s.panelDo f).panel = f s.panelEnv s.panel := rfl
@[simp] theorem State.panelDo_ind (s : State) (f : PanelEnv → PanelCtl → PanelCtl) : (s.panelDo f).ind = s.ind := rfl
@[simp] theorem State.panelDo_status (s : State) (f : PanelEnv → PanelCtl → PanelCtl) : (s.panelDo f).status = s.status := rfl
@[simp] theorem State.panelDo_pins (s : State) (f : PanelEnv → PanelCtl → PanelCtl) : (s.panelDo f).pins = s.pins := rfl
@[simp] theorem State.panelDo_pending (s : State) (f : PanelEnv → PanelCtl → PanelCtl) : (s.panelDo f).pending = s.pending := rfl

/-! ### trigDo -/

@[simp] theorem State.trigDo_clock (s : State) (f : TriggerUnit → TriggerUnit) : (s.trigDo f).clock = s.clock := rfl
@[simp] theorem State.trigDo_start (s : State) (f : TriggerUnit → TriggerUnit) : (s.trigDo f).start = s.start := rfl
@[simp] theorem State.trigDo_ports (s : State) (f : TriggerUnit → TriggerUnit) : (s.trigDo f).ports = s.ports := rfl
@[simp] theorem State.trigDo_bus (s : State) (f : TriggerUnit → TriggerUnit) : (s.trigDo f).bus = s.bus := rfl
@[simp] theorem State.trigDo_time (s : State) (f : TriggerUnit → TriggerUnit) : (s.trigDo f).time = s.time := rfl
@[simp] theorem State.trigDo_alarm (s : State) (f : TriggerUnit → TriggerUnit) : (s.trigDo f).alarm = s.alarm := rfl
@[simp] theorem State.trigDo_route (s : State) (f : TriggerUnit → TriggerUnit) : (s.trigDo f).route = s.route := rfl
@[simp] theorem State.trigDo_muster (s : State) (f : TriggerUnit → TriggerUnit) : (s.trigDo f).muster = s.muster := rfl
@[simp] theorem State.trigDo_prog (s : State) (f : TriggerUnit → TriggerUnit) : (s.trigDo f).prog = s.prog := rfl
@[simp] theorem State.trigDo_cabin (s : State) (f : TriggerUnit → TriggerUnit) : (s.trigDo f).cabin = s.cabin := rfl
@[simp] theorem State.trigDo_trig (s : State) (f : TriggerUnit → TriggerUnit) : (s.trigDo f).trig = f s.trig := rfl
@[simp] theorem State.trigDo_page (s : State) (f : TriggerUnit → TriggerUnit) : (s.trigDo f).page = s.page := rfl
@[simp] theorem State.trigDo_panel (s : State) (f : TriggerUnit → TriggerUnit) : (s.trigDo f).panel = s.panel := rfl
@[simp] theorem State.trigDo_ind (s : State) (f : TriggerUnit → TriggerUnit) : (s.trigDo f).ind = s.ind := rfl
@[simp] theorem State.trigDo_status (s : State) (f : TriggerUnit → TriggerUnit) : (s.trigDo f).status = s.status := rfl
@[simp] theorem State.trigDo_pins (s : State) (f : TriggerUnit → TriggerUnit) : (s.trigDo f).pins = s.pins := rfl
@[simp] theorem State.trigDo_pending (s : State) (f : TriggerUnit → TriggerUnit) : (s.trigDo f).pending = s.pending := rfl

/-! ### musterDo -/

@[simp] theorem State.musterDo_clock (s : State) (f : MusterSelector → MusterSelector) : (s.musterDo f).clock = s.clock := rfl
@[simp] theorem State.musterDo_start (s : State) (f : MusterSelector → MusterSelector) : (s.musterDo f).start = s.start := rfl
@[simp] theorem State.musterDo_ports (s : State) (f : MusterSelector → MusterSelector) : (s.musterDo f).ports = s.ports := rfl
@[simp] theorem State.musterDo_bus (s : State) (f : MusterSelector → MusterSelector) : (s.musterDo f).bus = s.bus := rfl
@[simp] theorem State.musterDo_time (s : State) (f : MusterSelector → MusterSelector) : (s.musterDo f).time = s.time := rfl
@[simp] theorem State.musterDo_alarm (s : State) (f : MusterSelector → MusterSelector) : (s.musterDo f).alarm = s.alarm := rfl
@[simp] theorem State.musterDo_route (s : State) (f : MusterSelector → MusterSelector) : (s.musterDo f).route = s.route := rfl
@[simp] theorem State.musterDo_muster (s : State) (f : MusterSelector → MusterSelector) : (s.musterDo f).muster = f s.muster := rfl
@[simp] theorem State.musterDo_prog (s : State) (f : MusterSelector → MusterSelector) : (s.musterDo f).prog = s.prog := rfl
@[simp] theorem State.musterDo_cabin (s : State) (f : MusterSelector → MusterSelector) : (s.musterDo f).cabin = s.cabin := rfl
@[simp] theorem State.musterDo_trig (s : State) (f : MusterSelector → MusterSelector) : (s.musterDo f).trig = s.trig := rfl
@[simp] theorem State.musterDo_page (s : State) (f : MusterSelector → MusterSelector) : (s.musterDo f).page = s.page := rfl
@[simp] theorem State.musterDo_panel (s : State) (f : MusterSelector → MusterSelector) : (s.musterDo f).panel = s.panel := rfl
@[simp] theorem State.musterDo_ind (s : State) (f : MusterSelector → MusterSelector) : (s.musterDo f).ind = s.ind := rfl
@[simp] theorem State.musterDo_status (s : State) (f : MusterSelector → MusterSelector) : (s.musterDo f).status = s.status := rfl
@[simp] theorem State.musterDo_pins (s : State) (f : MusterSelector → MusterSelector) : (s.musterDo f).pins = s.pins := rfl
@[simp] theorem State.musterDo_pending (s : State) (f : MusterSelector → MusterSelector) : (s.musterDo f).pending = s.pending := rfl

/-! ### progDo -/

@[simp] theorem State.progDo_clock (s : State) (f : ProgrammeStore → ProgrammeStore) : (s.progDo f).clock = s.clock := rfl
@[simp] theorem State.progDo_start (s : State) (f : ProgrammeStore → ProgrammeStore) : (s.progDo f).start = s.start := rfl
@[simp] theorem State.progDo_ports (s : State) (f : ProgrammeStore → ProgrammeStore) : (s.progDo f).ports = s.ports := rfl
@[simp] theorem State.progDo_bus (s : State) (f : ProgrammeStore → ProgrammeStore) : (s.progDo f).bus = s.bus := rfl
@[simp] theorem State.progDo_time (s : State) (f : ProgrammeStore → ProgrammeStore) : (s.progDo f).time = s.time := rfl
@[simp] theorem State.progDo_alarm (s : State) (f : ProgrammeStore → ProgrammeStore) : (s.progDo f).alarm = s.alarm := rfl
@[simp] theorem State.progDo_route (s : State) (f : ProgrammeStore → ProgrammeStore) : (s.progDo f).route = s.route := rfl
@[simp] theorem State.progDo_muster (s : State) (f : ProgrammeStore → ProgrammeStore) : (s.progDo f).muster = s.muster := rfl
@[simp] theorem State.progDo_prog (s : State) (f : ProgrammeStore → ProgrammeStore) : (s.progDo f).prog = f s.prog := rfl
@[simp] theorem State.progDo_cabin (s : State) (f : ProgrammeStore → ProgrammeStore) : (s.progDo f).cabin = s.cabin := rfl
@[simp] theorem State.progDo_trig (s : State) (f : ProgrammeStore → ProgrammeStore) : (s.progDo f).trig = s.trig := rfl
@[simp] theorem State.progDo_page (s : State) (f : ProgrammeStore → ProgrammeStore) : (s.progDo f).page = s.page := rfl
@[simp] theorem State.progDo_panel (s : State) (f : ProgrammeStore → ProgrammeStore) : (s.progDo f).panel = s.panel := rfl
@[simp] theorem State.progDo_ind (s : State) (f : ProgrammeStore → ProgrammeStore) : (s.progDo f).ind = s.ind := rfl
@[simp] theorem State.progDo_status (s : State) (f : ProgrammeStore → ProgrammeStore) : (s.progDo f).status = s.status := rfl
@[simp] theorem State.progDo_pins (s : State) (f : ProgrammeStore → ProgrammeStore) : (s.progDo f).pins = s.pins := rfl
@[simp] theorem State.progDo_pending (s : State) (f : ProgrammeStore → ProgrammeStore) : (s.progDo f).pending = s.pending := rfl

/-! ### cabinDo -/

@[simp] theorem State.cabinDo_clock (s : State) (f : CabinUnit → CabinUnit) : (s.cabinDo f).clock = s.clock := rfl
@[simp] theorem State.cabinDo_start (s : State) (f : CabinUnit → CabinUnit) : (s.cabinDo f).start = s.start := rfl
@[simp] theorem State.cabinDo_ports (s : State) (f : CabinUnit → CabinUnit) : (s.cabinDo f).ports = s.ports := rfl
@[simp] theorem State.cabinDo_bus (s : State) (f : CabinUnit → CabinUnit) : (s.cabinDo f).bus = s.bus := rfl
@[simp] theorem State.cabinDo_time (s : State) (f : CabinUnit → CabinUnit) : (s.cabinDo f).time = s.time := rfl
@[simp] theorem State.cabinDo_alarm (s : State) (f : CabinUnit → CabinUnit) : (s.cabinDo f).alarm = s.alarm := rfl
@[simp] theorem State.cabinDo_route (s : State) (f : CabinUnit → CabinUnit) : (s.cabinDo f).route = s.route := rfl
@[simp] theorem State.cabinDo_muster (s : State) (f : CabinUnit → CabinUnit) : (s.cabinDo f).muster = s.muster := rfl
@[simp] theorem State.cabinDo_prog (s : State) (f : CabinUnit → CabinUnit) : (s.cabinDo f).prog = s.prog := rfl
@[simp] theorem State.cabinDo_cabin (s : State) (f : CabinUnit → CabinUnit) : (s.cabinDo f).cabin = f s.cabin := rfl
@[simp] theorem State.cabinDo_trig (s : State) (f : CabinUnit → CabinUnit) : (s.cabinDo f).trig = s.trig := rfl
@[simp] theorem State.cabinDo_page (s : State) (f : CabinUnit → CabinUnit) : (s.cabinDo f).page = s.page := rfl
@[simp] theorem State.cabinDo_panel (s : State) (f : CabinUnit → CabinUnit) : (s.cabinDo f).panel = s.panel := rfl
@[simp] theorem State.cabinDo_ind (s : State) (f : CabinUnit → CabinUnit) : (s.cabinDo f).ind = s.ind := rfl
@[simp] theorem State.cabinDo_status (s : State) (f : CabinUnit → CabinUnit) : (s.cabinDo f).status = s.status := rfl
@[simp] theorem State.cabinDo_pins (s : State) (f : CabinUnit → CabinUnit) : (s.cabinDo f).pins = s.pins := rfl
@[simp] theorem State.cabinDo_pending (s : State) (f : CabinUnit → CabinUnit) : (s.cabinDo f).pending = s.pending := rfl

/-! ### timeDo -/

@[simp] theorem State.timeDo_clock (s : State) (f : TimeUnit → TimeUnit) : (s.timeDo f).clock = s.clock := rfl
@[simp] theorem State.timeDo_start (s : State) (f : TimeUnit → TimeUnit) : (s.timeDo f).start = s.start := rfl
@[simp] theorem State.timeDo_ports (s : State) (f : TimeUnit → TimeUnit) : (s.timeDo f).ports = s.ports := rfl
@[simp] theorem State.timeDo_bus (s : State) (f : TimeUnit → TimeUnit) : (s.timeDo f).bus = s.bus := rfl
@[simp] theorem State.timeDo_time (s : State) (f : TimeUnit → TimeUnit) : (s.timeDo f).time = f s.time := rfl
@[simp] theorem State.timeDo_alarm (s : State) (f : TimeUnit → TimeUnit) : (s.timeDo f).alarm = s.alarm := rfl
@[simp] theorem State.timeDo_route (s : State) (f : TimeUnit → TimeUnit) : (s.timeDo f).route = s.route := rfl
@[simp] theorem State.timeDo_muster (s : State) (f : TimeUnit → TimeUnit) : (s.timeDo f).muster = s.muster := rfl
@[simp] theorem State.timeDo_prog (s : State) (f : TimeUnit → TimeUnit) : (s.timeDo f).prog = s.prog := rfl
@[simp] theorem State.timeDo_cabin (s : State) (f : TimeUnit → TimeUnit) : (s.timeDo f).cabin = s.cabin := rfl
@[simp] theorem State.timeDo_trig (s : State) (f : TimeUnit → TimeUnit) : (s.timeDo f).trig = s.trig := rfl
@[simp] theorem State.timeDo_page (s : State) (f : TimeUnit → TimeUnit) : (s.timeDo f).page = s.page := rfl
@[simp] theorem State.timeDo_panel (s : State) (f : TimeUnit → TimeUnit) : (s.timeDo f).panel = s.panel := rfl
@[simp] theorem State.timeDo_ind (s : State) (f : TimeUnit → TimeUnit) : (s.timeDo f).ind = s.ind := rfl
@[simp] theorem State.timeDo_status (s : State) (f : TimeUnit → TimeUnit) : (s.timeDo f).status = s.status := rfl
@[simp] theorem State.timeDo_pins (s : State) (f : TimeUnit → TimeUnit) : (s.timeDo f).pins = s.pins := rfl
@[simp] theorem State.timeDo_pending (s : State) (f : TimeUnit → TimeUnit) : (s.timeDo f).pending = s.pending := rfl

/-! ### routeDo -/

@[simp] theorem State.routeDo_clock (s : State) (f : RouteEngine → RouteEngine) : (s.routeDo f).clock = s.clock := rfl
@[simp] theorem State.routeDo_start (s : State) (f : RouteEngine → RouteEngine) : (s.routeDo f).start = s.start := rfl
@[simp] theorem State.routeDo_ports (s : State) (f : RouteEngine → RouteEngine) : (s.routeDo f).ports = s.ports := rfl
@[simp] theorem State.routeDo_bus (s : State) (f : RouteEngine → RouteEngine) : (s.routeDo f).bus = s.bus := rfl
@[simp] theorem State.routeDo_time (s : State) (f : RouteEngine → RouteEngine) : (s.routeDo f).time = s.time := rfl
@[simp] theorem State.routeDo_alarm (s : State) (f : RouteEngine → RouteEngine) : (s.routeDo f).alarm = s.alarm := rfl
@[simp] theorem State.routeDo_route (s : State) (f : RouteEngine → RouteEngine) : (s.routeDo f).route = f s.route := rfl
@[simp] theorem State.routeDo_muster (s : State) (f : RouteEngine → RouteEngine) : (s.routeDo f).muster = s.muster := rfl
@[simp] theorem State.routeDo_prog (s : State) (f : RouteEngine → RouteEngine) : (s.routeDo f).prog = s.prog := rfl
@[simp] theorem State.routeDo_cabin (s : State) (f : RouteEngine → RouteEngine) : (s.routeDo f).cabin = s.cabin := rfl
@[simp] theorem State.routeDo_trig (s : State) (f : RouteEngine → RouteEngine) : (s.routeDo f).trig = s.trig := rfl
@[simp] theorem State.routeDo_page (s : State) (f : RouteEngine → RouteEngine) : (s.routeDo f).page = s.page := rfl
@[simp] theorem State.routeDo_panel (s : State) (f : RouteEngine → RouteEngine) : (s.routeDo f).panel = s.panel := rfl
@[simp] theorem State.routeDo_ind (s : State) (f : RouteEngine → RouteEngine) : (s.routeDo f).ind = s.ind := rfl
@[simp] theorem State.routeDo_status (s : State) (f : RouteEngine → RouteEngine) : (s.routeDo f).status = s.status := rfl
@[simp] theorem State.routeDo_pins (s : State) (f : RouteEngine → RouteEngine) : (s.routeDo f).pins = s.pins := rfl
@[simp] theorem State.routeDo_pending (s : State) (f : RouteEngine → RouteEngine) : (s.routeDo f).pending = s.pending := rfl

/-! ### alarmDo -/

@[simp] theorem State.alarmDo_clock (s : State) (f : AlarmUnit → AlarmUnit) : (s.alarmDo f).clock = s.clock := rfl
@[simp] theorem State.alarmDo_start (s : State) (f : AlarmUnit → AlarmUnit) : (s.alarmDo f).start = s.start := rfl
@[simp] theorem State.alarmDo_ports (s : State) (f : AlarmUnit → AlarmUnit) : (s.alarmDo f).ports = s.ports := rfl
@[simp] theorem State.alarmDo_bus (s : State) (f : AlarmUnit → AlarmUnit) : (s.alarmDo f).bus = s.bus := rfl
@[simp] theorem State.alarmDo_time (s : State) (f : AlarmUnit → AlarmUnit) : (s.alarmDo f).time = s.time := rfl
@[simp] theorem State.alarmDo_alarm (s : State) (f : AlarmUnit → AlarmUnit) : (s.alarmDo f).alarm = f s.alarm := rfl
@[simp] theorem State.alarmDo_route (s : State) (f : AlarmUnit → AlarmUnit) : (s.alarmDo f).route = s.route := rfl
@[simp] theorem State.alarmDo_muster (s : State) (f : AlarmUnit → AlarmUnit) : (s.alarmDo f).muster = s.muster := rfl
@[simp] theorem State.alarmDo_prog (s : State) (f : AlarmUnit → AlarmUnit) : (s.alarmDo f).prog = s.prog := rfl
@[simp] theorem State.alarmDo_cabin (s : State) (f : AlarmUnit → AlarmUnit) : (s.alarmDo f).cabin = s.cabin := rfl
@[simp] theorem State.alarmDo_trig (s : State) (f : AlarmUnit → AlarmUnit) : (s.alarmDo f).trig = s.trig := rfl
@[simp] theorem State.alarmDo_page (s : State) (f : AlarmUnit → AlarmUnit) : (s.alarmDo f).page = s.page := rfl
@[simp] theorem State.alarmDo_panel (s : State) (f : AlarmUnit → AlarmUnit) : (s.alarmDo f).panel = s.panel := rfl
@[simp] theorem State.alarmDo_ind (s : State) (f : AlarmUnit → AlarmUnit) : (s.alarmDo f).ind = s.ind := rfl
@[simp] theorem State.alarmDo_status (s : State) (f : AlarmUnit → AlarmUnit) : (s.alarmDo f).status = s.status := rfl
@[simp] theorem State.alarmDo_pins (s : State) (f : AlarmUnit → AlarmUnit) : (s.alarmDo f).pins = s.pins := rfl
@[simp] theorem State.alarmDo_pending (s : State) (f : AlarmUnit → AlarmUnit) : (s.alarmDo f).pending = s.pending := rfl

/-! ### startDo -/

@[simp] theorem State.startDo_clock (s : State) (f : StartBlock → StartBlock) : (s.startDo f).clock = s.clock := rfl
@[simp] theorem State.startDo_start (s : State) (f : StartBlock → StartBlock) : (s.startDo f).start = f s.start := rfl
@[simp] theorem State.startDo_ports (s : State) (f : StartBlock → StartBlock) : (s.startDo f).ports = s.ports := rfl
@[simp] theorem State.startDo_bus (s : State) (f : StartBlock → StartBlock) : (s.startDo f).bus = s.bus := rfl
@[simp] theorem State.startDo_time (s : State) (f : StartBlock → StartBlock) : (s.startDo f).time = s.time := rfl
@[simp] theorem State.startDo_alarm (s : State) (f : StartBlock → StartBlock) : (s.startDo f).alarm = s.alarm := rfl
@[simp] theorem State.startDo_route (s : State) (f : StartBlock → StartBlock) : (s.startDo f).route = s.route := rfl
@[simp] theorem State.startDo_muster (s : State) (f : StartBlock → StartBlock) : (s.startDo f).muster = s.muster := rfl
@[simp] theorem State.startDo_prog (s : State) (f : StartBlock → StartBlock) : (s.startDo f).prog = s.prog := rfl
@[simp] theorem State.startDo_cabin (s : State) (f : StartBlock → StartBlock) : (s.startDo f).cabin = s.cabin := rfl
@[simp] theorem State.startDo_trig (s : State) (f : StartBlock → StartBlock) : (s.startDo f).trig = s.trig := rfl
@[simp] theorem State.startDo_page (s : State) (f : StartBlock → StartBlock) : (s.startDo f).page = s.page := rfl
@[simp] theorem State.startDo_panel (s : State) (f : StartBlock → StartBlock) : (s.startDo f).panel = s.panel := rfl
@[simp] theorem State.startDo_ind (s : State) (f : StartBlock → StartBlock) : (s.startDo f).ind = s.ind := rfl
@[simp] theorem State.startDo_status (s : State) (f : StartBlock → StartBlock) : (s.startDo f).status = s.status := rfl
@[simp] theorem State.startDo_pins (s : State) (f : StartBlock → StartBlock) : (s.startDo f).pins = s.pins := rfl
@[simp] theorem State.startDo_pending (s : State) (f : StartBlock → StartBlock) : (s.startDo f).pending = s.pending := rfl

/-! ### busDo -/

@[simp] theorem State.busDo_clock (s : State) (f : BusCounters → BusCounters) : (s.busDo f).clock = s.clock := rfl
@[simp] theorem State.busDo_start (s : State) (f : BusCounters → BusCounters) : (s.busDo f).start = s.start := rfl
@[simp] theorem State.busDo_ports (s : State) (f : BusCounters → BusCounters) : (s.busDo f).ports = s.ports := rfl
@[simp] theorem State.busDo_bus (s : State) (f : BusCounters → BusCounters) : (s.busDo f).bus = f s.bus := rfl
@[simp] theorem State.busDo_time (s : State) (f : BusCounters → BusCounters) : (s.busDo f).time = s.time := rfl
@[simp] theorem State.busDo_alarm (s : State) (f : BusCounters → BusCounters) : (s.busDo f).alarm = s.alarm := rfl
@[simp] theorem State.busDo_route (s : State) (f : BusCounters → BusCounters) : (s.busDo f).route = s.route := rfl
@[simp] theorem State.busDo_muster (s : State) (f : BusCounters → BusCounters) : (s.busDo f).muster = s.muster := rfl
@[simp] theorem State.busDo_prog (s : State) (f : BusCounters → BusCounters) : (s.busDo f).prog = s.prog := rfl
@[simp] theorem State.busDo_cabin (s : State) (f : BusCounters → BusCounters) : (s.busDo f).cabin = s.cabin := rfl
@[simp] theorem State.busDo_trig (s : State) (f : BusCounters → BusCounters) : (s.busDo f).trig = s.trig := rfl
@[simp] theorem State.busDo_page (s : State) (f : BusCounters → BusCounters) : (s.busDo f).page = s.page := rfl
@[simp] theorem State.busDo_panel (s : State) (f : BusCounters → BusCounters) : (s.busDo f).panel = s.panel := rfl
@[simp] theorem State.busDo_ind (s : State) (f : BusCounters → BusCounters) : (s.busDo f).ind = s.ind := rfl
@[simp] theorem State.busDo_status (s : State) (f : BusCounters → BusCounters) : (s.busDo f).status = s.status := rfl
@[simp] theorem State.busDo_pins (s : State) (f : BusCounters → BusCounters) : (s.busDo f).pins = s.pins := rfl
@[simp] theorem State.busDo_pending (s : State) (f : BusCounters → BusCounters) : (s.busDo f).pending = s.pending := rfl

/-! ### putPort -/

@[simp] theorem State.putPort_clock (s : State) (p : Port) (c : PortCtl) : (s.putPort p c).clock = s.clock := rfl
@[simp] theorem State.putPort_start (s : State) (p : Port) (c : PortCtl) : (s.putPort p c).start = s.start := rfl
@[simp] theorem State.putPort_ports (s : State) (p : Port) (c : PortCtl) : (s.putPort p c).ports = s.ports.put p c := rfl
@[simp] theorem State.putPort_bus (s : State) (p : Port) (c : PortCtl) : (s.putPort p c).bus = s.bus := rfl
@[simp] theorem State.putPort_time (s : State) (p : Port) (c : PortCtl) : (s.putPort p c).time = s.time := rfl
@[simp] theorem State.putPort_alarm (s : State) (p : Port) (c : PortCtl) : (s.putPort p c).alarm = s.alarm := rfl
@[simp] theorem State.putPort_route (s : State) (p : Port) (c : PortCtl) : (s.putPort p c).route = s.route := rfl
@[simp] theorem State.putPort_muster (s : State) (p : Port) (c : PortCtl) : (s.putPort p c).muster = s.muster := rfl
@[simp] theorem State.putPort_prog (s : State) (p : Port) (c : PortCtl) : (s.putPort p c).prog = s.prog := rfl
@[simp] theorem State.putPort_cabin (s : State) (p : Port) (c : PortCtl) : (s.putPort p c).cabin = s.cabin := rfl
@[simp] theorem State.putPort_trig (s : State) (p : Port) (c : PortCtl) : (s.putPort p c).trig = s.trig := rfl
@[simp] theorem State.putPort_page (s : State) (p : Port) (c : PortCtl) : (s.putPort p c).page = s.page := rfl
@[simp] theorem State.putPort_panel (s : State) (p : Port) (c : PortCtl) : (s.putPort p c).panel = s.panel := rfl
@[simp] theorem State.putPort_ind (s : State) (p : Port) (c : PortCtl) : (s.putPort p c).ind = s.ind := rfl
@[simp] theorem State.putPort_status (s : State) (p : Port) (c : PortCtl) : (s.putPort p c).status = s.status := rfl
@[simp] theorem State.putPort_pins (s : State) (p : Port) (c : PortCtl) : (s.putPort p c).pins = s.pins := rfl
@[simp] theorem State.putPort_pending (s : State) (p : Port) (c : PortCtl) : (s.putPort p c).pending = s.pending := rfl

/-! ### updateFault and indicatorTakes -/

@[simp] theorem State.updateFault_clock (s : State) : s.updateFault.clock = s.clock := rfl
@[simp] theorem State.updateFault_start (s : State) : s.updateFault.start = s.start := rfl
@[simp] theorem State.updateFault_ports (s : State) : s.updateFault.ports = s.ports := rfl
@[simp] theorem State.updateFault_bus (s : State) : s.updateFault.bus = s.bus := rfl
@[simp] theorem State.updateFault_time (s : State) : s.updateFault.time = s.time := rfl
@[simp] theorem State.updateFault_alarm (s : State) : s.updateFault.alarm = s.alarm := rfl
@[simp] theorem State.updateFault_route (s : State) : s.updateFault.route = s.route := rfl
@[simp] theorem State.updateFault_muster (s : State) : s.updateFault.muster = s.muster := rfl
@[simp] theorem State.updateFault_prog (s : State) : s.updateFault.prog = s.prog := rfl
@[simp] theorem State.updateFault_cabin (s : State) : s.updateFault.cabin = s.cabin := rfl
@[simp] theorem State.updateFault_trig (s : State) : s.updateFault.trig = s.trig := rfl
@[simp] theorem State.updateFault_page (s : State) : s.updateFault.page = s.page := rfl
@[simp] theorem State.updateFault_panel (s : State) : s.updateFault.panel = s.panel := rfl
@[simp] theorem State.updateFault_ind (s : State) : s.updateFault.ind = { s.ind with fault := s.faultCondition } := rfl
@[simp] theorem State.updateFault_status (s : State) : s.updateFault.status = s.status := rfl
@[simp] theorem State.updateFault_pins (s : State) : s.updateFault.pins = s.pins := rfl
@[simp] theorem State.updateFault_pending (s : State) : s.updateFault.pending = s.pending := rfl
@[simp] theorem State.indicatorTakes_clock (s : State) (l : Level) : (s.indicatorTakes l).clock = s.clock := rfl
@[simp] theorem State.indicatorTakes_start (s : State) (l : Level) : (s.indicatorTakes l).start = s.start := rfl
@[simp] theorem State.indicatorTakes_ports (s : State) (l : Level) : (s.indicatorTakes l).ports = s.ports := rfl
@[simp] theorem State.indicatorTakes_bus (s : State) (l : Level) : (s.indicatorTakes l).bus = s.bus := rfl
@[simp] theorem State.indicatorTakes_time (s : State) (l : Level) : (s.indicatorTakes l).time = s.time := rfl
@[simp] theorem State.indicatorTakes_alarm (s : State) (l : Level) : (s.indicatorTakes l).alarm = s.alarm := rfl
@[simp] theorem State.indicatorTakes_route (s : State) (l : Level) : (s.indicatorTakes l).route = s.route := rfl
@[simp] theorem State.indicatorTakes_muster (s : State) (l : Level) : (s.indicatorTakes l).muster = s.muster := rfl
@[simp] theorem State.indicatorTakes_prog (s : State) (l : Level) : (s.indicatorTakes l).prog = s.prog := rfl
@[simp] theorem State.indicatorTakes_cabin (s : State) (l : Level) : (s.indicatorTakes l).cabin = s.cabin := rfl
@[simp] theorem State.indicatorTakes_trig (s : State) (l : Level) : (s.indicatorTakes l).trig = s.trig := rfl
@[simp] theorem State.indicatorTakes_page (s : State) (l : Level) : (s.indicatorTakes l).page = s.page := rfl
@[simp] theorem State.indicatorTakes_panel (s : State) (l : Level) : (s.indicatorTakes l).panel = s.panel := rfl
@[simp] theorem State.indicatorTakes_ind (s : State) (l : Level) : (s.indicatorTakes l).ind = { s.ind with level := l, lamp := s.lampFor l } := rfl
@[simp] theorem State.indicatorTakes_status (s : State) (l : Level) : (s.indicatorTakes l).status = s.status := rfl
@[simp] theorem State.indicatorTakes_pins (s : State) (l : Level) : (s.indicatorTakes l).pins = s.pins := rfl
@[simp] theorem State.indicatorTakes_pending (s : State) (l : Level) : (s.indicatorTakes l).pending = s.pending := rfl

/-! ### mapSchedules, busyPin and tick -/

@[simp] theorem State.mapSchedules_clock (s : State) (f : Schedule → Schedule) : (s.mapSchedules f).clock = s.clock := rfl
@[simp] theorem State.mapSchedules_ports (s : State) (f : Schedule → Schedule) : (s.mapSchedules f).ports = s.ports := rfl
@[simp] theorem State.mapSchedules_bus (s : State) (f : Schedule → Schedule) : (s.mapSchedules f).bus = s.bus := rfl
@[simp] theorem State.mapSchedules_time (s : State) (f : Schedule → Schedule) : (s.mapSchedules f).time = s.time := rfl
@[simp] theorem State.mapSchedules_alarm (s : State) (f : Schedule → Schedule) : (s.mapSchedules f).alarm = s.alarm := rfl
@[simp] theorem State.mapSchedules_route (s : State) (f : Schedule → Schedule) : (s.mapSchedules f).route = s.route := rfl
@[simp] theorem State.mapSchedules_muster (s : State) (f : Schedule → Schedule) : (s.mapSchedules f).muster = s.muster := rfl
@[simp] theorem State.mapSchedules_prog (s : State) (f : Schedule → Schedule) : (s.mapSchedules f).prog = s.prog := rfl
@[simp] theorem State.mapSchedules_cabin (s : State) (f : Schedule → Schedule) : (s.mapSchedules f).cabin = s.cabin := rfl
@[simp] theorem State.mapSchedules_trig (s : State) (f : Schedule → Schedule) : (s.mapSchedules f).trig = s.trig := rfl
@[simp] theorem State.mapSchedules_page (s : State) (f : Schedule → Schedule) : (s.mapSchedules f).page = s.page := rfl
@[simp] theorem State.mapSchedules_panel (s : State) (f : Schedule → Schedule) : (s.mapSchedules f).panel = s.panel := rfl
@[simp] theorem State.mapSchedules_ind (s : State) (f : Schedule → Schedule) : (s.mapSchedules f).ind = s.ind := rfl
@[simp] theorem State.mapSchedules_status (s : State) (f : Schedule → Schedule) : (s.mapSchedules f).status = s.status := rfl
@[simp] theorem State.mapSchedules_pins (s : State) (f : Schedule → Schedule) : (s.mapSchedules f).pins = s.pins := rfl
@[simp] theorem State.mapSchedules_pending (s : State) (f : Schedule → Schedule) : (s.mapSchedules f).pending = s.pending := rfl
@[simp] theorem State.busyPin_clock (s : State) (h : Bool) : (s.busyPin h).clock = s.clock := rfl
@[simp] theorem State.busyPin_start (s : State) (h : Bool) : (s.busyPin h).start = s.start := rfl
@[simp] theorem State.busyPin_ports (s : State) (h : Bool) : (s.busyPin h).ports = s.ports := rfl
@[simp] theorem State.busyPin_bus (s : State) (h : Bool) : (s.busyPin h).bus = s.bus := rfl
@[simp] theorem State.busyPin_time (s : State) (h : Bool) : (s.busyPin h).time = s.time := rfl
@[simp] theorem State.busyPin_alarm (s : State) (h : Bool) : (s.busyPin h).alarm = s.alarm := rfl
@[simp] theorem State.busyPin_route (s : State) (h : Bool) : (s.busyPin h).route = s.route := rfl
@[simp] theorem State.busyPin_muster (s : State) (h : Bool) : (s.busyPin h).muster = s.muster := rfl
@[simp] theorem State.busyPin_prog (s : State) (h : Bool) : (s.busyPin h).prog = s.prog := rfl
@[simp] theorem State.busyPin_cabin (s : State) (h : Bool) : (s.busyPin h).cabin = s.cabin := rfl
@[simp] theorem State.busyPin_trig (s : State) (h : Bool) : (s.busyPin h).trig = s.trig := rfl
@[simp] theorem State.busyPin_page (s : State) (h : Bool) : (s.busyPin h).page = s.page := rfl
@[simp] theorem State.busyPin_panel (s : State) (h : Bool) : (s.busyPin h).panel = s.panel := rfl
@[simp] theorem State.busyPin_ind (s : State) (h : Bool) : (s.busyPin h).ind = s.ind := rfl
@[simp] theorem State.busyPin_status (s : State) (h : Bool) : (s.busyPin h).status = s.status := rfl
@[simp] theorem State.busyPin_pins (s : State) (h : Bool) : (s.busyPin h).pins = { s.pins with busy := h } := rfl
@[simp] theorem State.busyPin_pending (s : State) (h : Bool) : (s.busyPin h).pending = s.pending := rfl
@[simp] theorem State.tick_clock (s : State) : s.tick.clock = s.clock + 1 := rfl
@[simp] theorem State.tick_start (s : State) : s.tick.start = s.start := rfl
@[simp] theorem State.tick_ports (s : State) : s.tick.ports = s.ports := rfl
@[simp] theorem State.tick_bus (s : State) : s.tick.bus = s.bus := rfl
@[simp] theorem State.tick_time (s : State) : s.tick.time = s.time := rfl
@[simp] theorem State.tick_alarm (s : State) : s.tick.alarm = s.alarm := rfl
@[simp] theorem State.tick_route (s : State) : s.tick.route = s.route := rfl
@[simp] theorem State.tick_muster (s : State) : s.tick.muster = s.muster := rfl
@[simp] theorem State.tick_prog (s : State) : s.tick.prog = s.prog := rfl
@[simp] theorem State.tick_cabin (s : State) : s.tick.cabin = s.cabin := rfl
@[simp] theorem State.tick_trig (s : State) : s.tick.trig = s.trig := rfl
@[simp] theorem State.tick_page (s : State) : s.tick.page = s.page := rfl
@[simp] theorem State.tick_panel (s : State) : s.tick.panel = s.panel := rfl
@[simp] theorem State.tick_ind (s : State) : s.tick.ind = s.ind := rfl
@[simp] theorem State.tick_status (s : State) : s.tick.status = s.status := rfl
@[simp] theorem State.tick_pins (s : State) : s.tick.pins = s.pins := rfl
@[simp] theorem State.tick_pending (s : State) : s.tick.pending = s.pending := rfl

/-! ### Per-port values -/

@[simp] theorem PerPort.get_put_same {α : Type} (v : PerPort α) (p : Port) (x : α) :
    (v.put p x).get p = x := by cases p <;> rfl

theorem PerPort.get_put_other {α : Type} (v : PerPort α) (p q : Port) (x : α) (h : q ≠ p) :
    (v.put p x).get q = v.get q := by
  cases p <;> cases q <;> first | rfl | exact absurd rfl h

/-! ### Readings that an update leaves alone -/

@[simp] theorem State.pageDo_cfg (s : State) (f : PageSelector → PageSelector) : (s.pageDo f).cfg = s.cfg := rfl
@[simp] theorem State.pageDo_running (s : State) (f : PageSelector → PageSelector) : (s.pageDo f).running = s.running := rfl
@[simp] theorem State.panelDo_cfg (s : State) (f : PanelEnv → PanelCtl → PanelCtl) : (s.panelDo f).cfg = s.cfg := rfl
@[simp] theorem State.panelDo_running (s : State) (f : PanelEnv → PanelCtl → PanelCtl) : (s.panelDo f).running = s.running := rfl
@[simp] theorem State.trigDo_cfg (s : State) (f : TriggerUnit → TriggerUnit) : (s.trigDo f).cfg = s.cfg := rfl
@[simp] theorem State.trigDo_running (s : State) (f : TriggerUnit → TriggerUnit) : (s.trigDo f).running = s.running := rfl
@[simp] theorem State.musterDo_cfg (s : State) (f : MusterSelector → MusterSelector) : (s.musterDo f).cfg = s.cfg := rfl
@[simp] theorem State.musterDo_running (s : State) (f : MusterSelector → MusterSelector) : (s.musterDo f).running = s.running := rfl
@[simp] theorem State.progDo_cfg (s : State) (f : ProgrammeStore → ProgrammeStore) : (s.progDo f).cfg = s.cfg := rfl
@[simp] theorem State.progDo_running (s : State) (f : ProgrammeStore → ProgrammeStore) : (s.progDo f).running = s.running := rfl
@[simp] theorem State.cabinDo_cfg (s : State) (f : CabinUnit → CabinUnit) : (s.cabinDo f).cfg = s.cfg := rfl
@[simp] theorem State.cabinDo_running (s : State) (f : CabinUnit → CabinUnit) : (s.cabinDo f).running = s.running := rfl
@[simp] theorem State.timeDo_cfg (s : State) (f : TimeUnit → TimeUnit) : (s.timeDo f).cfg = s.cfg := rfl
@[simp] theorem State.timeDo_running (s : State) (f : TimeUnit → TimeUnit) : (s.timeDo f).running = s.running := rfl
@[simp] theorem State.routeDo_cfg (s : State) (f : RouteEngine → RouteEngine) : (s.routeDo f).cfg = s.cfg := rfl
@[simp] theorem State.routeDo_running (s : State) (f : RouteEngine → RouteEngine) : (s.routeDo f).running = s.running := rfl
@[simp] theorem State.alarmDo_cfg (s : State) (f : AlarmUnit → AlarmUnit) : (s.alarmDo f).cfg = s.cfg := rfl
@[simp] theorem State.alarmDo_running (s : State) (f : AlarmUnit → AlarmUnit) : (s.alarmDo f).running = s.running := rfl
@[simp] theorem State.busDo_cfg (s : State) (f : BusCounters → BusCounters) : (s.busDo f).cfg = s.cfg := rfl
@[simp] theorem State.busDo_running (s : State) (f : BusCounters → BusCounters) : (s.busDo f).running = s.running := rfl
@[simp] theorem State.putPort_cfg (s : State) (p : Port) (c : PortCtl) : (s.putPort p c).cfg = s.cfg := rfl
@[simp] theorem State.putPort_running (s : State) (p : Port) (c : PortCtl) : (s.putPort p c).running = s.running := rfl
@[simp] theorem State.updateFault_cfg (s : State) : s.updateFault.cfg = s.cfg := rfl
@[simp] theorem State.updateFault_running (s : State) : s.updateFault.running = s.running := rfl
@[simp] theorem State.indicatorTakes_cfg (s : State) (l : Level) : (s.indicatorTakes l).cfg = s.cfg := rfl
@[simp] theorem State.indicatorTakes_running (s : State) (l : Level) : (s.indicatorTakes l).running = s.running := rfl
@[simp] theorem State.mapSchedules_cfg (s : State) (f : Schedule → Schedule) : (s.mapSchedules f).cfg = s.cfg := rfl
@[simp] theorem State.mapSchedules_running (s : State) (f : Schedule → Schedule) : (s.mapSchedules f).running = s.running := rfl

@[simp] theorem PerPort.get_put_otherPort {α : Type} (v : PerPort α) (p : Port) (x : α) :
    (v.put p x).get (otherPort p) = v.get (otherPort p) := by cases p <;> rfl

end Sys2Proof.Machine
end

