-- ==== Sys2Proof/Laws/Bus.lean ====
section
/-! SUPPORT. The transmit queue: what a request and a return make of it, and that both keep its law. -/

namespace Sys2Proof.Machine

/-! ### The order and the keys of a queue -/

theorem QueueEntry.sameKey_iff (x y : QueueEntry) :
    x.sameKey y = true ↔ x.cls = y.cls ∧ x.key = y.key := by
  simp [QueueEntry.sameKey]

theorem QueueEntry.sameKey_comm (x y : QueueEntry) : x.sameKey y = y.sameKey x := by
  rw [Bool.eq_iff_iff, sameKey_iff, sameKey_iff]
  constructor <;> rintro ⟨h, k⟩ <;> exact ⟨h.symm, k.symm⟩

/-- An entry does not precede another exactly when it stands at or behind it by class and age. -/
theorem QueueEntry.not_before_iff (x y : QueueEntry) :
    y.before x = false ↔
      x.cls.code < y.cls.code ∨ (x.cls.code = y.cls.code ∧ x.age ≤ y.age) := by
  simp only [QueueEntry.before, Bool.or_eq_false_iff, decide_eq_false_iff_not,
    Bool.and_eq_false_iff]
  omega

theorem QueueEntry.before_total {x y : QueueEntry} (h : x.before y = true) :
    y.before x = false := by
  rw [not_before_iff]
  simp only [QueueEntry.before, Bool.or_eq_true, decide_eq_true_eq, Bool.and_eq_true] at h
  omega

theorem QueueEntry.not_before_trans {x y z : QueueEntry} (h : y.before x = false)
    (k : z.before y = false) : z.before x = false := by
  rw [not_before_iff] at *
  omega

theorem FrameClass.code_inj {x y : FrameClass} (h : x.code = y.code) : x = y := by
  cases x <;> cases y <;> first
    | rfl
    | simp [FrameClass.code] at h

/-- An entry put at its place keeps the order. -/
theorem enqueue_order (e : QueueEntry) {q : List QueueEntry}
    (h : q.Pairwise (fun x y => y.before x = false)) :
    (enqueue e q).Pairwise (fun x y => y.before x = false) :=
  pairwise_insertBy e q h (fun _ _ k => QueueEntry.before_total k) (fun _ _ k => k)
    (fun _ _ _ _ k l => QueueEntry.not_before_trans k l)

/-- An entry of a key not queued keeps the keys distinct. -/
theorem enqueue_keys (e : QueueEntry) {q : List QueueEntry}
    (h : q.Pairwise (fun x y => x.sameKey y = false)) (new : ∀ x ∈ q, e.sameKey x = false) :
    (enqueue e q).Pairwise (fun x y => x.sameKey y = false) := by
  induction q with
  | nil => simp [enqueue, insertBy]
  | cons y ys ih =>
    obtain ⟨hy, hys⟩ := List.pairwise_cons.mp h
    have ih := ih hys (fun x hx => new x (by simp [hx]))
    unfold enqueue insertBy
    split
    · exact List.pairwise_cons.mpr ⟨new, h⟩
    · refine List.pairwise_cons.mpr ⟨?_, ih⟩
      intro z hz
      rcases (mem_insertBy e z ys).mp hz with rfl | hz
      · exact QueueEntry.sameKey_comm y z ▸ new y (by simp)
      · exact hy z hz

theorem mem_enqueue (e x : QueueEntry) (q : List QueueEntry) :
    x ∈ enqueue e q ↔ x = e ∨ x ∈ q := mem_insertBy e x q

theorem length_enqueue (e : QueueEntry) (q : List QueueEntry) :
    (enqueue e q).length = q.length + 1 := length_insertBy e q

theorem dropYoungest_sublist (q : List QueueEntry) : (dropYoungest q).Sublist q :=
  List.dropLast_sublist q

/-- A lawful queue holds one entry of a class and key. -/
theorem queue_unique {q : List QueueEntry} (h : q.Pairwise (fun x y => x.sameKey y = false))
    {x y : QueueEntry} (hx : x ∈ q) (hy : y ∈ q) (cls : x.cls = y.cls) (key : x.key = y.key) :
    x = y := by
  induction q with
  | nil => cases hx
  | cons z zs ih =>
    obtain ⟨hz, hzs⟩ := List.pairwise_cons.mp h
    have apart : ∀ w ∈ zs, ¬(z.cls = w.cls ∧ z.key = w.key) := by
      intro w hw k
      have := hz w hw
      rw [(QueueEntry.sameKey_iff z w).mpr k] at this
      cases this
    rcases List.mem_cons.mp hx with ex | mx <;> rcases List.mem_cons.mp hy with ey | my
    · exact ex.trans ey.symm
    · exact absurd ⟨ex ▸ cls, ex ▸ key⟩ (apart y my)
    · exact absurd ⟨ey ▸ cls.symm, ey ▸ key.symm⟩ (apart x mx)
    · exact ih hzs mx my

/-- A queue that is part of a lawful one is lawful. -/
theorem PortCtl.queueLaw_of_sublist {c d : PortCtl} (h : c.queueLaw)
    (sub : d.queue.Sublist c.queue) : d.queueLaw :=
  ⟨Nat.le_trans sub.length_le h.1, h.2.1.sublist sub, h.2.2.sublist sub⟩

theorem PortCtl.queueLaw_of_eq {c d : PortCtl} (h : c.queueLaw) (e : d.queue = c.queue) :
    d.queueLaw := queueLaw_of_sublist h (e ▸ List.Sublist.refl _)

theorem PortCtl.queueLaw_nil {d : PortCtl} (e : d.queue = []) : d.queueLaw := by
  simp [PortCtl.queueLaw, e]

/-- A change of contents alone, class, key and age kept, keeps the law. -/
theorem PortCtl.queueLaw_map {c d : PortCtl} (h : c.queueLaw) (f : QueueEntry → QueueEntry)
    (e : d.queue = c.queue.map f)
    (keeps : ∀ x, (f x).cls = x.cls ∧ (f x).key = x.key ∧ (f x).age = x.age) : d.queueLaw := by
  have sk : ∀ x y, (f x).sameKey (f y) = x.sameKey y := by
    intro x y
    simp [QueueEntry.sameKey, keeps]
  have be : ∀ x y, (f x).before (f y) = x.before y := by
    intro x y
    simp [QueueEntry.before, keeps]
  refine ⟨by simpa [e] using h.1, ?_, ?_⟩
  · rw [e, List.pairwise_map]
    exact h.2.1.imp (fun {x y} k => (sk x y).trans k)
  · rw [e, List.pairwise_map]
    exact h.2.2.imp (fun {x y} k => (be y x).trans k)

/-! ### Requests (R158, R159) -/

/-- Everything a request does to a port that takes it. -/
theorem PortCtl.join_cases (c : PortCtl) (cls : FrameClass) (key : QueueKey)
    (content : QueueContent) :
    ((∃ x ∈ c.queue, x.cls = cls ∧ x.key = key) ∧
      c.join cls key content = { c with
        queue := c.queue.map (fun x => if x.cls = cls ∧ x.key = key then
          { x with content := mergeContent x.content content } else x) }) ∨
    ((∀ x ∈ c.queue, ¬(x.cls = cls ∧ x.key = key)) ∧ c.queue.length < queueCap ∧
      c.join cls key content = { c with
        queue := enqueue ⟨cls, key, c.nextAge, content⟩ c.queue, nextAge := c.nextAge + 1 }) ∨
    ((∀ x ∈ c.queue, ¬(x.cls = cls ∧ x.key = key)) ∧ queueCap ≤ c.queue.length ∧
      cls.code < highestClass c.queue ∧
      c.join cls key content = { c with
        queue := enqueue ⟨cls, key, c.nextAge, content⟩ (dropYoungest c.queue)
        nextAge := c.nextAge + 1
        queueDrops := bump c.queueDrops }) ∨
    ((∀ x ∈ c.queue, ¬(x.cls = cls ∧ x.key = key)) ∧ queueCap ≤ c.queue.length ∧
      highestClass c.queue ≤ cls.code ∧
      c.join cls key content = { c with queueDrops := bump c.queueDrops }) := by
  have key_iff : ∀ x : QueueEntry,
      QueueEntry.sameKey ⟨cls, key, c.nextAge, content⟩ x = true ↔ x.cls = cls ∧ x.key = key := by
    intro x
    rw [QueueEntry.sameKey_iff]
    constructor <;> rintro ⟨h, k⟩ <;> exact ⟨h.symm, k.symm⟩
  unfold PortCtl.join
  by_cases any : c.queue.any (QueueEntry.sameKey ⟨cls, key, c.nextAge, content⟩) = true
  · refine .inl ⟨?_, ?_⟩
    · obtain ⟨x, hx, k⟩ := List.any_eq_true.mp any
      exact ⟨x, hx, (key_iff x).mp k⟩
    · simp only [any, if_true, key_iff]
  · have none : ∀ x ∈ c.queue, ¬(x.cls = cls ∧ x.key = key) := fun x hx k =>
      any (List.any_eq_true.mpr ⟨x, hx, (key_iff x).mpr k⟩)
    simp only [any]
    by_cases room : c.queue.length < queueCap
    · exact .inr (.inl ⟨none, room, by simp [room]⟩)
    · by_cases lower : cls.code < highestClass c.queue
      · exact .inr (.inr (.inl ⟨none, by omega, lower, by simp [room, lower]⟩))
      · exact .inr (.inr (.inr ⟨none, by omega, by omega, by simp [room, lower]⟩))

/-- A request keeps the queue law. -/
theorem PortCtl.join_queueLaw {c : PortCtl} (h : c.queueLaw) (cls : FrameClass) (key : QueueKey)
    (content : QueueContent) : (c.join cls key content).queueLaw := by
  have fresh : (∀ x ∈ c.queue, ¬(x.cls = cls ∧ x.key = key)) → ∀ x ∈ c.queue,
      QueueEntry.sameKey ⟨cls, key, c.nextAge, content⟩ x = false := by
    intro none x hx
    rw [Bool.eq_false_iff, ne_eq, QueueEntry.sameKey_iff]
    exact fun k => none x hx ⟨k.1.symm, k.2.symm⟩
  rcases c.join_cases cls key content with ⟨-, e⟩ | ⟨none, room, e⟩ | ⟨none, -, -, e⟩ | ⟨-, -, -, e⟩
    <;> rw [e]
  · refine queueLaw_map h _ rfl ?_
    intro x
    split <;> simp
  · exact ⟨by simpa [length_enqueue] using Nat.succ_le_of_lt room, enqueue_keys _ h.2.1 (fresh none),
      enqueue_order _ h.2.2⟩
  · have sub := dropYoungest_sublist c.queue
    refine ⟨?_, enqueue_keys _ (h.2.1.sublist sub) (fun x hx => fresh none x (sub.mem hx)),
      enqueue_order _ (h.2.2.sublist sub)⟩
    have := h.1
    simp only [length_enqueue, dropYoungest, List.length_dropLast]
    unfold queueCap at *
    omega
  · exact queueLaw_of_eq h rfl

/-- Everything a request does to the node. -/
theorem State.request_cases (s : State) (p : Port) (cls : FrameClass) (key : QueueKey)
    (content : QueueContent) :
    (((s.ports.get p).inUse = false ∨ s.start.lifecycle ≠ .operating) ∧
      s.request p cls key content = s) ∨
    ((s.ports.get p).inUse = true ∧ s.start.lifecycle = .operating ∧
      (s.ports.get p).state = .down ∧
      s.request p cls key content = s.putPort p { s.ports.get p with
        refusedWhileDown := bump (s.ports.get p).refusedWhileDown }) ∨
    ((s.ports.get p).inUse = true ∧ s.start.lifecycle = .operating ∧
      (s.ports.get p).state = .up ∧
      s.request p cls key content = s.putPort p ((s.ports.get p).join cls key content)) := by
  unfold State.request
  dsimp only
  by_cases off : (s.ports.get p).inUse = false ∨ s.start.lifecycle ≠ .operating
  · exact .inl ⟨off, if_pos off⟩
  · have used : (s.ports.get p).inUse = true := by
      cases u : (s.ports.get p).inUse
      · exact absurd (.inl u) off
      · rfl
    have op : s.start.lifecycle = .operating := by
      by_cases o : s.start.lifecycle = .operating
      · exact o
      · exact absurd (.inr o) off
    rw [if_neg off]
    cases st : (s.ports.get p).state
    · exact .inr (.inr ⟨used, op, rfl, by simp⟩)
    · exact .inr (.inl ⟨used, op, rfl, by simp⟩)

/-! ### Returns (R153, R162) -/

/-- Everything a return does to the queue. -/
theorem PortCtl.putBack_cases (c : PortCtl) (e : QueueEntry) (met : QueueEntry → QueueEntry) :
    (∃ x ∈ c.queue, e.sameKey x = true ∧
      c.putBack e met = { c with
        queue := enqueue (met x) (c.queue.filter (fun y => !e.sameKey y)) }) ∨
    ((∀ x ∈ c.queue, e.sameKey x = false) ∧ c.queue.length < queueCap ∧
      c.putBack e met = { c with queue := enqueue e c.queue }) ∨
    ((∀ x ∈ c.queue, e.sameKey x = false) ∧ queueCap ≤ c.queue.length ∧
      c.putBack e met = { c with
        queue := dropYoungest (enqueue e c.queue), queueDrops := bump c.queueDrops }) := by
  unfold PortCtl.putBack
  split
  · rename_i x found
    exact .inl ⟨x, List.mem_of_find?_eq_some found, List.find?_some found, rfl⟩
  · rename_i none
    have none : ∀ x ∈ c.queue, e.sameKey x = false := by
      intro x hx
      simpa using List.find?_eq_none.mp none x hx
    by_cases room : c.queue.length < queueCap
    · exact .inr (.inl ⟨none, room, by simp [room]⟩)
    · exact .inr (.inr ⟨none, by omega, by simp [room]⟩)

/-- A return keeps the queue law. -/
theorem PortCtl.putBack_queueLaw {c : PortCtl} (h : c.queueLaw) (e : QueueEntry)
    (met : QueueEntry → QueueEntry) (keeps : ∀ x, (met x).cls = x.cls ∧ (met x).key = x.key) :
    (c.putBack e met).queueLaw := by
  rcases c.putBack_cases e met with ⟨x, hx, same, eq⟩ | ⟨none, room, eq⟩ | ⟨none, full, eq⟩ <;>
    rw [eq]
  · have sub : (c.queue.filter (fun y => !e.sameKey y)).Sublist c.queue := List.filter_sublist
    have shorter : (c.queue.filter (fun y => !e.sameKey y)).length < c.queue.length :=
      List.length_filter_lt_length_iff_exists.mpr ⟨x, hx, by simp [same]⟩
    refine ⟨?_, enqueue_keys _ (h.2.1.sublist sub) ?_, enqueue_order _ (h.2.2.sublist sub)⟩
    · have := h.1
      simp only [length_enqueue]
      omega
    · intro y hy
      have hy := (List.mem_filter.mp hy).2
      have hx' := (QueueEntry.sameKey_iff _ _).mp same
      rw [Bool.eq_false_iff, ne_eq, QueueEntry.sameKey_iff, (keeps x).1, (keeps x).2]
      intro k
      have : e.sameKey y = true :=
        (QueueEntry.sameKey_iff _ _).mpr ⟨hx'.1.trans k.1, hx'.2.trans k.2⟩
      simp [this] at hy
  · exact ⟨by simpa [length_enqueue] using Nat.succ_le_of_lt room, enqueue_keys _ h.2.1 none, enqueue_order _ h.2.2⟩
  · have sub := dropYoungest_sublist (enqueue e c.queue)
    refine ⟨?_, (enqueue_keys _ h.2.1 none).sublist sub, (enqueue_order _ h.2.2).sublist sub⟩
    have := h.1
    simpa [dropYoungest, length_enqueue] using this

/-- The frame in flight returns within the queue law. -/
theorem PortCtl.returnFlight_queueLaw {c : PortCtl} (h : c.queueLaw) (f : InFlight) :
    (c.returnFlight f).queueLaw := by
  unfold PortCtl.returnFlight
  split <;> exact putBack_queueLaw h _ _ (fun x => ⟨rfl, rfl⟩)

end Sys2Proof.Machine
end

