-- ==== Sys2Proof/Laws/Frames.lean ====
section
/-! SUPPORT. The frame of every shared operation: which blocks of the state it may change. -/

-- One proof is elaborated after another: the package as one text then needs few threads at a time.
set_option Elab.async false

namespace Sys2Proof.Machine

/-! ### How frames combine -/

theorem OnlyChanges.refl (a : List Block) (s : State) : OnlyChanges a s s := by
  intro b _
  cases b <;> rfl

theorem OnlyChanges.trans {a : List Block} {s t u : State} (h : OnlyChanges a s t)
    (k : OnlyChanges a t u) : OnlyChanges a s u := by
  intro b hb
  have hs := h b hb
  have ht := k b hb
  cases b <;> exact ht.trans hs

/-- Every block of one list stands in another, as a computation. -/
def Block.within (a b : List Block) : Bool := a.all (fun x => b.any (fun y => decide (y = x)))

theorem OnlyChanges.widen {a b : List Block} {s t : State} (h : OnlyChanges a s t)
    (sub : Block.within a b = true := by rfl) : OnlyChanges b s t := by
  intro x hx
  refine h x (fun hm => hx ?_)
  have found := List.all_eq_true.mp sub x hm
  obtain ⟨y, hy, e⟩ := List.any_eq_true.mp found
  exact of_decide_eq_true e ▸ hy

/-- Two works one after the other, within the blocks of both. -/
theorem OnlyChanges.andThen {a b c : List Block} {s t u : State} (h : OnlyChanges a s t)
    (k : OnlyChanges b t u) (ha : Block.within a c = true := by rfl)
    (hb : Block.within b c = true := by rfl) : OnlyChanges c s u :=
  (h.widen ha).trans (k.widen hb)

theorem OnlyChanges.ite {a : List Block} {s t u : State} {c : Prop} [Decidable c]
    (h : OnlyChanges a s t) (k : OnlyChanges a s u) :
    OnlyChanges a s (if c then t else u) := by
  split
  · exact h
  · exact k

theorem OnlyChanges.foldl {α : Type} {a : List Block} {f : State → α → State}
    (h : ∀ s x, OnlyChanges a s (f s x)) (l : List α) (s : State) :
    OnlyChanges a s (l.foldl f s) := by
  induction l generalizing s with
  | nil => exact .refl a s
  | cons x xs ih => exact (h s x).trans (ih (f s x))

/-- Where the start block is left alone, the configuration is the same. -/
theorem OnlyChanges.cfg_eq {a : List Block} {s t : State} (h : OnlyChanges a s t)
    (hs : Block.start ∉ a) : t.cfg = s.cfg := by
  have e : t.start = s.start := h .start hs
  simp [State.cfg, e]

/-- Where the start block is left alone, the node runs as before. -/
theorem OnlyChanges.running_eq {a : List Block} {s t : State} (h : OnlyChanges a s t)
    (hs : Block.start ∉ a) : t.running = s.running := by
  have e : t.start = s.start := h .start hs
  simp [State.running, e]

/-! ### Single blocks -/

theorem State.pageDo_changes (s : State) (f : PageSelector → PageSelector) :
    OnlyChanges [.page] s (s.pageDo f) := by
  intro b hb
  cases b <;> first
    | rfl
    | simp at hb

theorem State.panelDo_changes (s : State) (f : PanelEnv → PanelCtl → PanelCtl) :
    OnlyChanges [.panel] s (s.panelDo f) := by
  intro b hb
  cases b <;> first
    | rfl
    | simp at hb

theorem State.trigDo_changes (s : State) (f : TriggerUnit → TriggerUnit) :
    OnlyChanges [.trig] s (s.trigDo f) := by
  intro b hb
  cases b <;> first
    | rfl
    | simp at hb

theorem State.musterDo_changes (s : State) (f : MusterSelector → MusterSelector) :
    OnlyChanges [.muster] s (s.musterDo f) := by
  intro b hb
  cases b <;> first
    | rfl
    | simp at hb

theorem State.progDo_changes (s : State) (f : ProgrammeStore → ProgrammeStore) :
    OnlyChanges [.prog] s (s.progDo f) := by
  intro b hb
  cases b <;> first
    | rfl
    | simp at hb

theorem State.cabinDo_changes (s : State) (f : CabinUnit → CabinUnit) :
    OnlyChanges [.cabin] s (s.cabinDo f) := by
  intro b hb
  cases b <;> first
    | rfl
    | simp at hb

theorem State.timeDo_changes (s : State) (f : TimeUnit → TimeUnit) :
    OnlyChanges [.time] s (s.timeDo f) := by
  intro b hb
  cases b <;> first
    | rfl
    | simp at hb

theorem State.routeDo_changes (s : State) (f : RouteEngine → RouteEngine) :
    OnlyChanges [.route] s (s.routeDo f) := by
  intro b hb
  cases b <;> first
    | rfl
    | simp at hb

theorem State.alarmDo_changes (s : State) (f : AlarmUnit → AlarmUnit) :
    OnlyChanges [.alarm] s (s.alarmDo f) := by
  intro b hb
  cases b <;> first
    | rfl
    | simp at hb

theorem State.startDo_changes (s : State) (f : StartBlock → StartBlock) :
    OnlyChanges [.start] s (s.startDo f) := by
  intro b hb
  cases b <;> first
    | rfl
    | simp at hb

theorem State.busDo_changes (s : State) (f : BusCounters → BusCounters) :
    OnlyChanges [.bus] s (s.busDo f) := by
  intro b hb
  cases b <;> first
    | rfl
    | simp at hb

theorem State.putPort_changes (s : State) (p : Port) (c : PortCtl) :
    OnlyChanges [.ports] s (s.putPort p c) := by
  intro b hb
  cases b <;> first
    | rfl
    | simp at hb

theorem State.updateFault_changes (s : State) :
    OnlyChanges [.ind] s (s.updateFault) := by
  intro b hb
  cases b <;> first
    | rfl
    | simp at hb

theorem State.indicatorTakes_changes (s : State) (l : Level) :
    OnlyChanges [.ind] s (s.indicatorTakes l) := by
  intro b hb
  cases b <;> first
    | rfl
    | simp at hb

theorem State.mapSchedules_changes (s : State) (f : Schedule → Schedule) :
    OnlyChanges [.start] s (s.mapSchedules f) := by
  intro b hb
  cases b <;> first
    | rfl
    | simp at hb

theorem State.busyPin_changes (s : State) (high : Bool) :
    OnlyChanges [.pins] s (s.busyPin high) := by
  intro b hb
  cases b <;> first
    | rfl
    | simp at hb

theorem State.tick_changes (s : State) :
    OnlyChanges [.clock] s (s.tick) := by
  intro b hb
  cases b <;> first
    | rfl
    | simp at hb

/-! ### Bus (chapter 10) -/

theorem State.request_changes (s : State) (p : Port) (cls : FrameClass) (key : QueueKey)
    (content : QueueContent) : OnlyChanges [.ports] s (s.request p cls key content) := by
  unfold State.request
  exact .ite (.refl _ _) (.ite (s.putPort_changes _ _) (s.putPort_changes _ _))

theorem State.requestToken_changes (s : State) (p : Port) (kind : TokenKind) :
    OnlyChanges [.ports] s (s.requestToken p kind) := s.request_changes _ _ _ _

theorem State.requestOwn_changes (s : State) (p : Port) (cls : FrameClass) (key : QueueKey)
    (payload : List Byte) : OnlyChanges [.ports] s (s.requestOwn p cls key payload) :=
  s.request_changes _ _ _ _

theorem State.noteGood_changes (s : State) (p : Port) :
    OnlyChanges [.ports, .ind] s (s.noteGood p) := by
  unfold State.noteGood
  dsimp only
  split
  · exact (s.putPort_changes _ _).widen
  · exact .ite ((s.putPort_changes _ _).andThen (State.updateFault_changes _))
      (s.putPort_changes _ _).widen

theorem State.noteBad_changes (s : State) (p : Port) :
    OnlyChanges [.ports] s (s.noteBad p) := by
  unfold State.noteBad
  dsimp only
  split
  · exact .refl _ _
  · exact s.putPort_changes _ _

theorem State.relay_changes (s : State) (p : Port) (cls : FrameClass) (f : RxFrame)
    (changed : Bool) : OnlyChanges [.bus, .ports] s (s.relay p cls f changed) := by
  unfold State.relay
  exact .ite ((s.busDo_changes (fun b => { b with relayedCopies := bump b.relayedCopies })).andThen
    (State.request_changes _ _ _ _ _)) (.refl _ _)

/-! ### Page selector (chapter 8) -/

theorem State.handOver_changes (s : State) (cause : PageCause) :
    OnlyChanges [.page, .panel] s (s.handOver cause) := by
  have h := s.pageDo_changes
    (fun p => { p with handed := some ⟨s.page.selected, s.composePage s.page.selected⟩ })
  have change := fun f g => (h.trans (State.pageDo_changes _ f)).andThen (c := [.page, .panel])
    (State.panelDo_changes _ g)
  unfold State.handOver
  dsimp only
  split
  · exact change _ _
  · split
    · exact change _ _
    · split
      · exact h.widen
      · exact h.andThen (State.panelDo_changes _ _)

theorem State.finishPage_changes (s : State) (positionSet : Bool) (cause : PageCause) :
    OnlyChanges [.page, .panel] s (s.finishPage positionSet cause) :=
  (s.pageDo_changes _).andThen (State.handOver_changes _ _)

theorem State.pageNotice_changes (s : State) (cause : PageCause) :
    OnlyChanges [.page, .panel] s (s.pageNotice cause) := s.finishPage_changes _ _

/-- The selector's own change and the end of its event. -/
theorem State.pageDo_finishPage_changes (s : State) (f : PageSelector → PageSelector)
    (positionSet : Bool) (cause : PageCause) :
    OnlyChanges [.page, .panel] s ((s.pageDo f).finishPage positionSet cause) :=
  (s.pageDo_changes _).andThen (State.finishPage_changes _ _ _)

theorem State.pageEntersListening_changes (s : State) :
    OnlyChanges [.page, .panel] s s.pageEntersListening := s.pageDo_finishPage_changes _ _ _

theorem State.pageTakesAlarm_changes (s : State) (after : Level) :
    OnlyChanges [.page, .panel] s (s.pageTakesAlarm after) := s.pageDo_finishPage_changes _ _ _

theorem State.pageDwellEnds_changes (s : State) :
    OnlyChanges [.page, .panel] s s.pageDwellEnds := s.pageDo_finishPage_changes _ _ _

theorem State.pageTakesProgramme_changes (s : State) :
    OnlyChanges [.page, .panel] s s.pageTakesProgramme := s.pageDo_finishPage_changes _ _ _

theorem State.refuseRequest_changes (s : State) :
    OnlyChanges [.page, .panel] s s.refuseRequest := s.pageDo_finishPage_changes _ _ _

theorem State.jumpTo_changes (s : State) (position : RotationPage) :
    OnlyChanges [.page, .panel] s (s.jumpTo position) :=
  ((s.pageDo_changes _).trans (.ite (State.pageDo_changes _ _) (.refl _ _))).andThen
    (State.finishPage_changes _ _ _)

theorem State.pageShow_changes (s : State) (page : ShowPage) :
    OnlyChanges [.page, .panel] s (s.pageShow page) := by
  unfold State.pageShow
  refine .ite s.refuseRequest_changes ?_
  split
  · exact s.jumpTo_changes _
  · exact .ite s.refuseRequest_changes (s.jumpTo_changes _)
  · split
    · exact s.refuseRequest_changes
    · exact .ite (s.finishPage_changes _ _) (s.pageDo_finishPage_changes _ _ _)

theorem State.quietChanged_changes (s : State) (before : Bool) :
    OnlyChanges [.page, .panel] s (s.quietChanged before) := by
  unfold State.quietChanged
  dsimp only
  exact .ite (.refl _ _)
    (.ite ((s.pageDo_changes _).andThen (State.panelDo_changes _ _))
      ((s.pageDo_changes _).andThen (State.panelDo_changes _ _)))

theorem State.changeQuiet_changes (s : State) (f : PageSelector → PageSelector) :
    OnlyChanges [.page, .panel] s (s.changeQuiet f) :=
  ((s.pageDo_changes f).andThen (State.quietChanged_changes _ _)).trans
    (State.finishPage_changes _ _ _)

theorem State.pageQuietEnter_changes (s : State) :
    OnlyChanges [.page, .panel] s s.pageQuietEnter :=
  .ite s.refuseRequest_changes (s.changeQuiet_changes _)

theorem State.pageQuietLeave_changes (s : State) :
    OnlyChanges [.page, .panel] s s.pageQuietLeave :=
  .ite s.refuseRequest_changes (s.changeQuiet_changes _)

theorem State.pagePresence_changes (s : State) :
    OnlyChanges [.page, .panel] s s.pagePresence := s.changeQuiet_changes _

theorem State.pagePresenceEnds_changes (s : State) :
    OnlyChanges [.page, .panel] s s.pagePresenceEnds := s.changeQuiet_changes _

/-! ### Muster selector (chapter 3) -/

theorem State.takeMuster_changes (s : State) (m : MusterSelector) :
    OnlyChanges [.muster, .page, .panel] s (s.takeMuster m) := by
  have h := s.musterDo_changes (fun _ => m)
  exact .ite h.widen
    (h.andThen ((State.pageNotice_changes _ _).andThen (State.panelDo_changes _ _)
      (c := [.page, .panel])))

theorem State.musterTakesAlarm_changes (s : State) (after : Level) :
    OnlyChanges [.muster, .page, .panel] s (s.musterTakesAlarm after) := s.takeMuster_changes _

theorem State.musterReview_changes (s : State) :
    OnlyChanges [.muster, .page, .panel] s s.musterReview := s.takeMuster_changes _

theorem State.musterReturn_changes (s : State) :
    OnlyChanges [.muster, .page, .panel] s s.musterReturn := s.takeMuster_changes _

/-! ### Trigger unit (chapter 7) -/

theorem State.performAction_changes (s : State) (o : Occurrence) (n : Nat) (chained : Bool)
    (c : TriggerCfg) : OnlyChanges [.trig, .page, .panel] s (s.performAction o n chained c) := by
  unfold State.performAction
  split
  · exact .refl _ _
  · exact (s.pageShow_changes _).widen
  · exact (s.trigDo_changes _).widen
  · exact (s.trigDo_changes _).widen
  · exact (s.trigDo_changes _).widen
  · exact (s.panelDo_changes _).widen
  · exact s.pageQuietEnter_changes.widen
  · exact s.pageQuietLeave_changes.widen
  · exact (s.trigDo_changes _).widen
  · exact (s.trigDo_changes _).widen

theorem State.actAndOnce_changes (s : State) (o : Occurrence) (n : Nat) (chained : Bool)
    (c : TriggerCfg) : OnlyChanges [.trig, .page, .panel] s (s.actAndOnce o n chained c) :=
  (s.performAction_changes o n chained c).andThen (State.trigDo_changes _ _)

theorem OnlyChanges.cascadeFoldl {a : List Block} {s : State} {f : Cascade → Nat → Cascade}
    (h : ∀ k m, OnlyChanges a k.state (f k m).state) (l : List Nat) (k : Cascade)
    (hk : OnlyChanges a s k.state) : OnlyChanges a s (l.foldl f k).state := by
  induction l generalizing k with
  | nil => exact hk
  | cons x xs ih => exact ih (f k x) (hk.trans (h k x))

theorem activate_changes (depth : Nat) (o : Occurrence) (n : Nat) (chained : Bool) (k : Cascade) :
    OnlyChanges [.trig, .page, .panel] k.state (activate depth o n chained k).state := by
  induction depth generalizing n chained k with
  | zero => exact .refl _ _
  | succ d ih =>
    refine OnlyChanges.cascadeFoldl ?_ _ _ (State.actAndOnce_changes _ _ _ _ _)
    intro k m
    split
    · exact ih m true k
    · exact .refl _ _

theorem cascadeTurn_changes (o : Occurrence) (k : Cascade) (n : Nat) :
    OnlyChanges [.trig, .page, .panel] k.state (cascadeTurn o k n).state := by
  unfold cascadeTurn
  split
  · exact activate_changes _ _ _ _ _
  · exact .refl _ _

theorem State.cascade_changes (s : State) (o : Occurrence) :
    OnlyChanges [.trig, .page, .panel] s (s.cascade o) :=
  OnlyChanges.cascadeFoldl (cascadeTurn_changes o) _ _ (.refl _ _)

theorem State.cascades_changes (s : State) (os : List Occurrence) :
    OnlyChanges [.trig, .page, .panel] s (s.cascades os) :=
  OnlyChanges.foldl (fun s o => s.cascade_changes o) os s

theorem State.triggerTakesAlarm_changes (s : State) (before after : Level) :
    OnlyChanges [.trig, .page, .panel] s (s.triggerTakesAlarm before after) := by
  unfold State.triggerTakesAlarm
  exact .ite (s.trigDo_changes _).widen
    ((s.trigDo_changes _).andThen (State.cascade_changes _ _))

theorem State.triggerEntersListening_changes (s : State) :
    OnlyChanges [.trig] s s.triggerEntersListening := s.trigDo_changes _

theorem State.timerTicks_changes (s : State) (n : Nat) :
    OnlyChanges [.trig] s (s.timerTicks n) := .ite (s.trigDo_changes _) (.refl _ _)

theorem State.timerExpires_changes (s : State) (n : Nat) :
    OnlyChanges [.trig, .page, .panel] s (s.timerExpires n) :=
  .ite ((s.trigDo_changes _).andThen (State.cascade_changes _ _)) (.refl _ _)

/-! ### Programme store (chapter 4) -/

theorem State.detectLeads_changes (s : State) (minute : Nat) :
    OnlyChanges [.prog, .trig, .page, .panel] s (s.detectLeads minute) :=
  (s.progDo_changes _).andThen (State.cascades_changes _ _)

theorem State.progTakesMinute_changes (s : State) (minute : Nat) :
    OnlyChanges [.prog, .trig, .page, .panel] s (s.progTakesMinute minute) := by
  have expire : OnlyChanges [.prog, .trig, .page, .panel] s
      (if s.time.state.known then s.progDo (fun p => p.expire minute) else s) :=
    .ite (s.progDo_changes _).widen (.refl _ _)
  exact (expire.trans (.ite (State.detectLeads_changes _ _) (.refl _ _))).trans
    (State.pageTakesProgramme_changes _).widen

theorem State.progTakesStep_changes (s : State) (kind : StepKind) (crossed : List Nat)
    (minute : Nat) :
    OnlyChanges [.prog, .trig, .page, .panel] s (s.progTakesStep kind crossed minute) := by
  have run (t : State) : OnlyChanges [.prog, .trig, .page, .panel] t
      (if t.time.state.known then t.progDo (fun p => p.expire minute) else t) :=
    .ite (t.progDo_changes _).widen (.refl _ _)
  have leads : OnlyChanges [.prog, .trig, .page, .panel] s
      (if s.time.state.disciplined then crossed.foldl State.detectLeads s else s) :=
    .ite (OnlyChanges.foldl (fun s m => s.detectLeads_changes m) _ _) (.refl _ _)
  refine OnlyChanges.trans ?_ (State.pageTakesProgramme_changes _).widen
  cases kind
  · exact run s
  · exact leads.trans (run _)
  · exact run s
  · exact .refl _ _

theorem State.spotlightDone_changes (s : State) (id : Nat) :
    OnlyChanges [.prog, .page, .panel] s (s.spotlightDone id) :=
  .ite ((s.progDo_changes _).andThen (State.pageTakesProgramme_changes _)) (.refl _ _)

theorem State.pageSpotlightEnds_changes (s : State) :
    OnlyChanges [.prog, .page, .panel] s s.pageSpotlightEnds := by
  unfold State.pageSpotlightEnds
  refine OnlyChanges.trans ?_ (State.pageDo_finishPage_changes _ _ _ _).widen
  split
  · exact s.spotlightDone_changes _
  · exact .refl _ _

theorem State.takeItemFrame_changes (s : State) (p : ItemPayload) :
    OnlyChanges [.prog, .page, .panel] s (s.takeItemFrame p).1 := by
  have clamp : OnlyChanges [.prog, .page, .panel] s
      (if p.clamps then s.progDo (fun q => { q with clampedItems := bump q.clampedItems })
        else s) := .ite (s.progDo_changes _).widen (.refl _ _)
  unfold State.takeItemFrame
  by_cases running : s.running = true
  · rw [if_pos running]
    dsimp only
    split
    · exact clamp.trans ((State.progDo_changes _ _).andThen (State.pageTakesProgramme_changes _))
    · exact clamp.trans (State.progDo_changes _ _).widen
  · rw [if_neg running]
    exact .refl _ _

theorem State.takeWithdrawFrame_changes (s : State) (w : Tombstone) :
    OnlyChanges [.prog, .page, .panel] s (s.takeWithdrawFrame w).1 := by
  unfold State.takeWithdrawFrame
  split
  · dsimp only
    split
    · exact (s.progDo_changes _).andThen (State.pageTakesProgramme_changes _)
    · exact (s.progDo_changes _).widen
  · exact .refl _ _

/-! ### Ship time unit (chapter 6) -/

theorem State.timeNotice_changes (s : State) : OnlyChanges [.page, .panel] s s.timeNotice :=
  .ite (s.pageNotice_changes _) (.refl _ _)

theorem State.announceMinute_changes (s : State) (minute : Nat) :
    OnlyChanges [.time, .prog, .trig, .page, .panel] s (s.announceMinute minute) := by
  refine OnlyChanges.trans
    (s.timeDo_changes (fun u => { u with notifiedMinute := minute })).widen ?_
  refine .ite ?_ (.refl _ _)
  refine OnlyChanges.trans (State.progTakesMinute_changes _ minute).widen ?_
  exact OnlyChanges.trans (.ite (State.cascade_changes _ _).widen (.refl _ _))
    (State.pageNotice_changes _ _).widen

theorem State.reachMinute_changes (s : State) :
    OnlyChanges [.time, .prog, .trig, .page, .panel] s s.reachMinute :=
  .ite (s.announceMinute_changes _) (.refl _ _)

theorem State.announceStep_changes (s : State) (kind : StepKind) :
    OnlyChanges [.time, .prog, .trig, .page, .panel] s (s.announceStep kind) := by
  refine OnlyChanges.trans (s.timeDo_changes (fun u =>
    { u with notifiedMinute := notifiedAfter kind u.notifiedMinute s.programmeMinute })).widen ?_
  refine .ite ?_ (.refl _ _)
  exact ((State.progTakesStep_changes _ _ _ _).andThen (State.cascades_changes _ _)
    (c := [.time, .prog, .trig, .page, .panel])).trans (State.pageNotice_changes _ _).widen

theorem State.slewBeacon_changes (s : State) (r : Int) :
    OnlyChanges [.time, .page, .panel] s (s.slewBeacon r) :=
  .ite (s.timeDo_changes _).widen ((s.timeDo_changes _).andThen (State.timeNotice_changes _))

theorem State.stepBeacon_changes (s : State) (r : Int) :
    OnlyChanges [.time, .prog, .trig, .page, .panel] s (s.stepBeacon r) := by
  unfold State.stepBeacon
  dsimp only
  split
  · exact (s.timeDo_changes _).widen
  · exact .ite ((s.timeDo_changes _).andThen (State.announceStep_changes _ _))
      (s.timeDo_changes _).widen

theorem State.discipline_changes (s : State) (r : Int) :
    OnlyChanges [.time, .prog, .trig, .page, .panel] s (s.discipline r) :=
  .ite ((s.timeDo_changes _).andThen (State.announceStep_changes _ _))
    (.ite (s.slewBeacon_changes r).widen (s.stepBeacon_changes r))

theorem State.takeBeacon_changes (s : State) (sender : Nat) (b : BeaconPayload) :
    OnlyChanges [.time, .prog, .trig, .page, .panel] s (s.takeBeacon sender b) := by
  unfold State.takeBeacon
  dsimp only
  exact .ite (.ite (s.timeDo_changes _).widen
      (.ite ((s.timeDo_changes _).andThen (State.discipline_changes _ _))
        (s.timeDo_changes _).widen)) (.refl _ _)

theorem State.expireSource_changes (s : State) (sender : Nat) :
    OnlyChanges [.time, .page, .panel] s (s.expireSource sender) := by
  unfold State.expireSource
  split
  · exact .refl _ _
  · exact .ite (.ite (s.timeDo_changes _).widen
      ((s.timeDo_changes _).andThen (State.timeNotice_changes _))) (.refl _ _)

theorem State.slewTicks_changes (s : State) :
    OnlyChanges [.time, .prog, .trig, .page, .panel] s s.slewTicks :=
  .ite (.ite ((s.timeDo_changes _).andThen (State.reachMinute_changes _))
    (s.timeDo_changes _).widen) (.refl _ _)

theorem State.becomeStale_changes (s : State) :
    OnlyChanges [.time, .page, .panel] s s.becomeStale :=
  .ite ((s.timeDo_changes _).andThen (State.timeNotice_changes _)) (.refl _ _)

theorem State.beaconDue_changes (s : State) : OnlyChanges [.time, .ports] s s.beaconDue := by
  unfold State.beaconDue
  refine .ite (OnlyChanges.trans (.ite ?_ (.refl _ _)) (State.timeDo_changes _ _).widen)
    (.refl _ _)
  exact OnlyChanges.foldl (fun t p => (t.request_changes p _ _ _).widen) _ _

/-! ### Route engine (chapter 1) -/

theorem State.requestTriggered_changes (s : State) (p : Port) :
    OnlyChanges [.route, .ports] s (s.requestTriggered p) :=
  (s.requestToken_changes p _).andThen (State.routeDo_changes _ _)

theorem State.markBecameSet_changes (s : State) (p : Port) :
    OnlyChanges [.route, .ports] s (s.markBecameSet p) := by
  unfold State.markBecameSet
  refine .ite (.refl _ _) ?_
  split
  · exact s.requestTriggered_changes p
  · refine .ite ?_ (s.requestTriggered_changes p)
    split
    · exact .refl _ _
    · exact (s.routeDo_changes _).widen

theorem State.storeEntry_changes (s : State) (before after : RouteEntry) :
    OnlyChanges [.route, .ports] s (s.storeEntry before after) := by
  unfold State.storeEntry
  exact .ite (OnlyChanges.trans (s.routeDo_changes _).widen
    (OnlyChanges.foldl (fun t p => t.markBecameSet_changes p) _ _)) (s.routeDo_changes _).widen

theorem State.countHoldDown_changes (s : State) (before after : RouteEntry) :
    OnlyChanges [.route] s (s.countHoldDown before after) :=
  .ite (s.routeDo_changes _) (.refl _ _)

theorem State.reevaluate_changes (s : State) (dest : Nat) :
    OnlyChanges [.route, .ports] s (s.reevaluate dest) := by
  unfold State.reevaluate
  split
  · exact .refl _ _
  · exact (s.countHoldDown_changes _ _).andThen (State.storeEntry_changes _ _ _)

theorem State.reevaluateAll_changes (s : State) :
    OnlyChanges [.route, .ports] s s.reevaluateAll :=
  OnlyChanges.foldl (fun t d => t.reevaluate_changes d) _ _

theorem State.routeNotices_changes (s : State) (before : List RouteEntry) (removed : List Nat) :
    OnlyChanges [.muster, .trig, .page, .panel] s (s.routeNotices before removed) := by
  unfold State.routeNotices
  dsimp only
  have told (os : List Occurrence) : OnlyChanges [.muster, .trig, .page, .panel] s
      (s.musterReview.cascades os) := s.musterReview_changes.andThen (State.cascades_changes _ _)
  refine .ite (.ite (.refl _ _) (told _)) ?_
  exact OnlyChanges.trans (.ite (.refl _ _) (told _)) (State.pageNotice_changes _ _).widen

theorem State.reevaluateAllEvent_changes (s : State) :
    OnlyChanges [.route, .ports, .muster, .trig, .page, .panel] s s.reevaluateAllEvent :=
  s.reevaluateAll_changes.andThen (State.routeNotices_changes _ _ _)

theorem State.routeEntersListening_changes (s : State) :
    OnlyChanges [.route, .ports, .muster, .trig, .page, .panel] s s.routeEntersListening :=
  (s.routeDo_changes _).andThen (State.reevaluateAllEvent_changes _)

theorem State.createEntry_changes (s : State) (slots : List Nat) (a : AdvertEntry)
    (kind : DestKind) : OnlyChanges [.route, .ports] s (s.createEntry slots a kind) :=
  (s.routeDo_changes _).andThen (State.reevaluate_changes _ _)

theorem AdvertWork.create_changes (w : AdvertWork) (slots : List Nat) (a : AdvertEntry)
    (kind : DestKind) : OnlyChanges [.route, .ports] w.state (w.create slots a kind).state := by
  unfold AdvertWork.create
  split
  · exact w.state.createEntry_changes _ _ _
  · split
    · exact (w.state.routeDo_changes _).widen
    · exact (w.state.routeDo_changes _).andThen (State.createEntry_changes _ _ _ _)

theorem State.refreshEntry_changes (s : State) (slots : List Nat) (a : AdvertEntry)
    (e : RouteEntry) : OnlyChanges [.route, .ports] s (s.refreshEntry slots a e) :=
  (s.routeDo_changes _).andThen (State.reevaluate_changes _ _)

theorem AdvertWork.take_changes (slots : List Nat) (w : AdvertWork) (a : AdvertEntry) :
    OnlyChanges [.route, .ports] w.state (w.take slots a).state := by
  unfold AdvertWork.take
  split
  · exact (w.state.routeDo_changes _).widen
  · split
    · exact w.state.refreshEntry_changes _ _ _
    · split
      · exact .refl _ _
      · split
        · exact w.create_changes _ _ _
        · exact .refl _ _

theorem AdvertWork.takeAll_changes (slots : List Nat) (entries : List AdvertEntry)
    (w : AdvertWork) : OnlyChanges [.route, .ports] w.state
      (entries.foldl (AdvertWork.take slots) w).state := by
  induction entries generalizing w with
  | nil => exact .refl _ _
  | cons a as ih => exact (w.take_changes slots a).trans (ih _)

theorem State.takeAdvert_changes (s : State) (p : Port) (sender : Nat)
    (entries : List AdvertEntry) :
    OnlyChanges [.route, .ports, .muster, .trig, .page, .panel] s
      (s.takeAdvert p sender entries) := by
  unfold State.takeAdvert
  split
  · split
    · exact (s.routeDo_changes _).widen
    · exact (AdvertWork.takeAll_changes _ entries ⟨s, []⟩).andThen
        (State.routeNotices_changes _ _ _)
  · exact .refl _ _

theorem State.expireCell_changes (s : State) (dest slot : Nat) :
    OnlyChanges [.route, .ports, .muster, .trig, .page, .panel] s (s.expireCell dest slot) := by
  unfold State.expireCell
  split
  · exact .refl _ _
  · split
    · exact .refl _ _
    · exact .ite (((s.routeDo_changes _).andThen (c := [.route, .ports])
        (State.reevaluate_changes _ _)).andThen (State.routeNotices_changes _ _ _)) (.refl _ _)

theorem State.endHoldDown_changes (s : State) (dest : Nat) :
    OnlyChanges [.route, .ports, .muster, .trig, .page, .panel] s (s.endHoldDown dest) := by
  unfold State.endHoldDown
  split
  · exact .refl _ _
  · split
    · exact .refl _ _
    · exact .ite ((s.storeEntry_changes _ _).andThen (State.routeNotices_changes _ _ _))
        (.refl _ _)

theorem State.flushEntry_changes (s : State) (dest : Nat) :
    OnlyChanges [.route, .muster, .trig, .page, .panel] s (s.flushEntry dest) := by
  unfold State.flushEntry
  split
  · exact .refl _ _
  · exact .ite ((s.routeDo_changes _).andThen (State.routeNotices_changes _ _ _)) (.refl _ _)

theorem State.periodicFull_changes (s : State) :
    OnlyChanges [.route, .ports] s s.periodicFull :=
  .ite ((OnlyChanges.foldl (fun t p => t.requestToken_changes p _) _ s).andThen
    (State.routeDo_changes _ _)) (.refl _ _)

theorem State.gapEnds_changes (s : State) (p : Port) :
    OnlyChanges [.route, .ports] s (s.gapEnds p) :=
  .ite (.ite ((s.routeDo_changes _).andThen (State.requestTriggered_changes _ _))
    (s.routeDo_changes _).widen) (.refl _ _)

/-! ### The line side of a port -/

theorem State.launch_changes (s : State) (p : Port) (rest : List QueueEntry) (f : InFlight) :
    OnlyChanges [.ports] s (s.launch p rest f) := s.putPort_changes _ _

theorem State.launchToken_changes (s : State) (p : Port) (e : QueueEntry) (kind : TokenKind)
    (rest : List QueueEntry) (carried : List RouteEntry) :
    OnlyChanges [.route, .ports] s (s.launchToken p e kind rest carried) :=
  (s.routeDo_changes _).andThen (State.launch_changes _ _ _ _)

theorem State.startHead_changes (s : State) (p : Port) (q : List QueueEntry) :
    OnlyChanges [.route, .ports] s (s.startHead p q) := by
  induction q with
  | nil => exact (s.putPort_changes _ _).widen
  | cons e rest ih =>
    unfold State.startHead
    split
    · exact (s.launch_changes _ _ _).widen
    · exact (s.launch_changes _ _ _).widen
    · split
      · exact ih
      · exact s.launchToken_changes _ _ _ _ _

theorem State.startTransmission_changes (s : State) (p : Port) :
    OnlyChanges [.route, .ports] s (s.startTransmission p) :=
  .ite (s.startHead_changes _ _) (.refl _ _)

theorem State.tellSent_changes (s : State) (p : Port) (f : InFlight) :
    OnlyChanges [.route] s (s.tellSent p f) := .ite (s.routeDo_changes _) (.refl _ _)

theorem State.tellUnsent_changes (s : State) (p : Port) (f : InFlight) :
    OnlyChanges [.route] s (s.tellUnsent p f) := .ite (s.routeDo_changes _) (.refl _ _)

theorem State.frameSent_changes (s : State) (p : Port) :
    OnlyChanges [.route, .ports] s (s.frameSent p) := by
  unfold State.frameSent
  split
  · exact .refl _ _
  · exact (s.putPort_changes _ _).andThen (State.tellSent_changes _ _ _)

theorem State.arbitrationWasLost_changes (s : State) (p : Port) :
    OnlyChanges [.route, .ports] s (s.arbitrationWasLost p) := by
  unfold State.arbitrationWasLost
  split
  · exact .refl _ _
  · exact (s.putPort_changes _ _).andThen (State.tellUnsent_changes _ _ _)

theorem State.transmitFaulted_changes (s : State) (p : Port) :
    OnlyChanges [.route, .ports, .ind] s (s.transmitFaulted p) := by
  unfold State.transmitFaulted
  split
  · exact .refl _ _
  · exact ((s.putPort_changes _ _).andThen (c := [.route, .ports])
      (State.tellUnsent_changes _ _ _)).andThen (State.updateFault_changes _)

/-! ### Cabin unit (chapter 5) -/

theorem State.queueService_changes (s : State) : OnlyChanges [.ports] s s.queueService :=
  s.requestOwn_changes _ _ _ _

theorem State.queueSweep_changes (s : State) : OnlyChanges [.ports] s s.queueSweep :=
  s.requestOwn_changes _ _ _ _

theorem State.serviceChange_changes (s : State) (service : ServiceState) (request : Nat) :
    OnlyChanges [.cabin, .ports, .page, .panel] s (s.serviceChange service request) :=
  ((s.cabinDo_changes _).andThen (c := [.cabin, .ports]) (State.queueService_changes _)).andThen
    (State.pageNotice_changes _ _)

theorem State.serviceButton_changes (s : State) (b : ServiceButton) :
    OnlyChanges [.cabin, .ports, .page, .panel] s (s.serviceButton b) :=
  .ite (s.cabinDo_changes _).widen (s.serviceChange_changes _ _)

theorem State.serviceDone_changes (s : State) (d : Nat) :
    OnlyChanges [.cabin, .ports, .page, .panel] s (s.serviceDone d) :=
  .ite (s.serviceChange_changes _ _) (s.cabinDo_changes _).widen

theorem State.sweepChange_changes (s : State) (sweep : SweepState) :
    OnlyChanges [.cabin, .ports, .page, .panel] s (s.sweepChange sweep) :=
  ((s.cabinDo_changes _).andThen (c := [.cabin, .ports]) (State.queueSweep_changes _)).andThen
    (State.pageNotice_changes _ _)

theorem State.sweepEdge_changes (s : State) (x : SweepEdge) :
    OnlyChanges [.cabin, .ports, .page, .panel] s (s.sweepEdge x) := by
  unfold State.sweepEdge
  split
  · exact s.sweepChange_changes _
  · exact .refl _ _

theorem State.takeTally_changes (s : State) (before after : List TallyEntry) :
    OnlyChanges [.cabin, .page, .panel] s (s.takeTally before after) :=
  .ite (s.cabinDo_changes _).widen ((s.cabinDo_changes _).andThen (State.pageNotice_changes _ _))

theorem State.tallyAll_changes (s : State) (sweep : SweepState) :
    OnlyChanges [.cabin, .page, .panel] s (s.tallyAll sweep) := by
  unfold State.tallyAll
  split
  · exact .refl _ _
  · exact s.takeTally_changes _ _

theorem State.takeSweep_changes (s : State) (p : SweepPayload) :
    OnlyChanges [.cabin, .page, .panel] s (s.takeSweep p) := by
  unfold State.takeSweep
  refine .ite ?_ (.refl _ _)
  split
  · exact .refl _ _
  · exact .ite (s.takeTally_changes _ _) (.refl _ _)

theorem State.cabinTakesAlarm_changes (s : State) (event : SweepEvent) :
    OnlyChanges [.cabin, .ports, .page, .panel] s (s.cabinTakesAlarm event) := by
  unfold State.cabinTakesAlarm
  split
  · exact .refl _ _
  · exact .ite (OnlyChanges.trans (.ite (.refl _ _) (s.serviceChange_changes _ _))
      (State.sweepChange_changes _ _)) (s.tallyAll_changes _).widen
  · exact .ite (.ite (.refl _ _) (s.sweepChange_changes _)) (s.tallyAll_changes _).widen

theorem State.cabinEntersListening_changes (s : State) :
    OnlyChanges [.cabin] s s.cabinEntersListening := s.cabinDo_changes _

theorem State.lineMoves_changes (s : State) (n : Nat) (high : Bool) :
    OnlyChanges [.cabin, .pins] s (s.lineMoves n high) := by
  have moved : OnlyChanges [.pins] s
      { s with pins := { s.pins with lines := s.pins.lines.set n high } } := by
    intro b hb
    cases b <;> first
      | rfl
      | simp at hb
  unfold State.lineMoves
  exact .ite (.refl _ _) (.ite (moved.andThen (State.cabinDo_changes _ _)) moved.widen)

theorem State.inputOccurs_changes (s : State) (n : Nat) :
    OnlyChanges [.trig, .page, .panel] s (s.inputOccurs n) := s.cascade_changes _

theorem State.countedEdge_changes (s : State) (n : Nat) (f : LineFunction) :
    OnlyChanges [.cabin, .ports, .trig, .page, .panel] s (s.countedEdge n f) := by
  unfold State.countedEdge
  split
  · exact .refl _ _
  · exact .ite (s.sweepEdge_changes _).widen (.refl _ _)
  · exact .ite (s.serviceButton_changes _).widen (.refl _ _)
  · exact .ite (s.serviceButton_changes _).widen (.refl _ _)
  · exact .ite (s.sweepEdge_changes _).widen (.refl _ _)
  · exact .ite (s.sweepEdge_changes _).widen (.refl _ _)
  · exact (s.inputOccurs_changes n).andThen (State.pagePresence_changes _)
  · exact (s.inputOccurs_changes n).widen

theorem State.debounceEnds_changes (s : State) (n : Nat) :
    OnlyChanges [.cabin, .ports, .trig, .page, .panel] s (s.debounceEnds n) := by
  unfold State.debounceEnds
  dsimp only
  exact .ite (.ite (s.cabinDo_changes _).widen
    (.ite ((s.cabinDo_changes _).andThen (State.countedEdge_changes _ _ _))
      (s.cabinDo_changes _).widen)) (.refl _ _)

theorem State.takeCabinInfo_changes (s : State) (p : CabinPayload) :
    OnlyChanges [.cabin, .page, .panel] s (s.takeCabinInfo p) :=
  .ite ((s.cabinDo_changes _).andThen (State.pageNotice_changes _ _)) (.refl _ _)

theorem State.takeCabin_changes (s : State) (p : CabinPayload) :
    OnlyChanges [.cabin, .ports, .page, .panel] s (s.takeCabin p) := by
  unfold State.takeCabin
  refine .ite ?_ (.refl _ _)
  split
  · exact (s.takeCabinInfo_changes p).andThen (State.serviceDone_changes _ _)
  · exact (s.takeCabinInfo_changes p).widen

theorem State.cabinReport_changes (s : State) : OnlyChanges [.ports] s s.cabinReport :=
  .ite (OnlyChanges.ite (c := s.queueService.cabin.sweep = .idle) s.queueService_changes
    (s.queueService_changes.trans (State.queueSweep_changes _))) (.refl _ _)

/-! ### Alarm state unit (chapter 2) -/

theorem State.heardOn_changes (s : State) (p : Port) (f : Schedule → Schedule) :
    OnlyChanges [.start] s (s.heardOn p f) := by
  refine .ite ?_ (.refl _ _)
  intro b hb
  cases b <;> first
    | rfl
    | simp at hb

theorem State.alarmNotice_changes (s : State) (before after : Level) (event : SweepEvent) :
    OnlyChanges [.route, .ports, .cabin, .muster, .trig, .panel, .ind, .page] s
      (s.alarmNotice before after event) := by
  have last (t : State) : OnlyChanges [.route, .ports, .cabin, .muster, .trig, .panel, .ind, .page]
      t ((t.indicatorTakes after).pageTakesAlarm after) :=
    (t.indicatorTakes_changes _).andThen (State.pageTakesAlarm_changes _ _)
  have whole : OnlyChanges [.route, .ports, .cabin, .muster, .trig, .panel, .ind, .page] s
      (let t := if before.emergency = after.emergency then s else s.reevaluateAllEvent
       let t := t.cabinTakesAlarm event
       let t := t.musterTakesAlarm after
       let t := t.triggerTakesAlarm before after
       let t := t.panelDo (fun e p => p.takeAlarm e before after)
       (t.indicatorTakes after).pageTakesAlarm after) := by
    refine OnlyChanges.trans ?_ (last _)
    refine OnlyChanges.trans ?_ (State.panelDo_changes _ _).widen
    refine OnlyChanges.trans ?_ (State.triggerTakesAlarm_changes _ _ _).widen
    refine OnlyChanges.trans ?_ (State.musterTakesAlarm_changes _ _).widen
    refine OnlyChanges.trans ?_ (State.cabinTakesAlarm_changes _ _).widen
    exact .ite (.refl _ _) s.reevaluateAllEvent_changes.widen
  unfold State.alarmNotice
  split
  · exact .refl _ _
  · exact last s
  · exact whole
  · exact whole

theorem State.changeAlarm_changes (s : State) (origin : Nat) (p : AlarmPayload)
    (newEpoch : Bool) : OnlyChanges [.alarm, .start] s (s.changeAlarm origin p newEpoch) :=
  (s.alarmDo_changes _).andThen (State.mapSchedules_changes _ _)

/-- What an accepted ALARM frame may change. -/
theorem State.acceptAlarm_changes (s : State) (origin : Nat) (p : AlarmPayload)
    (newEpoch : Bool) :
    OnlyChanges [.alarm, .start, .route, .ports, .cabin, .muster, .trig, .panel, .ind, .page] s
      (s.acceptAlarm origin p newEpoch) :=
  (s.changeAlarm_changes _ _ _).andThen (State.alarmNotice_changes _ _ _ _)

theorem State.takeAlarmFrame_changes (s : State) (origin : Nat) (p : AlarmPayload) :
    OnlyChanges [.alarm, .start, .route, .ports, .cabin, .muster, .trig, .panel, .ind, .page] s
      (s.takeAlarmFrame origin p).1 := by
  unfold State.takeAlarmFrame
  split
  · exact .refl _ _
  · split
    · exact s.acceptAlarm_changes _ _ _
    · exact s.acceptAlarm_changes _ _ _
    · exact .refl _ _
    · exact (s.alarmDo_changes _).widen

theorem State.hearAlarm_changes (s : State) (p : Port) (a : AlarmPayload) :
    OnlyChanges [.start] s (s.hearAlarm p a) := .ite (s.heardOn_changes _ _) (.refl _ _)

theorem State.zoneChanged_changes (s : State) :
    OnlyChanges [.route, .ports, .muster, .trig, .page, .panel] s s.zoneChanged :=
  s.reevaluateAllEvent_changes.andThen (State.musterReview_changes _)

theorem State.putReports_changes (s : State) (key : Nat × Nat) (t : List ZoneReport) :
    OnlyChanges [.alarm, .start] s (s.putReports key t) :=
  (s.alarmDo_changes _).andThen (State.mapSchedules_changes _ _)

theorem State.storeOverFull_changes (s : State) (r : ZoneReport) :
    OnlyChanges [.alarm, .start, .route, .ports, .muster, .trig, .page, .panel] s
      (s.storeOverFull r).1 := by
  unfold State.storeOverFull
  split
  · exact (s.alarmDo_changes _).widen
  · exact ((s.putReports_changes _ _).andThen (State.alarmDo_changes _ _)
      (c := [.alarm, .start])).andThen (State.zoneChanged_changes _)

theorem State.takeZoneFrame_changes (s : State) (origin : Nat) (p : ZonePayload) :
    OnlyChanges [.alarm, .start, .route, .ports, .muster, .trig, .page, .panel] s
      (s.takeZoneFrame origin p).1 := by
  unfold State.takeZoneFrame
  split
  · dsimp only
    split
    · split
      · exact (s.putReports_changes _ _).andThen (State.zoneChanged_changes _)
      · exact .refl _ _
    · split
      · exact (s.alarmDo_changes _).andThen (State.zoneChanged_changes _)
      · exact s.storeOverFull_changes _
  · exact .refl _ _

theorem State.hearZone_changes (s : State) (p : Port) (origin : Nat) (z : ZonePayload) :
    OnlyChanges [.start] s (s.hearZone p origin z) := by
  unfold State.hearZone
  split
  · exact .ite (s.heardOn_changes _ _) (.refl _ _)
  · exact .refl _ _

theorem State.musterTakesReassignment_changes (s : State) (zone : Nat) (kind : PointKind) :
    OnlyChanges [.muster, .page, .panel] s (s.musterTakesReassignment zone kind) :=
  .ite s.musterReview_changes (.refl _ _)

theorem State.acceptReassign_changes (s : State) (origin : Nat) (p : ReassignPayload) :
    OnlyChanges [.alarm, .start, .muster, .page, .panel] s (s.acceptReassign origin p) :=
  ((s.alarmDo_changes _).andThen (c := [.alarm, .start]) (State.mapSchedules_changes _ _)).andThen
    (State.musterTakesReassignment_changes _ _ _)

theorem State.takeReassignFrame_changes (s : State) (origin : Nat) (p : ReassignPayload) :
    OnlyChanges [.alarm, .start, .muster, .page, .panel] s (s.takeReassignFrame origin p).1 := by
  unfold State.takeReassignFrame
  split
  · split
    · split
      · exact s.acceptReassign_changes _ _
      · split
        · exact s.acceptReassign_changes _ _
        · exact .refl _ _
    · exact (s.alarmDo_changes _).widen
  · exact .refl _ _

theorem State.hearReassign_changes (s : State) (p : Port) (r : ReassignPayload) :
    OnlyChanges [.start] s (s.hearReassign p r) := by
  unfold State.hearReassign
  split
  · exact .ite (s.heardOn_changes _ _) (.refl _ _)
  · exact .refl _ _

/-! ### Start block, indicator unit and status responder (chapters 11 and 12) -/

theorem State.usePort_changes (s : State) (p : Port) (rate : BitRate) :
    OnlyChanges [.ports] s (s.usePort p rate) := s.putPort_changes _ _

theorem State.entersConfigFault_changes (s : State) (image : List Byte) (good : Bool) :
    OnlyChanges [.start, .ports, .page, .panel, .ind] s (s.entersConfigFault image good) := by
  unfold State.entersConfigFault
  refine OnlyChanges.trans ?_ (State.updateFault_changes _).widen
  refine OnlyChanges.trans ?_ (State.finishPage_changes _ _ _).widen
  refine OnlyChanges.trans ?_ (State.panelDo_changes _ _).widen
  exact (s.startDo_changes _).andThen (State.usePort_changes _ _ _)

theorem State.portsEnterListening_changes (s : State) :
    OnlyChanges [.ports] s s.portsEnterListening :=
  .ite ((s.usePort_changes _ _).trans (State.usePort_changes _ _ _)) (s.usePort_changes _ _)

theorem State.entersListening_changes (s : State) (config : ConfigCopy) (clamps : Nat) :
    OnlyChanges [.start, .ports, .route, .muster, .trig, .cabin, .page, .panel] s
      (s.entersListening config clamps) := by
  unfold State.entersListening
  refine OnlyChanges.trans ?_ (State.pageEntersListening_changes _).widen
  refine OnlyChanges.trans ?_ (State.panelDo_changes _ _).widen
  refine OnlyChanges.trans ?_ (State.triggerEntersListening_changes _).widen
  refine OnlyChanges.trans ?_ (State.cabinEntersListening_changes _).widen
  refine OnlyChanges.trans ?_ (State.routeEntersListening_changes _).widen
  exact (s.startDo_changes _).andThen (State.portsEnterListening_changes _)

theorem State.imageReadEnds_changes (s : State) (image : List Byte) :
    OnlyChanges [.start, .ports, .route, .muster, .trig, .cabin, .page, .panel, .ind] s
      (s.imageReadEnds image) := by
  unfold State.imageReadEnds
  refine .ite ?_ (.refl _ _)
  split
  · exact (s.entersConfigFault_changes _ _).widen
  · exact (s.entersConfigFault_changes _ _).widen
  · exact (s.entersListening_changes _ _).widen

theorem State.listenEnds_changes (s : State) :
    OnlyChanges [.start, .ports, .route, .time] s s.listenEnds := by
  unfold State.listenEnds
  refine .ite ?_ (.refl _ _)
  refine OnlyChanges.trans ?_ (State.timeDo_changes _ _).widen
  refine OnlyChanges.trans ?_ (State.routeDo_changes _ _).widen
  refine OnlyChanges.trans ?_ (State.cabinReport_changes _).widen
  refine OnlyChanges.trans ?_
    (OnlyChanges.foldl (fun t p => (t.requestToken_changes p _).widen) _ _)
  refine OnlyChanges.trans ?_
    (OnlyChanges.foldl (fun t p => (t.requestOwn_changes p _ _ _).widen) _ _)
  exact (s.startDo_changes _).widen

theorem State.takeSolicit_changes (s : State) (p : Port) :
    OnlyChanges [.start] s (s.takeSolicit p) := by
  unfold State.takeSolicit
  refine .ite ?_ (.refl _ _)
  split
  · exact .refl _ _
  · exact s.startDo_changes _

theorem State.respond_changes (s : State) (p : Port) (marked : Bool) (cls : FrameClass)
    (key : QueueKey) (origin : Nat) (payload : List Byte) :
    OnlyChanges [.start, .ports] s (s.respond p marked cls key origin payload) :=
  .ite (s.startDo_changes _).widen (s.request_changes _ _ _ _).widen

theorem State.responseEnds_changes (s : State) (p : Port) :
    OnlyChanges [.start, .ports] s (s.responseEnds p) := by
  unfold State.responseEnds
  split
  · exact .refl _ _
  · refine .ite ?_ (.refl _ _)
    refine OnlyChanges.trans ?_ (State.requestToken_changes _ _ _).widen
    refine OnlyChanges.trans ?_
      (OnlyChanges.foldl (fun t r => t.respond_changes _ _ _ _ _ _) _ _)
    refine OnlyChanges.trans ?_
      (OnlyChanges.foldl (fun t r => t.respond_changes _ _ _ _ _ _) _ _)
    refine OnlyChanges.trans (s.startDo_changes
      (fun b => { b with schedules := b.schedules.put p none })).widen ?_
    unfold State.respondAlarm
    split
    · exact State.respond_changes _ _ _ _ _ _ _
    · exact .refl _ _

theorem State.blinkEdges_changes (s : State) : OnlyChanges [.ind, .panel] s s.blinkEdges := by
  have lamp : OnlyChanges [.ind] s
      { s with ind := { s.ind with phaseOn := s.blinkOn, lamp := s.lampFor s.ind.level } } := by
    intro b hb
    cases b <;> first
      | rfl
      | simp at hb
  exact .ite (.refl _ _) (lamp.andThen (State.panelDo_changes _ _))

theorem State.abandonEdges_changes (s : State) : OnlyChanges [.ind] s s.abandonEdges := by
  refine .ite ?_ (.refl _ _)
  intro b hb
  cases b <;> first
    | rfl
    | simp at hb

theorem State.takeQuery_changes (s : State) (p : Port) (q : QueryPayload) :
    OnlyChanges [.panel, .ports, .status] s (s.takeQuery p q) := by
  have counted (t : State) : OnlyChanges [.status] t
      { t with status := { t.status with queriesAnswered := bump t.status.queriesAnswered } } := by
    intro b hb
    cases b <;> first
      | rfl
      | simp at hb
  unfold State.takeQuery
  refine .ite ?_ (.refl _ _)
  refine OnlyChanges.trans ?_ (counted _).widen
  refine OnlyChanges.trans ?_ (State.requestOwn_changes _ _ _ _ _).widen
  exact .ite (s.panelDo_changes _).widen (.refl _ _)

/-! ### Receiving (R155, R156) -/

theorem State.lengthError_changes (s : State) (p : Port) :
    OnlyChanges [.bus, .ports] s (s.lengthError p) :=
  (s.busDo_changes _).andThen (State.noteBad_changes _ _)

theorem State.checkError_changes (s : State) (p : Port) :
    OnlyChanges [.bus, .ports] s (s.checkError p) :=
  (s.busDo_changes _).andThen (State.noteBad_changes _ _)

theorem State.unknownClass_changes (s : State) (p : Port) :
    OnlyChanges [.bus, .ports, .ind] s (s.unknownClass p) :=
  (s.busDo_changes _).andThen (State.noteGood_changes _ _)

theorem State.malformed_changes (s : State) : OnlyChanges [.bus] s s.malformed :=
  s.busDo_changes _

theorem State.countReceived_changes (s : State) (p : Port) :
    OnlyChanges [.ports] s (s.countReceived p) := s.putPort_changes _ _

/-- What a received frame may change: everything but the clock, the pins and the waiting commands. -/
theorem classHandler_changes (p : Port) (cls : FrameClass) (f : RxFrame) (h : State → State)
    (hh : classHandler p cls f = some h) (s : State) :
    OnlyChanges [.start, .ports, .bus, .time, .alarm, .route, .muster, .prog, .cabin, .trig,
      .page, .panel, .ind, .status] s (h s) := by
  cases cls <;> simp only [classHandler, Option.map_eq_some_iff] at hh
  · obtain ⟨a, -, rfl⟩ := hh
    exact ((s.takeAlarmFrame_changes _ _).andThen (State.hearAlarm_changes _ _ _)
      (c := [.alarm, .start, .route, .ports, .cabin, .muster, .trig, .panel, .ind, .page])).andThen
      (State.relay_changes _ _ _ _ _)
  · obtain ⟨a, -, rfl⟩ := hh
    exact ((s.takeZoneFrame_changes _ _).andThen (State.hearZone_changes _ _ _ _)
      (c := [.alarm, .start, .route, .ports, .muster, .trig, .page, .panel])).andThen
      (State.relay_changes _ _ _ _ _)
  · obtain ⟨a, -, rfl⟩ := hh
    exact ((s.takeReassignFrame_changes _ _).andThen (State.hearReassign_changes _ _ _)
      (c := [.alarm, .start, .muster, .page, .panel])).andThen (State.relay_changes _ _ _ _ _)
  · obtain ⟨a, -, rfl⟩ := hh
    exact (s.takeSweep_changes _).widen
  · obtain ⟨a, -, rfl⟩ := hh
    exact (s.takeAdvert_changes _ _ _).widen
  · obtain ⟨a, -, rfl⟩ := hh
    exact (s.takeBeacon_changes _ _).widen
  · split at hh
    · cases hh
      exact (s.takeSolicit_changes _).widen
    · cases hh
  · split at hh
    · cases hh
      exact .refl _ _
    · cases hh
  · obtain ⟨a, -, rfl⟩ := hh
    exact (s.takeCabin_changes _).widen
  · split at hh
    · cases hh
      exact .refl _ _
    · cases hh
  · obtain ⟨a, -, rfl⟩ := hh
    exact (s.takeQuery_changes _ _).widen
  · obtain ⟨a, -, rfl⟩ := hh
    exact (s.takeItemFrame_changes _).andThen (State.relay_changes _ _ _ _ _)
  · obtain ⟨a, -, rfl⟩ := hh
    exact (s.takeWithdrawFrame_changes _).andThen (State.relay_changes _ _ _ _ _)

theorem State.takeFrame_changes (s : State) (p : Port) (cls : FrameClass) (f : RxFrame) :
    OnlyChanges [.start, .ports, .bus, .time, .alarm, .route, .muster, .prog, .cabin, .trig,
      .page, .panel, .ind, .status] s (s.takeFrame p cls f) := by
  unfold State.takeFrame
  refine .ite (.refl _ _) (.ite ?_ s.malformed_changes.widen)
  split
  · rename_i h hh
    exact (s.countReceived_changes p).widen.trans (classHandler_changes p cls f h hh _)
  · exact s.malformed_changes.widen

theorem State.receiveFrame_changes (s : State) (p : Port) (cls : FrameClass) (f : RxFrame) :
    OnlyChanges [.start, .ports, .bus, .time, .alarm, .route, .muster, .prog, .cabin, .trig,
      .page, .panel, .ind, .status] s (s.receiveFrame p cls f) :=
  .ite (.refl _ _) (.ite (s.lengthError_changes p).widen
    ((s.noteGood_changes p).widen.trans (State.takeFrame_changes _ _ _ _)))

theorem State.receiveOctets_changes (s : State) (p : Port) (octets : List Byte) :
    OnlyChanges [.start, .ports, .bus, .time, .alarm, .route, .muster, .prog, .cabin, .trig,
      .page, .panel, .ind, .status] s (s.receiveOctets p octets) := by
  unfold State.receiveOctets
  refine .ite (.refl _ _) ?_
  split
  · exact (s.lengthError_changes p).widen
  · exact (s.checkError_changes p).widen
  · exact (s.unknownClass_changes p).widen
  · exact s.receiveFrame_changes _ _ _

end Sys2Proof.Machine
end

