-- ==== Sys2Proof/Laws/Images.lean ====
section
/-! SUPPORT. Laws of the image reader (R168, R170, R171, R172): what a clamped reading gives and how many fields it
counts as moved, one law for each way readings are put together; the sum of words octet by octet; and which cabins a
tally lists. -/

namespace Sys2Proof.Machine

/-! ### Clamped readings (R172) -/

/-- A reading answers v and raises the count of clamps by k, whatever the count so far. -/
def Clamp.Gives {α : Type} (m : Clamp α) (v : α) (k : Nat) : Prop := ∀ n, m n = (v, n + k)

/-- How many fields, each with its lowest and highest value and the value it has, lie outside their ranges. -/
def outsideRange (fields : List (Nat × Nat × Nat)) : Nat :=
  fields.countP (fun f => decide (f.2.2 < f.1 ∨ f.2.1 < f.2.2))

@[simp] theorem outsideRange_nil : outsideRange [] = 0 := rfl

theorem outsideRange_cons (f : Nat × Nat × Nat) (l : List (Nat × Nat × Nat)) :
    outsideRange (f :: l) = outsideRange [f] + outsideRange l := by
  unfold outsideRange
  rw [List.countP_cons, List.countP_cons, List.countP_nil]
  omega

theorem outsideRange_append (a b : List (Nat × Nat × Nat)) :
    outsideRange (a ++ b) = outsideRange a + outsideRange b := List.countP_append

/-- A value that needs no reading moves no field. -/
theorem Clamp.gives_pure {α : Type} (v : α) : Clamp.Gives (pure v) v (outsideRange []) := fun _ => rfl

/-- A field is brought into its range, and counted where it lay outside. -/
theorem Clamp.gives_clampTo {lo hi : Nat} (v : Nat) (h : lo ≤ hi) :
    Clamp.Gives (clampTo lo hi v) (max lo (min hi v)) (outsideRange [(lo, hi, v)]) := by
  intro n
  unfold clampTo outsideRange
  rw [List.countP_singleton]
  by_cases below : v < lo
  · rw [if_pos below, if_pos (by simp [below]), show max lo (min hi v) = lo by omega]
  · rw [if_neg below]
    by_cases above : hi < v
    · rw [if_pos above, if_pos (by simp [above]), show max lo (min hi v) = hi by omega]
    · rw [if_neg above, if_neg (by simp; omega), show max lo (min hi v) = v by omega]
      rfl

/-- Two readings one after the other add up. -/
theorem Clamp.Gives.bind {α β : Type} {m : Clamp α} {f : α → Clamp β} {v : α} {w : β} {j k : Nat}
    (first : m.Gives v j) (second : (f v).Gives w k) : Clamp.Gives (m >>= f) w (j + k) := by
  intro n
  show f (m n).1 (m n).2 = _
  rw [first n, second, Nat.add_assoc]

/-- A field read before other readings joins their fields. -/
theorem Clamp.Gives.clampThen {β : Type} {lo hi v : Nat} {f : Nat → Clamp β} {w : β}
    {l : List (Nat × Nat × Nat)} (h : lo ≤ hi)
    (rest : (f (max lo (min hi v))).Gives w (outsideRange l)) :
    Clamp.Gives (clampTo lo hi v >>= f) w (outsideRange ((lo, hi, v) :: l)) := by
  rw [outsideRange_cons]
  exact (gives_clampTo v h).bind rest

/-- Readings of some fields before readings of others. -/
theorem Clamp.Gives.andThen {α β : Type} {m : Clamp α} {f : α → Clamp β} {v : α} {w : β}
    {a b : List (Nat × Nat × Nat)} (first : m.Gives v (outsideRange a))
    (second : (f v).Gives w (outsideRange b)) :
    Clamp.Gives (m >>= f) w (outsideRange (a ++ b)) := by
  rw [outsideRange_append]
  exact first.bind second

/-- The elements of a list read in turn. -/
theorem Clamp.gives_mapM {α : Type} {f : Nat → Clamp α} {v : Nat → α} {k : Nat → Nat}
    (each : ∀ i, (f i).Gives (v i) (k i)) :
    ∀ l : List Nat, Clamp.Gives (l.mapM f) (l.map v) (l.map k).sum
  | [] => fun _ => rfl
  | a :: l => by
    rw [List.mapM_cons]
    have rest : Clamp.Gives (do let y ← l.mapM f; pure (v a :: y)) (v a :: l.map v)
        ((l.map k).sum + 0) := (gives_mapM each l).bind (gives_pure _)
    exact (each a).bind rest

/-- The elements of a list read in turn, by the fields each reads. -/
theorem Clamp.gives_list {α : Type} {f : Nat → Clamp α} {v : Nat → α}
    {fields : Nat → List (Nat × Nat × Nat)}
    (each : ∀ i, (f i).Gives (v i) (outsideRange (fields i))) (l : List Nat) :
    Clamp.Gives (l.mapM f) (l.map v) (outsideRange (l.flatMap fields)) := by
  have sum : (l.map (fun i => outsideRange (fields i))).sum = outsideRange (l.flatMap fields) := by
    induction l with
    | nil => rfl
    | cons a l ih => rw [List.flatMap_cons, outsideRange_append, ← ih]; rfl
  exact sum ▸ gives_mapM each l

/-- A good image gives the configuration copy that its reading gives, with that many clamps. -/
theorem readImage_good {image : List Byte} {c : ConfigCopy} {k : Nat}
    (h : readImage image = .good c k) : readConfig image 0 = (c, k) := by
  unfold readImage at h
  generalize readConfig image 0 = r at h ⊢
  generalize imageCheckGood image = check at h
  generalize structureGood image = structural at h
  obtain ⟨a, b⟩ := r
  cases check <;> cases structural <;> simp only [if_true, Bool.false_eq_true, if_false] at h
  · cases h
  · cases h
  · cases h
  · split at h
    · injection h with h1 h2
      rw [h1, h2]
    · cases h

/-! ### Words and cabins (R170, R171, R92) -/

/-- The sum of the first k words of a list of octets, word by word. -/
theorem wordSum_take : ∀ (k : Nat) (l : List Byte), 2 * k ≤ l.length →
    wordSum (l.take (2 * k)) = ((List.range k).map (fun i => imageWord l (2 * i))).sum
  | 0, _, _ => rfl
  | k + 1, a :: b :: l, h => by
    rw [show 2 * (k + 1) = 2 * k + 1 + 1 by omega, List.take_succ_cons, List.take_succ_cons, wordSum,
      wordSum_take k l (by simp at h; omega), List.range_succ_eq_map, List.map_cons, List.sum_cons,
      List.map_map]
    rfl
  | _ + 1, [_], h => by simp at h; omega
  | _ + 1, [], h => by simp at h

theorem mem_rangeCabins (r : Nat × Nat) (n : Nat) : n ∈ rangeCabins r ↔ r.1 ≤ n ∧ n ≤ r.2 := by
  unfold rangeCabins
  rw [List.mem_range'_1]
  omega

/-- A tally of at most two ranges lists every cabin of them, once. -/
theorem tallyCabins_spec : ∀ l : List (Nat × Nat), l.length ≤ 2 → (∀ r ∈ l, r.1 ≤ r.2) →
    (tallyCabins l).Nodup ∧ ∀ n, n ∈ tallyCabins l ↔ ∃ r ∈ l, r.1 ≤ n ∧ n ≤ r.2
  | [], _, _ => ⟨List.nodup_nil, by simp [tallyCabins]⟩
  | [r], _, _ => ⟨List.nodup_range', by simp [tallyCabins, mem_rangeCabins]⟩
  | [r, q], _, h => by
    have hr := h r (by simp)
    have hq := h q (by simp)
    simp only [tallyCabins]
    by_cases low : r.1 ≤ q.1 <;> simp only [low, if_true, if_false] <;>
      refine ⟨List.nodup_append.mpr ⟨List.nodup_range', List.nodup_range', ?_⟩, ?_⟩
    all_goals first
      | intro x hx y hy
        rw [mem_rangeCabins] at hx hy
        simp only at hx hy
        omega
      | intro n
        simp only [List.mem_append, mem_rangeCabins, List.mem_cons, List.not_mem_nil, or_false,
          exists_eq_or_imp, exists_eq_left]
        omega
  | _ :: _ :: _ :: _, h, _ => by simp at h

end Sys2Proof.Machine
end

