-- ==== Sys2Proof/Laws/Pages.lean ====
section
/-! SUPPORT. The end of every page selector event: what the panel controller keeps of its own state when it
takes a hand-over, what a page is composed from, and that the page handed is the arbiter's as it stands. -/

set_option Elab.async false

namespace Sys2Proof.Machine

/-! ### What the panel controller keeps -/

/-- Two panel states of the same kind, quiet value, level and luminance side. -/
def PanelCtl.sameSide (p q : PanelCtl) : Prop :=
  q.kind = p.kind ∧ q.quiet = p.quiet ∧ q.level = p.level ∧ q.luminance = p.luminance ∧
    q.target = p.target ∧ q.stepCount = p.stepCount ∧ q.rampTick = p.rampTick ∧
    q.dayLevel = p.dayLevel ∧ q.timeoutRun = p.timeoutRun ∧ q.retryDeadline = p.retryDeadline

theorem PanelCtl.sameSide.refl (p : PanelCtl) : p.sameSide p := by simp [PanelCtl.sameSide]

theorem PanelCtl.sameSide.trans {p q r : PanelCtl} (h : p.sameSide q) (k : q.sameSide r) :
    p.sameSide r := by
  unfold PanelCtl.sameSide at *
  simp_all

theorem PanelCtl.tryChoice_side (e : PanelEnv) (p : PanelCtl) : p.sameSide (p.tryChoice e) := by
  unfold PanelCtl.tryChoice
  split
  · dsimp only
    split <;> simp [PanelCtl.sameSide, PanelCtl.pruneWindow, PanelCtl.startFull,
      PanelCtl.startPartial]
  · exact PanelCtl.sameSide.refl p

theorem PanelCtl.tryLit_side (e : PanelEnv) (p : PanelCtl) : p.sameSide (p.tryLit e) := by
  unfold PanelCtl.tryLit PanelCtl.beginLit
  split
  · split <;> simp [PanelCtl.sameSide]
  · exact PanelCtl.sameSide.refl p

theorem PanelCtl.takePageChange_side (e : PanelEnv) (fields : List FieldRecord) (urgent : Bool)
    (p : PanelCtl) : p.sameSide (p.takePageChange e fields urgent) := by
  unfold PanelCtl.takePageChange
  dsimp only
  split
  · simp [PanelCtl.sameSide]
  · split
    · refine PanelCtl.sameSide.trans ?_ (PanelCtl.tryChoice_side e _)
      simp [PanelCtl.sameSide]
    · refine PanelCtl.sameSide.trans ?_ (PanelCtl.tryLit_side e _)
      simp [PanelCtl.sameSide]

theorem PanelCtl.takeField_side (e : PanelEnv) (h : HandedField) (p : PanelCtl) :
    p.sameSide (p.takeField e h) := by
  unfold PanelCtl.takeField
  dsimp only
  split
  · simp [PanelCtl.sameSide]
  · split <;> simp [PanelCtl.sameSide]

theorem PanelCtl.takeFieldChange_side (e : PanelEnv) (fields : List HandedField) (p : PanelCtl) :
    p.sameSide (p.takeFieldChange e fields) := by
  have all : ∀ (l : List HandedField) (p : PanelCtl),
      p.sameSide (l.foldl (fun p h => p.takeField e h) p) := by
    intro l
    induction l with
    | nil => exact PanelCtl.sameSide.refl
    | cons h l ih => exact fun p => PanelCtl.sameSide.trans (p.takeField_side e h) (ih _)
  unfold PanelCtl.takeFieldChange PanelCtl.tryStart
  split
  · exact PanelCtl.sameSide.trans (all fields p) (PanelCtl.tryChoice_side e _)
  · exact PanelCtl.sameSide.trans (all fields p) (PanelCtl.tryLit_side e _)

/-! ### What a page is composed from -/

/-- Two states that agree on all a page is composed from compose the same page. -/
theorem State.composePage_congr {s t : State} (clock : t.clock = s.clock) (start : t.start = s.start)
    (time : t.time = s.time) (route : t.route = s.route) (muster : t.muster = s.muster)
    (prog : t.prog = s.prog) (cabin : t.cabin = s.cabin) (level : t.page.level = s.page.level)
    (spot : t.page.spotItem = s.page.spotItem) (kind : t.panel.kind = s.panel.kind) :
    t.composePage = s.composePage := by
  have cfg : t.cfg = s.cfg := by simp [State.cfg, start]
  have minute : t.programmeMinute = s.programmeMinute := by
    simp [State.programmeMinute, State.shipMs, clock, time]
  have entry : t.routeEntry = s.routeEntry := by
    funext d
    simp [State.routeEntry, route]
  have figures : t.figures = s.figures := by
    funext d
    simp [State.figures, entry, cfg]
  have item : t.item = s.item := by
    funext d
    simp [State.item, prog]
  have label : t.labelOf = s.labelOf := by
    funext d
    simp [State.labelOf, cfg]
  have selection : t.selection = s.selection := by
    have : t.selects = s.selects := by
      funext i
      simp [State.selects, cfg, time, minute]
    simp [State.selection, this, prog]
  have pages : t.programmePages = s.programmePages := by
    simp [State.programmePages, selection, cfg]
  have venue : t.venueText = s.venueText := by
    funext i
    simp [State.venueText, figures]
  have status : t.statusText = s.statusText := by
    funext i
    simp [State.statusText, time, minute, kind]
  have header : t.headerFields = s.headerFields := by
    simp [State.headerFields, time, minute, level]
  have signs : t.visibleSignposts = s.visibleSignposts := by
    simp [State.visibleSignposts, cfg, entry, level]
  have rows : t.signpostRows = s.signpostRows := by
    funext r
    have : t.signpostRow = s.signpostRow := by
      funext r i
      simp [State.signpostRow, signs, figures, level, kind]
    simp [State.signpostRows, this]
  have target : t.targetFields = s.targetFields := by
    funext a
    have deck : t.targetDeck = s.targetDeck := by
      funext d
      simp [State.targetDeck, label]
    have name : t.targetLabel = s.targetLabel := by
      funext d
      simp [State.targetLabel, label]
    simp [State.targetFields, muster, deck, name]
  have distance : t.targetDistance = s.targetDistance := by
    simp [State.targetDistance, muster, figures]
  have bearing : t.targetBearing = s.targetBearing := by
    simp [State.targetBearing, muster, figures]
  have sweep : t.sweepLine = s.sweepLine := by simp [State.sweepLine, cabin]
  have tally : t.tallyFields = s.tallyFields := by simp [State.tallyFields, cabin]
  have must : t.musterFields = s.musterFields := by
    funext a
    simp [State.musterFields, cfg, header, target, distance, sweep, rows, bearing, tally, level, kind]
  funext page
  cases page with
  | fallback => simp [State.composePage, State.fallbackFields, level]
  | abandon => simp [State.composePage, must]
  | muster => simp [State.composePage, must]
  | spotlight => simp [State.composePage, State.spotlightFields, spot, item, header, status, venue]
  | cabin => simp [State.composePage, State.cabinFields, cfg, cabin]
  | rotation r =>
    cases r with
    | route => simp [State.composePage, header, rows]
    | programme k =>
      have line : t.programmeLine = s.programmeLine := by
        funext a b
        simp [State.programmeLine, selection, status, venue]
      simp [State.composePage, State.programmeFields, header, pages, cfg, line]

/-! ### The end of an event (R121, R136) -/

/-- A hand-over changes of the page selector the handed contents and the page change counter alone. -/
theorem State.handOver_page (s : State) (cause : PageCause) :
    ∃ n, (s.handOver cause).page = { s.page with
      handed := some ⟨s.page.selected, s.composePage s.page.selected⟩, pageChanges := n } := by
  unfold State.handOver
  dsimp only
  split
  · exact ⟨_, rfl⟩
  · split
    · exact ⟨_, rfl⟩
    · split <;> exact ⟨_, rfl⟩

/-- A hand-over leaves the kind, quiet and luminance side of the panel controller alone. -/
theorem State.handOver_side (s : State) (cause : PageCause) :
    s.panel.sameSide (s.handOver cause).panel := by
  unfold State.handOver
  dsimp only
  split
  · exact PanelCtl.takePageChange_side _ _ _ _
  · split
    · exact PanelCtl.takePageChange_side _ _ _ _
    · split
      · exact PanelCtl.sameSide.refl _
      · exact PanelCtl.takeFieldChange_side _ _ _

/-- What the arbiter reads of the page selector, and whether the node runs. -/
theorem State.arbiter_congr {s t : State} (start : t.start = s.start)
    (level : t.page.level = s.page.level) (spot : t.page.spotItem = s.page.spotItem)
    (rotation : t.page.rotation = s.page.rotation) : t.arbiter = s.arbiter := by
  have cfg : t.cfg = s.cfg := by simp [State.cfg, start]
  have running : t.running = s.running := by simp [State.running, start]
  simp [State.arbiter, cfg, running, level, spot, rotation]

/-- Where the arbiter chooses a rotation page, the rotation position alone says which. -/
theorem State.arbiter_rotation {s t : State} (rotates : s.arbiter.isRotation = true)
    (start : t.start = s.start) (level : t.page.level = s.page.level)
    (spot : t.page.spotItem = s.page.spotItem) : t.arbiter = .rotation t.page.rotation := by
  have cfg : t.cfg = s.cfg := by simp [State.cfg, start]
  have running : t.running = s.running := by simp [State.running, start]
  revert rotates
  unfold State.arbiter
  rw [running, level, spot, cfg]
  cases s.running <;> cases s.page.level <;> cases s.page.spotItem <;>
    by_cases cabin : s.cfg.role = .cabin <;> simp [Page.isRotation, cabin]

/-- The page selected at the end of an event is the arbiter's. -/
theorem State.select_arbiter (s : State) (dwell : Nat) (set : Bool) :
    (s.pageDo (fun p => p.select s.arbiter dwell set)).page.selected =
      (s.pageDo (fun p => p.select s.arbiter dwell set)).arbiter := by
  by_cases rotates : s.arbiter.isRotation = true
  · have keeps : (s.page.select s.arbiter dwell set).level = s.page.level ∧
        (s.page.select s.arbiter dwell set).spotItem = s.page.spotItem := by
      unfold PageSelector.select
      rw [if_pos rotates]
      split <;> exact ⟨rfl, rfl⟩
    rw [State.arbiter_rotation (t := s.pageDo (fun p => p.select s.arbiter dwell set)) rotates rfl
      keeps.1 keeps.2]
    simp only [State.pageDo]
    unfold PageSelector.select
    rw [if_pos rotates]
    split
    · exact State.arbiter_rotation rotates rfl rfl rfl
    · rfl
  · have same : s.page.select s.arbiter dwell set =
        { s.page with selected := s.arbiter, dwell := none } := by
      unfold PageSelector.select
      rw [if_neg rotates]
    simp only [State.pageDo, same]
    exact (State.arbiter_congr rfl rfl rfl rfl).symm

/-- At the end of a page selector event the arbiter's page is selected and handed as it stands. -/
theorem State.finishPage_shown (s : State) (set : Bool) (cause : PageCause) :
    (s.finishPage set cause).shown := by
  unfold State.finishPage
  generalize hu : s.pageDo (fun p => p.select s.arbiter s.dwellFrom set) = u
  have sel : u.page.selected = u.arbiter := hu ▸ s.select_arbiter s.dwellFrom set
  obtain ⟨n, hp⟩ := u.handOver_page cause
  have fr := u.handOver_changes cause
  have at_ (b : Block) (h : b ∉ [Block.page, Block.panel]) := fr b h
  have start : (u.handOver cause).start = u.start := at_ .start (by simp)
  refine ⟨?_, ?_⟩
  · rw [State.arbiter_congr start (by rw [hp]) (by rw [hp]) (by rw [hp]), ← sel, hp]
  · rw [State.composePage_congr (s := u) (at_ .clock (by simp)) start (at_ .time (by simp))
      (at_ .route (by simp)) (at_ .muster (by simp)) (at_ .prog (by simp)) (at_ .cabin (by simp))
      (by rw [hp]) (by rw [hp]) (u.handOver_side cause).1, hp]

end Sys2Proof.Machine
end

