-- ==== Sys2Proof/Laws/Receive.lean ====
section
/-! SUPPORT. A frame that passes its tests at a running node: what the frame handler makes of it before its
owning block sees it. -/

namespace Sys2Proof.Machine

/-- The node as the owning block finds it. -/
def State.heard (s : State) (p : Port) : State := (s.noteGood p).countReceived p

theorem State.heard_changes (s : State) (p : Port) : OnlyChanges [.ports, .ind] s (s.heard p) :=
  (s.noteGood_changes p).andThen (State.countReceived_changes _ p)

theorem State.noteGood_ports_other (s : State) (p : Port) :
    (s.noteGood p).ports.get (otherPort p) = s.ports.get (otherPort p) := by
  unfold State.noteGood
  dsimp only
  split
  · exact s.ports.get_put_otherPort _ _
  · split <;> exact s.ports.get_put_otherPort _ _

theorem State.heard_other (s : State) (p : Port) :
    (s.heard p).ports.get (otherPort p) = s.ports.get (otherPort p) :=
  ((s.noteGood p).ports.get_put_otherPort _ _).trans (s.noteGood_ports_other p)

theorem State.heard_counts (s : State) (p : Port) :
    (s.ports.get p).countsFrame ((s.heard p).ports.get p) := by
  unfold State.heard State.countReceived State.noteGood
  dsimp only
  split
  · rename_i up
    simp [up, PortCtl.countsFrame]
  · rename_i down
    split
    · simp [down, PortCtl.countsFrame]
    · simp [down, PortCtl.countsFrame]

/-- The handler of a frame's class works on the node as it finds it. -/
theorem State.receive_eq {s : State} {p : Port} {cls : FrameClass} {f : RxFrame}
    {handle : State → State} (h : s.hears p f) (k : classHandler p cls f = some handle) :
    s.receiveFrame p cls f = handle (s.heard p) := by
  obtain ⟨used, -, short, stranger, range⟩ := h
  have start : (s.noteGood p).start = s.start := s.noteGood_changes p .start (by simp)
  have cfg : (s.noteGood p).cfg = s.cfg := (s.noteGood_changes p).cfg_eq (by simp)
  unfold State.receiveFrame
  rw [if_neg (by simp [used]), if_neg (by omega)]
  unfold State.takeFrame
  rw [start, cfg, if_neg (fun e => stranger e.2), if_pos range, k]
  rfl

/-- A flood frame may be relayed after its block has finished: only the bus side changes. -/
theorem relayed_changes (p : Port) (cls : FrameClass) (f : RxFrame) (r : State × Bool) :
    OnlyChanges [.bus, .ports] r.1 (relayed p cls f r) := r.1.relay_changes p cls f r.2

end Sys2Proof.Machine
end

