-- ==== Sys2Proof/Laws/Triggers.lean ====
section
/-! SUPPORT. Laws of a cascade (R112, R113): one that no set waits for leaves the state alone, and one that a
single set waits for is that set's activation. -/

namespace Sys2Proof.Machine

/-- A set that is ENABLED stands in the list of sets. -/
theorem TriggerUnit.set_enabled {u : TriggerUnit} {n : Nat} (h : (u.set n).state = .enabled) :
    u.sets[n]? = some (u.set n) := by
  unfold TriggerUnit.set at *
  cases at_ : u.sets[n]? with
  | none => simp [at_, TriggerSet.reset] at h
  | some y => simp [at_]

/-- A set's turn passes where the set is not ENABLED, already activated, or waits for something else. -/
theorem cascadeTurn_passes (o : Occurrence) (k : Cascade) (n : Nat)
    (h : (k.state.trig.set n).state = .enabled →
      n ∈ k.activated ∨ k.state.matchesFactor (k.state.trig.set n).cfg o = false) :
    cascadeTurn o k n = k := by
  unfold cascadeTurn
  rw [if_neg]
  simp only [Cascade.ready, Bool.and_eq_true, decide_eq_true_eq, Bool.not_eq_true',
    List.contains_eq_mem, decide_eq_false_iff_not]
  rintro ⟨⟨enabled, fresh⟩, waits⟩
  rcases h enabled with old | other
  · exact fresh old
  · rw [other] at waits; cases waits

/-- The cascade of an occurrence that no ENABLED set waits for leaves the state alone (R112). -/
theorem State.cascade_quiet (s : State) (o : Occurrence)
    (h : ∀ y ∈ s.trig.sets, y.state = .enabled → s.matchesFactor y.cfg o = false) :
    s.cascade o = s := by
  have turn (n : Nat) : cascadeTurn o ⟨s, []⟩ n = ⟨s, []⟩ :=
    cascadeTurn_passes o _ n
      (fun enabled => .inr (h _ (List.mem_of_getElem? (TriggerUnit.set_enabled enabled)) enabled))
  unfold State.cascade
  simp [turn]

/-- Where the one ENABLED set waits for an occurrence, and afterwards no other set is ENABLED that it chains to or
that waits for it too, the cascade is that set's action and once-step (R112, R113). -/
theorem State.cascade_one (s : State) (o : Occurrence) {m : Nat} {y : TriggerSet}
    (sole : s.trig.soleEnabled m y) (waits : s.matchesFactor y.cfg o = true)
    (others : ∀ j < 4, j ≠ m →
      ((s.actAndOnce o m false y.cfg).trig.set j).state = .enabled → y.cfg.chain.getLsbD j = false ∧
        (s.actAndOnce o m false y.cfg).matchesFactor
          ((s.actAndOnce o m false y.cfg).trig.set j).cfg o = false) :
    s.cascade o = s.actAndOnce o m false y.cfg := by
  obtain ⟨small, at_, enabled, one⟩ := sole
  have set : s.trig.set m = y := by simp [TriggerUnit.set, at_]
  generalize hu : s.actAndOnce o m false y.cfg = u at others ⊢
  have before (j : Nat) (h : j ≠ m) : cascadeTurn o ⟨s, []⟩ j = ⟨s, []⟩ :=
    cascadeTurn_passes o _ j
      (fun e => absurd (one j _ (TriggerUnit.set_enabled e) e) h)
  have chain (j : Nat) (h : j < 4) :
      (y.cfg.chain.getLsbD j && Cascade.ready ⟨u, [m]⟩ j) = false := by
    by_cases same : j = m
    · simp [Cascade.ready, same]
    · by_cases e : (u.trig.set j).state = .enabled
      · simp [(others j h same e).1]
      · simp [Cascade.ready, e]
  have turn : cascadeTurn o ⟨s, []⟩ m = ⟨u, [m]⟩ := by
    unfold cascadeTurn
    simp only [Cascade.ready, set, enabled, waits, decide_true, List.contains_nil, Bool.not_false,
      Bool.and_self, if_true]
    unfold activate
    simp only [set, hu, List.foldl_cons, List.foldl_nil, chain 0 (by omega), chain 1 (by omega),
      chain 2 (by omega), chain 3 (by omega), Bool.false_eq_true, if_false]
  have rest (j : Nat) (h : j < 4) : cascadeTurn o ⟨u, [m]⟩ j = ⟨u, [m]⟩ :=
    cascadeTurn_passes o _ j (fun e => by
      by_cases same : j = m
      · simp [same]
      · exact .inr (others j h same e).2)
  unfold State.cascade
  have : m = 0 ∨ m = 1 ∨ m = 2 ∨ m = 3 := by omega
  rcases this with rfl | rfl | rfl | rfl <;> simp [before, turn, rest]

end Sys2Proof.Machine
end

