-- ==== Sys2Proof/WellFormed.lean ====
section
/-! DEFINITION. Which commands can come from the outside at all: the header fields of a frame fit
their octets, its payload fits the largest frame, and a configuration read ends with the whole image. -/

namespace Sys2Proof

/-- A received frame whose header fields fit the octets of R164 and whose payload is 0..120 octets. -/
def RxFrame.wellFormed (f : RxFrame) : Bool :=
  decide (f.hop < 256) && decide (f.sender < 65536) && decide (f.origin < 65536) &&
    decide (f.payload.length ≤ 120)

/-- The well-formed commands. Operands held in `Fin` types are in range by their type. -/
def Instr.wellFormed : Instr → Bool
  | .powerOn _ => true
  | .lineReset _ _ => true
  | .configReadEnd image => decide (image.length = 496)
  | .listenPeriodEnd => true
  | .alarmFrame _ f => f.wellFormed
  | .zoneFrame _ f => f.wellFormed
  | .reassignFrame _ f => f.wellFormed
  | .sweepFrame _ f => f.wellFormed
  | .advertFrame _ f => f.wellFormed
  | .beaconFrame _ f => f.wellFormed
  | .solicitFrame _ f => f.wellFormed
  | .serviceFrame _ f => f.wellFormed
  | .cabinFrame _ f => f.wellFormed
  | .statusFrame _ f => f.wellFormed
  | .queryFrame _ f => f.wellFormed
  | .itemFrame _ f => f.wellFormed
  | .withdrawFrame _ f => f.wellFormed
  | .frameReceiveError _ _ => true
  | .transmissionStart _ => true
  | .sent _ => true
  | .arbitrationLost _ => true
  | .transmitFault _ => true
  | .cellExpiry dest _ => decide (1 ≤ dest ∧ dest ≤ 255)
  | .holdDownDeadline dest => decide (1 ≤ dest ∧ dest ≤ 255)
  | .flush dest => decide (1 ≤ dest ∧ dest ≤ 255)
  | .periodicFullRequest => true
  | .gapExpiry _ => true
  | .returnDeadline => true
  | .inputLineTransition _ _ => true
  | .debounceDeadline _ => true
  | .sourceExpiry sender => decide (1 ≤ sender ∧ sender ≤ 4095)
  | .slewTick => true
  | .staleDeadline => true
  | .minuteNotice => true
  | .beaconDeadline => true
  | .intervalTimerTick _ => true
  | .intervalTimerExpiry _ => true
  | .dwellDeadline => true
  | .spotlightDeadline => true
  | .presenceDeadline => true
  | .loadEnd => true
  | .panelBusyFall => true
  | .panelBusyRise => true
  | .gapAnyExpiry => true
  | .gapSameExpiry _ => true
  | .windowEntryExpiry => true
  | .refreshTimeout => true
  | .busyWatchExpiry => true
  | .retryDeadline => true
  | .rampTick => true
  | .blinkEdge => true
  | .responseDeadline _ => true
  | .abandonLampEdge => true

end Sys2Proof
end

