-- ==== Sys2Proof/Tests/Slice0.lean ====
section
/-! SUPPORT. Tests of the model against numbers the manual prints (each names its rule or worked case), the
smoke test of the well-formedness checks, and for every statement a concrete state that meets its hypotheses,
clause by clause, at boundary values. -/

set_option Elab.async false

namespace Sys2Proof.Tests

open Sys2Proof Sys2Proof.Machine

/-! ### Small states -/

/-- The state a command leaves. -/
def after (c : Instr) (s : State) : State :=
  match exec c s with
  | .next t => t
  | .fault _ => s
  | .refused _ => s

/-- Every command answers a next state. -/
theorem exec_answers (c : Instr) (s : State) : ∃ t, exec c s = .next t := by
  cases c <;> exact ⟨_, rfl⟩

/-- Every step answers a next state. -/
theorem step_answers (s : State) : ∃ t, step s = .next t := by
  unfold step
  split
  · exact ⟨_, rfl⟩
  · exact exec_answers _ _

/-- Octets from numbers. -/
def oct (l : List Nat) : List Byte := l.map (BitVec.ofNat 8)

/-- The node of the worked case 1.8, with the assignment and labels of 3.5. -/
def corridor : ConfigCopy :=
  { ConfigCopy.unset with
    nodeNumber := 212
    deck := 7
    zone := 6
    neighbours :=
      [⟨311, .a, 180, .level, false, 6, 7, .ahead⟩, ⟨318, .a, 95, .stairDown, false, 6, 6, .down⟩,
        ⟨226, .a, 60, .level, true, 7, 7, .left⟩]
    labels :=
      [⟨4, .assembly, 5, 6, oct [1]⟩, ⟨5, .assembly, 5, 7, oct [2]⟩, ⟨6, .assembly, 5, 5, oct [3]⟩,
        ⟨20, .embark, 4, 2, oct [4]⟩, ⟨21, .embark, 4, 7, oct [5]⟩]
    assemblyPrimary := 4
    assemblyAlternate := 5
    embarkPrimary := 20
    embarkAlternate := 21
    timers := [⟨300, .single⟩, ⟨1, .repeating⟩] }

/-- The same node as cabin 5121. -/
def cabin : ConfigCopy := { corridor with role := .cabin, cabinNumber := 5121 }

/-- A running node on port A at node clock 100,000, with nothing held. -/
def nodeOf (c : ConfigCopy) : State :=
  { State.reset with
    clock := 100000
    start := { State.reset.start with
      lifecycle := .operating, config := some c, configGood := some true }
    ports := ⟨{ PortCtl.reset with inUse := true, bitRate := some .kbit125 }, PortCtl.reset⟩
    page := { PageSelector.reset with
      selected := if c.role = .cabin then .cabin else .rotation .route } }

/-- The running corridor node. -/
def node : State := nodeOf corridor

/-- Change port A. -/
def onA (f : PortCtl → PortCtl) (s : State) : State := { s with ports := { s.ports with a := f s.ports.a } }

/-- A level held and in use everywhere, with an epoch. -/
def atLevel (e : Nat) (l : Level) (s : State) : State :=
  { s with
    alarm := { s.alarm with epoch := some e, level := l }
    trig := { s.trig with level := l }
    page := { s.page with level := l }
    panel := { s.panel with level := l }
    ind := { s.ind with level := l } }

/-- A frame from node 311 of origin 9. -/
def rx (payload : List Nat) : RxFrame := ⟨3, 311, 9, oct payload⟩

/-! ### Well-formedness: each check refuses an ill-formed command -/

theorem test_wf_frame : (Instr.alarmFrame .a (rx [0, 1, 2])).wellFormed = true := by decide

theorem test_wf_hop : (Instr.alarmFrame .a { rx [] with hop := 256 }).wellFormed = false := by decide

theorem test_wf_sender : (Instr.zoneFrame .a { rx [] with sender := 65536 }).wellFormed = false := by decide

theorem test_wf_origin : (Instr.itemFrame .b { rx [] with origin := 65536 }).wellFormed = false := by decide

theorem test_wf_payload :
    (Instr.statusFrame .b (rx (List.replicate 121 0))).wellFormed = false := by decide +kernel

theorem test_wf_image : (Instr.configReadEnd (oct (List.replicate 495 0))).wellFormed = false := by
  decide +kernel

theorem test_wf_image_whole : (Instr.configReadEnd (oct (List.replicate 496 0))).wellFormed = true := by
  decide +kernel

theorem test_wf_cell_dest : (Instr.cellExpiry 0 0).wellFormed = false := by decide

theorem test_wf_hold_dest : (Instr.holdDownDeadline 256).wellFormed = false := by decide

theorem test_wf_flush_dest : (Instr.flush 0).wellFormed = false ∧ (Instr.flush 255).wellFormed = true := by
  decide

theorem test_wf_source : (Instr.sourceExpiry 4096).wellFormed = false ∧
    (Instr.sourceExpiry 0).wellFormed = false ∧ (Instr.sourceExpiry 4095).wellFormed = true := by
  decide

/-! ### Steps -/

/-- R169: 10 µs is a reset, which clears the node clock. -/
theorem test_lineReset_ten : (after (.lineReset .lit 10) node).clock = 0 ∧
    (after (.lineReset .lit 10) node).start.cause = .line := by decide

/-- R169: a shorter pulse is none. -/
theorem test_lineReset_nine : after (.lineReset .lit 9) node = node := by decide +kernel

theorem test_powerOn : (after (.powerOn .lit) node).start.lifecycle = .loading ∧
    (after (.powerOn .lit) node).panel.kind = .lit := by decide

theorem witness_StepRunsFrontCommand :
    { node with pending := [.slewTick, .rampTick] }.pending = .slewTick :: [.rampTick] ∧
      node.pending = [] := ⟨rfl, rfl⟩

theorem witness_ResetsRestore : 10 ≤ 10 ∧ 9 < 10 := by decide

/-! ### Images (R168 to R172) -/

/-- An image: runs of octets laid over zeros, from the given places on, the first uppermost, with its check word. -/
def imageOf (runs : List (Nat × List Nat)) : List Byte :=
  let body := (List.range 494).map (fun i =>
    match runs.find? (fun r => decide (r.1 ≤ i ∧ i < r.1 + r.2.length)) with
    | some r => BitVec.ofNat 8 (r.2.getD (i - r.1) 0)
    | none => 0#8)
  body ++ octets2 (wordSum body % 65536)

/-- The octets every field in range takes; the role, ports and neighbours are the caller's. -/
def fairImage (more : List (Nat × List Nat)) : List Byte :=
  imageOf (more ++
    [(0, [0, 212, 7, 6, 0, 0, 0]), (7, [0, 0, 0, 0, 0]), (360, [12, 10, 1, 44, 0, 150, 20, 10, 0, 30, 1, 244]),
      (372, [4, 15, 8, 0, 50, 2, 0, 240, 0, 180, 5, 8, 12, 0, 60]),
      (389, [0, 1, 0, 1, 0, 1, 0, 1]), (453, [0, 1, 0, 0, 1, 0]),
      (459, [3, 4, 2, 88, 0, 7, 161, 32, 0, 0, 0, 27, 119, 64, 0, 90, 0, 0, 78, 32, 8, 10]),
      (481, [3, 32, 0, 150, 4, 1, 0, 40, 3, 232, 1, 244, 20])])

/-- A good image without clamps, on one port. -/
def plainImage : List Byte := fairImage []

/-- A good image with one clamp (deck 40), on both ports, of a node with one sweep range. -/
def twoPortImage : List Byte := fairImage [(2, [40]), (5, [1]), (11, [1]), (389, [0, 5, 0, 9])]

/-- The clamps an image comes to, where it is good. -/
def clampsOf (image : List Byte) : Option (Nat × ConfigCopy) :=
  match readImage image with
  | .good c n => some (n, c)
  | .checkFailed => none
  | .structuralError => none

theorem good_of_clampsOf (image : List Byte) (n : Nat) (b : Bool)
    (h : (clampsOf image).map (fun r => (r.1, r.2.bothPorts)) = some (n, b)) :
    ∃ c, readImage image = .good c n ∧ c.bothPorts = b := by
  unfold clampsOf at h
  split at h
  · next c m hm =>
    simp only [Option.map_some, Option.some.injEq, Prod.mk.injEq] at h
    exact ⟨c, by rw [hm, h.1], h.2⟩
  · simp at h
  · simp at h

/-- R170: an erased memory fails the check. -/
theorem test_image_erased : readImage (oct (List.replicate 496 255)) = .checkFailed := by decide +kernel

/-- R170, R171: an all-zero image passes the check and fails the structural tests. -/
theorem test_image_zero : readImage (oct (List.replicate 496 0)) = .structuralError := by decide +kernel

theorem test_image_plain : (clampsOf plainImage).map (fun r => ((r.1, r.2.bothPorts),
    (r.2.role, r.2.sweepRanges.isEmpty), r.2.nodeNumber, r.2.panel.gapSameMicros)) =
    some ((0, false), (.corridor, true), 212, 1800000) := by decide +kernel

theorem test_image_two_ports : (clampsOf twoPortImage).map (fun r => ((r.1, r.2.bothPorts),
    (r.2.role, r.2.sweepRanges), r.2.deck, tallyCabins r.2.sweepRanges)) =
    some ((1, true), (.corridor, [(5, 9)]), 31, [5, 6, 7, 8, 9]) := by decide +kernel

/-- A command read of a good image leads to LISTENING (R173). -/
theorem test_configReadEnd : (after (.configReadEnd plainImage) State.reset).start.lifecycle = .listening ∧
    (after (.configReadEnd plainImage) State.reset).page.selected = .rotation .route := by decide +kernel

theorem witness_GoodImageStartsListening :
    State.reset.start.lifecycle = .loading ∧ State.reset.page.level = .normal ∧
      State.reset.page.spotItem = none ∧ plainImage.length = 496 ∧ twoPortImage.length = 496 ∧
      (∃ c, readImage plainImage = .good c 0 ∧ c.bothPorts = false) ∧
      (∃ c, readImage twoPortImage = .good c 1 ∧ c.bothPorts = true) ∧
      ((clampsOf plainImage).map (fun r => (r.2.role, r.2.sweepRanges.isEmpty)) = some (.corridor, true)) ∧
      (clampsOf twoPortImage).map (fun r => (r.2.role, r.2.sweepRanges)) =
        some (.corridor, [(5, 9)]) := by
  refine ⟨rfl, rfl, rfl, by decide +kernel, by decide +kernel, good_of_clampsOf _ _ _ ?_,
    good_of_clampsOf _ _ _ ?_, ?_, ?_⟩
  · simpa [Option.map_map] using congrArg (Option.map (fun r => r.1)) test_image_plain
  · simpa [Option.map_map] using congrArg (Option.map (fun r => r.1)) test_image_two_ports
  · simpa [Option.map_map] using congrArg (Option.map (fun r => r.2.1)) test_image_plain
  · simpa [Option.map_map] using congrArg (Option.map (fun r => r.2.1)) test_image_two_ports

/-- R170: the words of a memory of 0xFF throughout sum to 65289 and not to its last word, those of a memory of 0
throughout to its last word. -/
theorem witness_BadImageFaults :
    let blank := oct (List.replicate 496 255)
    let zero := oct (List.replicate 496 0)
    State.reset.start.lifecycle = .loading ∧ blank.length = 496 ∧ zero.length = 496 ∧
      wordSum (blank.take 494) % 65536 = 65289 ∧ imageWord blank 494 = 65535 ∧
      readImage blank = .checkFailed ∧ wordSum (zero.take 494) % 65536 = imageWord zero 494 ∧
      imageWord zero 0 = 0 ∧ readImage zero = .structuralError := by decide +kernel

/-- R171: each count one above its largest and a node number of 0 or 4096 are structural errors, each largest is
none; the first octets of an image decide. -/
theorem test_image_structure :
    (∀ l ∈ [[0, 212, 0, 0, 0, 0, 0, 7, 0, 0, 0, 0], [0, 212, 0, 0, 0, 0, 0, 0, 3, 0, 0, 0],
        [0, 212, 0, 0, 0, 0, 0, 0, 0, 17, 0, 0], [0, 212, 0, 0, 0, 0, 0, 0, 0, 0, 5, 0],
        [0, 212, 0, 0, 0, 0, 0, 0, 0, 0, 0, 3], [0, 0, 0, 0, 0, 0, 0, 6, 2, 16, 4, 2],
        [16, 0, 0, 0, 0, 0, 0, 6, 2, 16, 4, 2]], structureGood (oct l) = false) ∧
      structureGood (oct [15, 255, 0, 0, 0, 0, 0, 6, 2, 16, 4, 2]) = true := by decide +kernel

/-- R171: 65 cabins are a structural error of a corridor node and none of a cabin node; the largest counts and
node number and 64 cabins are none. -/
theorem test_image_cabins :
    let crowd := [(11, [2]), (389, [0, 1, 0, 40, 0, 65, 0, 41])]
    readImage (fairImage crowd) = .structuralError ∧ (clampsOf (fairImage ((4, [2]) :: crowd))).isSome = true ∧
      (clampsOf (fairImage [(0, [15, 255]), (7, [6, 2, 16, 4, 2]), (389, [0, 1, 0, 40, 0, 64, 0, 31])])).isSome =
        true := by decide +kernel

theorem witness_BadImageFaults_cabins :
    (fairImage [(11, [2]), (389, [0, 1, 0, 40, 0, 65, 0, 41])]).length = 496 ∧
      (List.range' 1 65).Nodup ∧ (List.range' 1 65).length = 65 ∧
      ∀ n ∈ List.range' 1 65, (1 ≤ n ∧ n ≤ 40) ∨ (41 ≤ n ∧ n ≤ 65) := by decide +kernel

/-- An image whose every field but node number, role and counts reads all ones. -/
def wildImage (role : Nat) : List Byte :=
  let body := oct ([15, 255, 255, 255, role, 255, 255, 6, 2, 16, 4, 2] ++ List.replicate 482 255)
  body ++ octets2 (wordSum body % 65536)

/-- R172, counted by hand from the ranges: 4 fields of octets 2 to 6, 7 of each of 6 neighbours, 1 of each of 2
anchored, 4 of each of 16 labels, 1 of each of 4 signposted, 2 of each of 2 ranges, 18 of octets 360 to 386, 2 of
each of 8 lines, 3 of each of 4 sets, 1 of each of 2 timers, 14 of the panel's and 3 of the last. -/
theorem test_image_clamps :
    (clampsOf (wildImage 1)).map (fun r => ((r.1, r.2.bothPorts), r.2.role, r.2.sweepRanges)) =
      some ((4 + 42 + 2 + 64 + 4 + 4 + 18 + 16 + 12 + 2 + 14 + 3, true), .stair,
        [(9999, 9999), (9999, 9999)]) := by decide +kernel

/-- R172: a cabin node reads its number in place of the ranges. -/
theorem test_image_clamps_cabin :
    (clampsOf (wildImage 2)).map (fun r => ((r.1, r.2.bothPorts), r.2.role, r.2.cabinNumber)) =
      some ((182, true), .cabin, 9999) := by decide +kernel

/-- R172: a range with its first cabin above its last is exchanged, one clamp. -/
theorem test_image_exchange :
    (clampsOf (fairImage [(11, [1]), (389, [0, 9, 0, 5])])).map (fun r => (r.1, r.2.sweepRanges)) =
      some (1, [(5, 9)]) := by decide +kernel

theorem witness_ImageFieldsClamped :
    (wildImage 1).length = 496 ∧ (wildImage 2).length = 496 ∧
      (∃ c, readImage (wildImage 1) = .good c 185 ∧ c.bothPorts = true) ∧
      ∃ c, readImage (wildImage 2) = .good c 182 ∧ c.bothPorts = true := by
  refine ⟨by decide +kernel, by decide +kernel, good_of_clampsOf _ _ _ ?_, good_of_clampsOf _ _ _ ?_⟩
  · simpa [Option.map_map] using congrArg (Option.map Prod.fst) test_image_clamps
  · simpa [Option.map_map] using congrArg (Option.map Prod.fst) test_image_clamps_cabin

/-- A node at the end of its listen period. -/
def listening (c : ConfigCopy) : State :=
  { nodeOf c with start := { (nodeOf c).start with
      lifecycle := .listening, listenDeadline := some 100000 } }

theorem witness_BetweenResets :
    ((∃ t, exec .minuteNotice node = .next t) ∧ resets .minuteNotice = false) ∧
      ((∃ t, exec .listenPeriodEnd (listening corridor) = .next t) ∧ resets .listenPeriodEnd = false) ∧
      (∃ t, exec (.alarmFrame .a (rx [2, 189, 0])) (atLevel 700 .general node) = .next t) ∧
      resets (.alarmFrame .a (rx [2, 189, 0])) = false ∧
      (atLevel 700 .general node).alarm.epoch = some 700 :=
  ⟨⟨exec_answers _ _, rfl⟩, ⟨exec_answers _ _, rfl⟩, exec_answers _ _, rfl, rfl⟩

/-- R173: at the end of the listen period the token stands before the SOLICIT. -/
theorem test_listenPeriodEnd :
    (after .listenPeriodEnd (listening corridor)).ports.a.queue.map (fun e => e.cls) =
      [.advert, .solicit] := by decide +kernel

theorem witness_ListenPeriodEnds :
    let s := { listening cabin with cabin := { CabinUnit.reset with sweep := .cleared } }
    s.start.lifecycle = .listening ∧ s.start.listenDeadline = some 100000 ∧ 100000 ≤ s.clock ∧
      s.ports.a.queue = [] ∧ s.ports.b.queue = [] ∧ s.ports.a.inUse = true ∧ s.ports.a.state = .up ∧
      s.ports.b.inUse = false ∧ s.cfg.role = .cabin ∧ s.cabin.sweep ≠ .idle := by decide

theorem witness_SolicitTaken :
    let f := rx []
    let busy := { node with start := { node.start with schedules := ⟨some ⟨100050, false, [], []⟩, none⟩ } }
    node.hears .a f ∧ busy.hears .a f ∧ (listening corridor).hears .a f ∧ f.payload = [] ∧
      node.start.lifecycle = .operating ∧ node.start.schedules.get .a = none ∧
      busy.start.schedules.get .a ≠ none ∧ (listening corridor).start.lifecycle = .listening := by
  decide +kernel

/-- R174: node 212 answers 125 ms after a SOLICIT (worked sequence 11.7). -/
theorem test_solicitFrame :
    (after (.solicitFrame .a (rx [])) node).start.schedules.a = some ⟨100125, false, [], []⟩ := by
  decide +kernel

/-- Zone reports 9/0 to 9/(n − 1), all CAUTION for zone 2. -/
def reports (n : Nat) : List ZoneReport :=
  (List.range n).map (fun i => ⟨9, i, 1, 2, 5, 5, .caution, 90000 + i⟩)

/-- Node 212 in the worked sequence 11.7, after the marks of node 193's answer. -/
def answering (n : Nat) : State :=
  { atLevel 701 .general node with
    alarm := { (atLevel 701 .general node).alarm with
      reports := reports n
      reassignments := [⟨6, .assembly, 5, 701, 1, 9⟩] }
    start := { node.start with schedules := ⟨some ⟨100000, true, [(9, 0)], []⟩, none⟩ } }

/-- Worked sequence 11.7: 9/1, the reassignment and the token go out, and two items are suppressed. -/
theorem test_responseDeadline :
    (after (.responseDeadline .a) (answering 2)).start.suppressedItems = 2 ∧
    (after (.responseDeadline .a) (answering 2)).ports.a.queue.map (fun e => e.key) =
      [.zoneReport 9 1, .place 6 0, .token] := by decide +kernel

theorem witness_ResponseDeadlineAnswers :
    let s := answering 15
    let c : Schedule := ⟨100000, true, [(9, 0)], []⟩
    s.start.lifecycle = .operating ∧ s.start.schedules.get .a = some c ∧ c.deadline ≤ s.clock ∧
      (s.ports.get .a).inUse = true ∧ (s.ports.get .a).state = .up ∧ (s.ports.get .a).queue = [] ∧
      s.reportLaw ∧ s.reassignLaw ∧ s.start.suppressedItems ≤ 65535 ∧
      (if c.alarmMark then [] else s.alarm.alarmPayload.toList).length +
        (s.alarm.reports.filter (fun r => !c.zoneMarks.contains (r.origin, r.number))).length +
        (s.alarm.reassignments.filter (fun r => !c.placeMarks.contains (r.zone, r.kind))).length = 15 := by
  decide +kernel

/-! ### The corridor bus (chapter 10) -/

/-- R164 prints this check of the nine octets 31 to 39. -/
theorem test_crc : crc16 (oct [0x31, 0x32, 0x33, 0x34, 0x35, 0x36, 0x37, 0x38, 0x39]) = 0x29B1#16 := by
  decide +kernel

/-- Worked sequence 4.8: version 3 is newer than 250, 200 is not newer than 3. -/
theorem test_newer : newer 8 3 250 = true ∧ newer 8 200 3 = false ∧ newer 8 131 3 = false := by decide

theorem witness_SerialNewer : 1 ≤ 8 ∧ 3 < 2 ^ 8 ∧ 250 < 2 ^ 8 := by decide

/-- A queued frame of the worked queue of 10.6. -/
def queued (cls : FrameClass) (key : QueueKey) (age : Nat) : QueueEntry :=
  ⟨cls, key, age, .fixed ⟨cls, 2, 140, 9, oct [age]⟩⟩

/-- The worked queue of 10.6 with n ITEM frames: ZONE 9/12, the token, and the ITEMs from 4001 on. -/
def worked (n : Nat) : List QueueEntry :=
  queued .zone (.zoneReport 9 12) 101 :: ⟨.advert, .token, 102, .token (.full 1)⟩ ::
    (List.range n).map (fun i => queued .item (.itemId (4001 + i)) (103 + i))

/-- A node whose port A holds the worked queue. -/
def pressed (n : Nat) : State := onA (fun c => { c with queue := worked n, nextAge := 117 }) node

/-- A request at a pressed port: how many entries wait, the key of the head, and the queue drops. -/
def pressing (cls : FrameClass) (key : QueueKey) : Nat × Option QueueKey × Nat :=
  let c := ((pressed 14).request .a cls key (.fixed ⟨cls, 2, 140, 9, []⟩)).ports.a
  (c.queue.length, c.queue.head?.map (fun e => e.key), c.queueDrops)

/-- 10.6 step 1: the same key keeps its place. -/
theorem test_request_same_key : pressing .zone (.zoneReport 9 12) = (16, some (.zoneReport 9 12), 0) := by
  decide +kernel

/-- 10.6 step 2: an ALARM displaces the youngest ITEM. -/
theorem test_request_displaces : pressing .alarm .whole = (16, some .whole, 1) := by decide +kernel

/-- 10.6 step 3: an ITEM of a new key is dropped. -/
theorem test_request_dropped : pressing .item (.itemId 4020) = (16, some (.zoneReport 9 12), 1) := by
  decide +kernel

theorem witness_RequestTaken :
    (State.reset.ports.get .a).inUse = false ∧
      (∀ n, n = 13 ∨ n = 14 → (pressed n).ports.a.inUse = true ∧
        (pressed n).start.lifecycle = .operating ∧ (pressed n).ports.a.state = .up ∧
        (pressed n).ports.a.queueLaw) ∧
      (pressed 13).ports.a.queue.length = 15 ∧ (pressed 14).ports.a.queue.length = 16 ∧
      (∃ x ∈ (pressed 14).ports.a.queue, x.cls = .item ∧ x.key = .itemId 4005) ∧
      (∀ x ∈ (pressed 14).ports.a.queue, ¬(x.cls = .alarm ∧ x.key = .whole)) ∧
      (onA (fun c => { c with state := .down }) node).ports.a.state = .down := by
  refine ⟨rfl, ?_, by decide +kernel, by decide +kernel, by decide +kernel, by decide +kernel, rfl⟩
  rintro n (rfl | rfl) <;> decide +kernel

theorem witness_QueueLawsKept : (pressed 14).queueLaw ∧
    (∃ t, step { pressed 14 with pending := [.sent .a] } = .next t) ∧
    (listening corridor).silenceLaw ∧ (pressed 14).silenceLaw ∧
    ∃ t, step { listening corridor with pending := [.alarmFrame .a (rx [2, 188, 2])] } = .next t :=
  ⟨by decide +kernel, step_answers _, by decide +kernel, by decide +kernel, step_answers _⟩

/-- A port with one entry queued. -/
def holding (content : QueueContent) : State :=
  onA (fun c => { c with queue := [⟨.advert, .token, 5, content⟩] }) node

/-- Entry 4 of the worked case 1.8, REACHABLE through slot 1. -/
def entry4 : RouteEntry :=
  { dest := 4
    kind := .assembly
    state := .reachable
    cost := 499
    hop := 3
    nextHop := .slot 1
    viaStair := true
    viaBoundary := false
    marks := ⟨.clear, .clear⟩
    pinned := true
    holdDownDeadline := none
    unreachableSince := none
    cells := [⟨.live, 420, 3, 455, false, false, 99000⟩, ⟨.live, 380, 2, 402, false, false, 99000⟩,
      ⟨.live, 510, 4, 230, false, false, 99000⟩, Cell.empty, Cell.empty, Cell.empty] }

/-- The node of 1.8 at GENERAL with the given entries. -/
def routing (entries : List RouteEntry) : State :=
  let s := atLevel 700 .general node
  { s with
    route := { s.route with entries := entries }
    muster := { s.muster with kind := some .assembly }
    page := { s.page with selected := .muster } }

/-- A node whose port A holds a token and whose table holds entry 4, marked. -/
def tokened (kind : TokenKind) : State :=
  { holding (.token kind) with
    route := { RouteEngine.reset with entries := [{ entry4 with marks := ⟨.set, .clear⟩ }] } }

theorem witness_TransmissionStarts :
    let s := holding .beacon
    let r := pressed 14
    s.start.lifecycle = .operating ∧ (s.ports.get .a).inUse = true ∧ (s.ports.get .a).state = .up ∧
      (s.ports.get .a).inFlight = none ∧ (s.ports.get .a).queue = [⟨.advert, .token, 5, .beacon⟩] ∧
      r.start.lifecycle = .operating ∧ (r.ports.get .a).inUse = true ∧ (r.ports.get .a).state = .up ∧
      (r.ports.get .a).inFlight = none ∧
      (r.ports.get .a).queue = queued .zone (.zoneReport 9 12) 101 :: (worked 14).tail ∧
      (queued .zone (.zoneReport 9 12) 101).content = .fixed ⟨.zone, 2, 140, 9, oct [101]⟩ := by
  decide +kernel

/-- 10.6 step 5: the head goes out and leaves 15. -/
theorem test_transmissionStart : (after (.transmissionStart .a) (pressed 14)).ports.a.queue.length = 15 ∧
    (after (.transmissionStart .a) (pressed 14)).ports.a.inFlight.map (fun f => f.age) = some 101 := by
  decide +kernel

/-- R161, R162: the token that carried entry 4 marks it carried. -/
theorem test_transmissionStart_token :
    (after (.transmissionStart .a) (tokened .triggered)).route.entries.map (fun e => e.marks.a) =
      [.carried] := by decide +kernel

theorem witness_TransmissionStarts_token :
    let holds (kind : TokenKind) (s : State) : List RouteEntry := (s.route.entries.filter (fun x =>
      match kind with
      | .full cursor => decide (cursor ≤ x.dest)
      | .triggered => decide (x.marks.get .a = .set))).take 12
    (tokened .triggered).start.lifecycle = .operating ∧ (tokened .triggered).ports.a.inUse = true ∧
      (tokened .triggered).ports.a.state = .up ∧ (tokened .triggered).ports.a.inFlight = none ∧
      (tokened .triggered).ports.a.queue = [⟨.advert, .token, 5, .token .triggered⟩] ∧
      (tokened (.full 4)).ports.a.queue = [⟨.advert, .token, 5, .token (.full 4)⟩] ∧
      (holds .triggered (tokened .triggered)).map (fun e => e.dest) = [4] ∧
      (holds (.full 4) (tokened (.full 4))).map (fun e => e.dest) = [4] ∧
      holds (.full 5) (tokened (.full 5)) = [] := by decide +kernel

/-- A port with a frame of the given class and source in flight, over the worked queue. -/
def flying (source : FlightOrigin) (cls : FrameClass) (key : QueueKey) (n : Nat) : State :=
  { pressed n with
    route := { RouteEngine.reset with entries := [{ entry4 with marks := ⟨.carried, .clear⟩ }] }
    ports := { (pressed n).ports with a := { (pressed n).ports.a with
      inFlight := some ⟨key, 90, source, ⟨cls, 0, 212, 9, oct [1, 2, 3]⟩⟩ } } }

theorem witness_FlightsEnd_sent :
    ((flying .fixed .alarm .whole 14).ports.get .a).inFlight =
        some ⟨.whole, 90, .fixed, ⟨.alarm, 0, 212, 9, oct [1, 2, 3]⟩⟩ ∧
      ((flying .triggeredToken .advert .token 14).ports.get .a).inFlight =
        some ⟨.token, 90, .triggeredToken, ⟨.advert, 0, 212, 9, oct [1, 2, 3]⟩⟩ ∧
      ((flying (.fullToken 4) .advert .token 14).ports.get .a).inFlight =
        some ⟨.token, 90, .fullToken 4, ⟨.advert, 0, 212, 9, oct [1, 2, 3]⟩⟩ ∧
      ((flying .beacon .beacon .whole 14).ports.get .a).inFlight =
        some ⟨.whole, 90, .beacon, ⟨.beacon, 0, 212, 9, oct [1, 2, 3]⟩⟩ := by decide

/-- R162: on SENT the carried mark becomes clear. -/
theorem test_sent : (after (.sent .a) (flying (.fullToken 4) .advert .token 0)).route.entries.map
    (fun e => e.marks.a) = [.clear] := by decide +kernel

/-- 10.6 step 4: after a fault the FULL cursor is the first id of the lost frame, and the marks are set. -/
theorem test_arbitrationLost :
    let t := after (.arbitrationLost .a) (flying (.fullToken 4) .advert .token 3)
    (t.ports.a.queue.getD 1 (queued .zone .whole 0)).content = .token (.full 4) ∧
      t.route.entries.map (fun e => e.marks.a) = [.set] := by decide +kernel

theorem witness_FlightsEnd :
    (∀ source ∈ [FlightOrigin.fixed, .beacon, .fullToken 4, .triggeredToken],
      (flying source .advert .token 13).ports.a.queueLaw ∧
      (∃ f, ((flying source .advert .token 13).ports.get .a).inFlight = some f ∧ f.source = source ∧
        ∃ x ∈ (flying source .advert .token 13).ports.a.queue, x.cls = f.frame.cls ∧ x.key = f.key)) ∧
      (∀ source ∈ [FlightOrigin.fixed, .beacon, .fullToken 4, .triggeredToken],
        (flying source .alarm .whole 13).ports.a.queue.length < 16 ∧
        ∃ f, ((flying source .alarm .whole 13).ports.get .a).inFlight = some f ∧
          ∀ x ∈ (flying source .alarm .whole 13).ports.a.queue,
            ¬(x.cls = f.frame.cls ∧ x.key = f.key)) ∧
      (∀ source ∈ [FlightOrigin.fixed, .beacon, .fullToken 4, .triggeredToken],
        (flying source .alarm .whole 14).ports.a.queueLaw ∧
        (flying source .alarm .whole 14).ports.a.queue.length = 16 ∧
        ∃ f, ((flying source .alarm .whole 14).ports.get .a).inFlight = some f ∧
          ∀ x ∈ (flying source .alarm .whole 14).ports.a.queue,
            ¬(x.cls = f.frame.cls ∧ x.key = f.key)) := by
  refine ⟨fun source h => ⟨?_, _, rfl, rfl, ?_⟩, fun source h => ⟨?_, _, rfl, ?_⟩,
    fun source h => ⟨?_, ?_, _, rfl, ?_⟩⟩ <;>
    revert h source <;> decide +kernel

/-- R153, R154: the sixteenth fault takes the port DOWN; the fifteenth does not. -/
theorem test_transmitFault :
    (after (.transmitFault .a) (onA (fun c => { c with faultRun := 15 })
      (flying .fixed .alarm .whole 0))).ports.a.state = .down ∧
    (after (.transmitFault .a) (onA (fun c => { c with faultRun := 14 })
      (flying .fixed .alarm .whole 0))).ports.a.state = .up := by decide +kernel

theorem witness_TransmitFaultCounts :
    (∀ source ∈ [FlightOrigin.fixed, .beacon, .fullToken 4, .triggeredToken],
      ∀ n ∈ [14, 15],
        let s := onA (fun c => { c with faultRun := n }) (flying source .advert .token 14)
        (s.ports.get .a).inFlight = some ⟨.token, 90, source, ⟨.advert, 0, 212, 9, oct [1, 2, 3]⟩⟩ ∧
          (s.ports.get .a).inUse = true ∧ (s.ports.get .a).queueLaw ∧ (s.ports.get .a).faultRun = n ∧
          (∃ x ∈ (s.ports.get .a).queue, x.cls = .advert ∧ x.key = .token)) ∧
      (∀ m ∈ [13, 14],
        let s := onA (fun c => { c with faultRun := 15 }) (flying .fixed .alarm .whole m)
        (s.ports.get .a).inFlight = some ⟨.whole, 90, .fixed, ⟨.alarm, 0, 212, 9, oct [1, 2, 3]⟩⟩ ∧
          (s.ports.get .a).queueLaw ∧ (s.ports.get .a).queue.length = m + 2 ∧
          ∀ x ∈ (s.ports.get .a).queue, ¬(x.cls = .alarm ∧ x.key = .whole)) := by
  decide +kernel

/-- R153, R154: the sixteenth fault over a full queue loses the 16 entries that then wait, and drops one. -/
theorem test_transmitFault_full :
    let t := after (.transmitFault .a) (onA (fun c => { c with faultRun := 15 })
      (flying .fixed .alarm .whole 14))
    (t.ports.a.lostAtDown, t.ports.a.queueDrops, t.ports.a.queue.length) = (16, 1, 0) := by decide +kernel

theorem witness_FramesStopAtHandler_handled :
    node.hears .a (rx [20, 1, 2, 7]) ∧ node.hears .a (rx [1, 2]) ∧
      (classHandler .a .service (rx [20, 1, 2, 7])).isSome = true ∧
      (classHandler .a .status (rx [1, 2])).isSome = true := by decide +kernel

/-- For each class well-formed payloads at the ends of its ranges, and one payload beyond each of them (R30, R37,
R43, R59, R66, R85, R86, R90, R97, R155, R174, R177). -/
def payloads : List (FrameClass × List (List Nat) × List (List Nat)) :=
  let item (id category start last venue title detail : Nat) : List Nat :=
    [0, id, 1, 5, 160, start, 5, 160, last, category, 0, 0, 0, 0, 0, 0, 1, 0, 2, venue] ++ List.replicate venue 65 ++
      title :: List.replicate title 65 ++ detail :: List.replicate detail 65
  [(.alarm, [[2, 188, 3]], [[2, 188, 4], [2, 188], [2, 188, 3, 0]]),
    (.zone, [[0, 0, 1, 0, 31, 3], [0, 0, 15, 31, 0, 0]],
      [[0, 0, 0, 0, 31, 3], [0, 0, 16, 0, 31, 3], [0, 0, 1, 32, 31, 3], [0, 0, 1, 0, 32, 3], [0, 0, 1, 0, 31, 4],
        [0, 0, 1, 0, 31]]),
    (.reassign, [[0, 0, 1, 1, 0, 0], [0, 0, 15, 0, 255, 0]],
      [[0, 0, 0, 1, 0, 0], [0, 0, 16, 0, 255, 0], [0, 0, 1, 2, 0, 0], [0, 0, 1, 1, 0]]),
    (.sweep, [[0, 1, 4, 5, 159, 255], [39, 15, 0, 255, 255, 255]],
      [[0, 0, 4, 5, 159, 255], [39, 16, 0, 255, 255, 255], [0, 1, 5, 5, 159, 255], [0, 1, 4, 5, 160, 0],
        [0, 1, 4, 255, 255, 254], [0, 1, 4, 5, 159]]),
    (.advert, [1 :: List.replicate 8 0, 12 :: List.replicate 96 0],
      [[0], 13 :: List.replicate 104 0, 1 :: List.replicate 7 0, 1 :: List.replicate 9 0, []]),
    (.beacon, [[1, 81, 127, 255, 3, 231, 15, 3]],
      [[1, 81, 128, 0, 3, 231, 15, 3], [1, 81, 127, 255, 3, 232, 15, 3], [1, 81, 127, 255, 3, 231, 16, 3],
        [1, 81, 127, 255, 3, 231, 15, 4], [1, 81, 127, 255, 3, 231, 15]]),
    (.solicit, [[]], [[0]]),
    (.service, [[0, 1, 2, 255], [39, 15, 0, 0]], [[0, 0, 2, 255], [39, 16, 0, 0], [0, 1, 3, 255], [0, 1, 2]]),
    (.cabin, [[0, 1, 9, 1, 0, 0, 1, 0, 0], [39, 15, 9, 0, 9, 3, 0, 7, 32] ++ List.replicate 32 65],
      [[0, 0, 9, 1, 0, 0, 1, 0, 0], [39, 16, 9, 1, 0, 0, 1, 0, 0], [0, 1, 9, 2, 0, 0, 1, 0, 0],
        [0, 1, 9, 1, 0, 0, 2, 0, 0], [0, 1, 9, 1, 0, 0, 1, 0, 33] ++ List.replicate 33 65,
        [0, 1, 9, 1, 0, 0, 1, 0, 1], [0, 1, 9, 1, 0, 0, 1, 0]]),
    (.status, [[0, 0]], [[0]]),
    (.query, [[0, 1, 0, 0], [15, 255, 0, 0]], [[0, 0, 0, 0], [16, 0, 0, 0], [0, 1, 0]]),
    (.item, [[0, 1, 1, 5, 159, 255, 5, 159, 255, 4, 0, 0, 0, 0, 0, 0, 1, 0, 2, 0, 1, 65, 0]],
      [item 1 0 0 0 0 1 0, [0, 1, 1, 5, 159, 255, 5, 159, 255, 4, 0, 0, 0, 0, 0, 0, 1, 0, 2, 0, 0, 0]]),
    (.withdraw, [[0, 1, 0]], [[0, 0, 0], [0, 1]])]

/-- R155 test 6 at the ends of every class's ranges. -/
theorem test_payloads_well_formed : ∀ row ∈ payloads,
    (∀ l ∈ row.2.1, (classHandler .a row.1 (rx l)).isSome = true) ∧
      ∀ l ∈ row.2.2, (classHandler .a row.1 (rx l)).isSome = false := by decide +kernel

/-- R59: the lengths of the three texts at their ends and beyond, the id, the category, and a payload that the
texts do not fill. -/
theorem test_item_malformed :
    let item (id category venue title detail : Nat) : List Nat :=
      [0, id, 1, 0, 0, 10, 0, 0, 20, category, 0, 0, 0, 0, 0, 0, 1, 0, 2, venue] ++ List.replicate venue 65 ++
        title :: List.replicate title 65 ++ detail :: List.replicate detail 65
    let read (l : List Nat) : Bool := (parseItem (oct l)).isSome
    ([item 1 4 16 32 40, item 1 0 0 1 0].map read = [true, true]) ∧
      ([item 0 0 0 1 0, item 1 5 0 1 0, item 1 0 17 1 0, item 1 0 0 0 0, item 1 0 0 33 0, item 1 0 0 1 41,
        item 1 0 0 1 0 ++ [65], [0, 1]].map read = List.replicate 8 false) := by decide +kernel

theorem test_serviceFrame :
    (after (.serviceFrame .a (rx [20, 1, 2, 7])) node).ports.a.framesReceived = 1 := by decide +kernel

theorem test_statusFrame :
    (after (.statusFrame .a (rx [1, 2])) node).ports.a.framesReceived = 1 ∧
      (after (.statusFrame .a (rx [1])) node).bus.malformedFrames = 1 := by decide +kernel

/-- The octets of a frame of a class code of no class, with their check. -/
def strangeOctets : List Byte :=
  let body := oct [13, 0, 1, 55, 0, 9, 1, 77]
  body ++ octets2 (crc16 body).toNat

/-- R155: tests 1 to 3 each at work on a run of octets. -/
theorem test_frameReceiveError :
    (after (.frameReceiveError .a (oct [1, 2, 3])) node).bus.lengthErrors = 1 ∧
      (after (.frameReceiveError .a (oct [0, 0, 1, 55, 0, 9, 0, 0, 0])) node).bus.checkErrors = 1 := by
  decide +kernel

theorem witness_ReceiveErrorsCounted :
    (node.ports.get .a).inUse = true ∧ parseFrame (oct [1, 2, 3]) = .lengthError ∧
      parseFrame (oct [0, 0, 1, 55, 0, 9, 0, 0, 0]) = .checkError ∧
      parseFrame strangeOctets = .unknownClass ∧ (oct [1, 2, 3]).length < 9 ∧
      strangeOctets.length = 10 ∧ (strangeOctets.getD 6 0#8).toNat = 1 ∧
      (strangeOctets.getD 0 0#8).toNat = 13 ∧
      parseFrame (oct ([0, 0, 1, 55, 0, 9, 121] ++ List.replicate 123 0)) = .lengthError ∧
      parseFrame (oct [0, 0, 1, 55, 0, 9, 1, 0, 0]) = .lengthError ∧
      (∀ n ∈ [2, 3], let s := onA (fun c => { c with state := .down, goodRun := n }) node
        (s.ports.get .a).inUse = true ∧ (s.ports.get .a).state = .down ∧ (s.ports.get .a).goodRun = n) := by
  decide +kernel

theorem witness_FramesStopAtHandler :
    (node.ports.get .a).inUse = true ∧ (rx []).payload.length ≤ 120 ∧
      node.start.lifecycle ≠ .configFault ∧ { rx [] with sender := 212 }.sender = node.cfg.nodeNumber ∧
      (rx []).sender ≠ node.cfg.nodeNumber ∧ (rx []).payload.length ≠ 3 ∧
      { node.start with lifecycle := .configFault }.lifecycle = .configFault ∧
      (∀ f ∈ [{ rx [] with hop := 15 }, { rx [] with sender := 4095 }, { rx [] with origin := 1 }],
        headerInRange f = true) ∧
      (∀ f ∈ [{ rx [] with hop := 16 }, { rx [] with sender := 0 }, { rx [] with sender := 4096 },
        { rx [] with origin := 0 }, { rx [] with origin := 4096 }], headerInRange f = false) := by
  decide +kernel

/-- R155 test 4: a frame of the own number is dropped uncounted. -/
theorem test_withdrawFrame_own :
    after (.withdrawFrame .a { rx [11, 185, 3] with sender := 212 }) node = node := by decide +kernel

theorem witness_FrameOctetsReadBack : (15 : Nat) < 256 ∧ 4095 < 65536 ∧
    (rx (List.replicate 120 255)).payload.length ≤ 120 := by decide +kernel

theorem witness_PayloadsReadBack :
    (atLevel 65535 .abandon node).alarm.epoch = some 65535 ∧ 65535 < 65536 ∧
      (let r : ZoneReport := ⟨4095, 255, 255, 15, 0, 31, .fire, 0⟩
       r.number < 256 ∧ r.sequence < 256 ∧ 1 ≤ r.zone ∧ r.zone ≤ 15 ∧ r.deckLow ≤ 31 ∧ r.deckHigh ≤ 31) ∧
      (let r : Reassignment := ⟨15, .embark, 255, 700, 255, 9⟩
       1 ≤ r.zone ∧ r.zone ≤ 15 ∧ r.dest < 256 ∧ r.sequence < 256) ∧
      1 ≤ 9999 ∧ 9999 ≤ 9999 ∧ (∀ n, some 368639 = some n → n ≤ 368639) ∧
      node.time.sentStratum ≤ 15 := by
  refine ⟨rfl, by decide, by decide, by decide, by decide, by decide, ?_, by decide +kernel⟩
  intro n h
  cases h
  decide

theorem witness_PayloadsReadBack_adverts :
    let entries := List.replicate 12 (⟨255, 2, 65535, 63, 4095, true, false⟩ : AdvertEntry)
    1 ≤ entries.length ∧ entries.length ≤ 12 ∧
      (∀ a ∈ entries, a.dest < 256 ∧ a.kindCode < 256 ∧ a.cost < 65536 ∧ a.hop < 256 ∧
        a.nextNode < 65536) := by decide

/-! ### Alarm record, zone reports and reassignments (chapter 2) -/

theorem witness_AlarmListsKept : (answering 15).reportLaw ∧ (answering 15).reassignLaw ∧
    ∃ t, step { answering 15 with pending := [.zoneFrame .a (rx [7, 2, 2, 5, 5, 3])] } = .next t :=
  ⟨by decide +kernel, by decide +kernel, step_answers _⟩

/-- Worked sequence 2.5, steps 2, 4 and 5: GENERAL is taken over ALERT of the same epoch and not the other way,
and epoch 699 is older and counted. -/
theorem test_alarmFrame :
    (after (.alarmFrame .a (rx [2, 188, 2])) (atLevel 700 .alert node)).alarm.level = .general ∧
      (after (.alarmFrame .a (rx [2, 188, 1])) (atLevel 700 .general node)).alarm.level = .general ∧
      (after (.alarmFrame .a (rx [2, 187, 0])) (atLevel 700 .general node)).alarm.olderAlarmFrames = 1 := by
  decide +kernel

theorem witness_AlarmFrameTaken :
    let held := atLevel 700 .general node
    held.hears .a (rx [2, 188, 2]) ∧ node.hears .a (rx [2, 188, 2]) ∧ node.alarm.epoch = none ∧
      held.alarm.epoch = some 700 ∧
      parseAlarm (rx [2, 189, 0]).payload = some ⟨701, .normal⟩ ∧ newer 16 701 700 = true ∧
      parseAlarm (rx [2, 188, 3]).payload = some ⟨700, .abandon⟩ ∧
      held.alarm.level.code < Level.abandon.code ∧
      parseAlarm (rx [2, 188, 2]).payload = some ⟨700, .general⟩ ∧
      Level.general.code ≤ held.alarm.level.code ∧
      parseAlarm (rx [2, 187, 0]).payload = some ⟨699, .normal⟩ ∧ (699 : Nat) ≠ 700 ∧
      newer 16 699 700 = false := by decide +kernel

/-- A node in CONFIG_FAULT, its FALLBACK page shown. -/
def faulted (e : Option Nat) (l : Level) : State :=
  let s := atLevel 0 l node
  { s with
    alarm := { s.alarm with epoch := e }
    start := { s.start with lifecycle := .configFault, config := none, configGood := some false }
    page := { s.page with selected := .fallback } }

theorem witness_AlarmFrameTaken_fault :
    let held := faulted (some 700) .general
    (∀ s ∈ [held, faulted none .normal], s.start.lifecycle = .configFault ∧
      (s.ports.get .a).inUse = true) ∧
      (∀ o ∈ [[2, 189, 0], [2, 188, 3], [2, 188, 2], [2, 187, 0]],
        (rx o).payload.length ≤ 120 ∧ headerInRange (rx o) = true) ∧
      held.alarm.epoch = some 700 ∧ held.alarm.level = .general ∧
      (faulted none .normal).alarm.epoch = none := by decide +kernel

/-- R30, R34: in CONFIG_FAULT the record and the lamp follow an ALARM frame, and the FALLBACK page stands. -/
theorem test_alarmFrame_fault :
    let t := after (.alarmFrame .a (rx [2, 188, 1])) (faulted none .normal)
    (t.alarm.epoch, t.alarm.level, t.ind.lamp, t.page.selected) =
      (some 700, .alert, true, .fallback) := by decide +kernel

theorem witness_AlarmMovesSweep :
    let held (l : Level) (sweep : SweepState) (c : ConfigCopy) : State :=
      let s := atLevel 700 l (nodeOf c)
      { s with cabin := { s.cabin with sweep := sweep } }
    (∀ c ∈ [cabin, corridor], ∀ l ∈ [Level.normal, .alert, .general], ∀ sweep ∈ [SweepState.idle, .cleared],
      ∀ o ∈ [[2, 189, 3], [2, 189, 0], [2, 188, 1], [2, 188, 2], [2, 188, 3]],
        (held l sweep c).hears .a (rx o) ∧ (held l sweep c).alarm.epoch = some 700 ∧
          (held l sweep c).cabin.sweep = sweep) ∧
      parseAlarm (rx [2, 189, 3]).payload = some ⟨701, .abandon⟩ ∧
      parseAlarm (rx [2, 189, 0]).payload = some ⟨701, .normal⟩ ∧
      parseAlarm (rx [2, 188, 1]).payload = some ⟨700, .alert⟩ ∧
      parseAlarm (rx [2, 188, 2]).payload = some ⟨700, .general⟩ ∧
      parseAlarm (rx [2, 188, 3]).payload = some ⟨700, .abandon⟩ ∧
      newer 16 701 700 = true ∧ Level.abandon.emergency = true ∧ Level.normal.emergency = false ∧
      Level.alert.code < Level.general.code ∧ Level.alert.emergency = false ∧
      Level.general.code < Level.abandon.code ∧ Level.general.emergency = true ∧
      cabin.role = .cabin ∧ corridor.role ≠ .cabin ∧ node.alarm.epoch = none := by
  decide +kernel

/-- R33: within one epoch ALERT to GENERAL is an ONSET, GENERAL to ABANDON is not. -/
theorem test_alarmFrame_onset :
    let s (l : Level) : State := { atLevel 700 l (nodeOf cabin) with
      cabin := { CabinUnit.reset with sweep := .cleared } }
    (after (.alarmFrame .a (rx [2, 188, 2])) (s .alert)).cabin.sweep = .unchecked ∧
      (after (.alarmFrame .a (rx [2, 188, 3])) (s .general)).cabin.sweep = .cleared := by
  decide +kernel

/-- A node with the given zone reports. -/
def reported (l : List ZoneReport) : State :=
  { node with alarm := { node.alarm with reports := l } }

/-- The list of 2.6 after step 3, shortened in its keys: one CLEAR, then CAUTION and SMOKE. -/
def fullReports (first : ZoneState) (rest : ZoneState) : List ZoneReport :=
  ⟨9, 0, 1, 2, 5, 5, first, 50000⟩ ::
    (List.range 31).map (fun i => ⟨9, i + 1, 1, 2, 5, 5, rest, 60000 + i⟩)

/-- 2.6 steps 1 and 4: nothing is milder than CAUTION, so a CAUTION report is dropped and counted; the CLEAR
report is evicted for a SMOKE report. -/
theorem test_zoneFrame :
    let s := reported (fullReports .caution .smoke)
    let t := after (.zoneFrame .a (rx [40, 1, 2, 5, 5, 2])) (reported (fullReports .clear .smoke))
    (after (.zoneFrame .a (rx [40, 1, 2, 5, 5, 1])) s).alarm.droppedReports = 1 ∧
      t.alarm.evictedReports = 1 ∧
      t.alarm.reports.map (fun r => r.number) = (List.range 31).map (· + 1) ++ [40] := by
  decide +kernel

/-- 2.6, the effective states of zone 6 at decks 6, 7 and 10. -/
theorem test_effectiveZone :
    let l : List ZoneReport := [⟨9, 12, 1, 6, 5, 7, .smoke, 0⟩, ⟨9, 13, 1, 6, 7, 9, .caution, 0⟩,
      ⟨14, 2, 1, 6, 6, 6, .clear, 0⟩]
    (effectiveZone l 6 6, effectiveZone l 6 7, effectiveZone l 6 10) =
      (ZoneState.smoke, ZoneState.smoke, ZoneState.clear) := by decide

theorem witness_EffectiveZoneIsHighest :
    let r : ZoneReport := ⟨9, 12, 1, 6, 5, 7, .smoke, 0⟩
    (∀ deck ∈ [5, 7], r ∈ [r] ∧ r.zone = 6 ∧ r.deckLow ≤ deck ∧ deck ≤ r.deckHigh) ∧
      ∀ x ∈ [r], ¬(x.zone = 6 ∧ x.deckLow ≤ 8 ∧ 8 ≤ x.deckHigh) := by decide

theorem witness_ZoneFrameTaken :
    let f (n q st : Nat) := rx [n, q, 2, 5, 5, st]
    let room := reported (reports 31)
    let mild := reported (fullReports .caution .smoke)
    let clear := reported (fullReports .clear .smoke)
    room.hears .a (f 40 1 1) ∧ (reported (fullReports .caution .smoke)).hears .a (f 40 1 1) ∧
      parseZone (f 40 1 1).payload = some ⟨40, 1, 2, 5, 5, .caution⟩ ∧ room.reportLaw ∧ mild.reportLaw ∧
      clear.reportLaw ∧
      (∀ r ∈ room.alarm.reports, ¬(r.origin = 9 ∧ r.number = 40)) ∧ room.alarm.reports.length < 32 ∧
      (∃ r ∈ room.alarm.reports, r.origin = 9 ∧ r.number = 30 ∧ newer 8 2 r.sequence = true) ∧
      parseZone (f 30 2 1).payload = some ⟨30, 2, 2, 5, 5, .caution⟩ ∧
      parseZone (f 30 1 1).payload = some ⟨30, 1, 2, 5, 5, .caution⟩ ∧
      (∃ r ∈ room.alarm.reports, r.origin = 9 ∧ r.number = 30 ∧ newer 8 1 r.sequence = false) ∧
      mild.alarm.reports.length = 32 ∧ clear.alarm.reports.length = 32 ∧
      (∀ r ∈ mild.alarm.reports, ¬(r.origin = 9 ∧ r.number = 40)) ∧
      (∃ v ∈ clear.alarm.reports,
        v.state = .clear ∧ ∀ x ∈ clear.alarm.reports, x.state = .clear → x.olderThan v = false) ∧
      parseZone (f 40 1 2).payload = some ⟨40, 1, 2, 5, 5, .smoke⟩ ∧
      (∃ v ∈ mild.alarm.reports, (∀ x ∈ mild.alarm.reports, x.state ≠ .clear) ∧
        v.state.code < ZoneState.smoke.code ∧ ∀ x ∈ mild.alarm.reports, x.milderThan v = false) ∧
      (∀ x ∈ mild.alarm.reports, x.state ≠ .clear ∧ ZoneState.caution.code ≤ x.state.code) := by
  decide +kernel

/-- Worked sequence 2.5, steps 6 and 7: the cancellation is kept and an older sequence refused. -/
theorem test_reassignFrame :
    let s := answering 0
    (after (.reassignFrame .a (rx [2, 189, 6, 0, 0, 2])) s).alarm.reassignments =
        [⟨6, .assembly, 0, 701, 2, 9⟩] ∧
      (after (.reassignFrame .a (rx [2, 189, 6, 0, 4, 0])) s).alarm.reassignments =
        [⟨6, .assembly, 5, 701, 1, 9⟩] := by decide +kernel

theorem witness_ReassignFrameTaken :
    let s := answering 0
    let held : Reassignment := ⟨6, .assembly, 5, 701, 1, 9⟩
    s.hears .a (rx [2, 189, 6, 0, 5, 2]) ∧ s.reassignLaw ∧ s.alarm.epoch = some 701 ∧
      parseReassign (rx [2, 188, 6, 0, 5, 2]).payload = some ⟨700, 6, .assembly, 5, 2⟩ ∧
      s.alarm.epoch ≠ some 700 ∧
      parseReassign (rx [2, 189, 7, 0, 5, 2]).payload = some ⟨701, 7, .assembly, 5, 2⟩ ∧
      (∀ r ∈ s.alarm.reassignments, ¬(r.zone = 7 ∧ r.kind = .assembly)) ∧
      parseReassign (rx [2, 189, 6, 0, 5, 2]).payload = some ⟨701, 6, .assembly, 5, 2⟩ ∧
      held ∈ s.alarm.reassignments ∧ newer 8 2 held.sequence = true ∧
      parseReassign (rx [2, 189, 6, 0, 5, 1]).payload = some ⟨701, 6, .assembly, 5, 1⟩ ∧
      newer 8 1 held.sequence = false := by decide +kernel

/-! ### Route engine (chapter 1) -/

/-- The table of 1.8: candidates of cost 600, 499 and 720. -/
theorem test_candidates :
    let s := routing [entry4]
    ((List.range 3).map (fun n => (s.candidateAt entry4.cells n).map (fun c => (c.cost, c.hop)))) =
      [some (600, 4), some (499, 3), some (720, 5)] := by decide +kernel

/-- The limit case of 1.8: 73400 is beyond 65534, and hop 64 beyond 63. -/
theorem test_limit_case :
    let s := nodeOf { corridor with stairUpFactor := 32 }
    let link : NeighbourCfg := ⟨318, .a, 2000, .stairUp, false, 6, 6, .up⟩
    weightedLength s.cfg link = 8000 ∧
      s.linkCandidate 1 link ⟨.live, 65400, 2, 402, false, false, 0⟩ = none ∧
      s.linkCandidate 1 link ⟨.live, 380, 63, 402, false, false, 0⟩ = none := by decide +kernel

/-- 1.8, smoke below: the entry moves to slot 0 at 600, hop 4, without via stair. -/
theorem test_zoneFrame_routes :
    let t := after (.zoneFrame .a (rx [1, 1, 6, 6, 6, 2])) (routing [entry4])
    t.route.entries.map (fun e => (e.cost, e.hop, e.nextHop, e.viaStair, e.marks.a)) =
      [(600, 4, .slot 0, false, .set)] := by decide +kernel

theorem witness_RouteLawKept : (routing [entry4]).routeLaw ∧
    ∃ t, step { routing [entry4] with pending := [.zoneFrame .a (rx [1, 1, 6, 6, 6, 2])] } = .next t :=
  ⟨by decide +kernel, step_answers _⟩

theorem witness_CandidateThroughLink :
    let s := routing []
    let l : NeighbourCfg := ⟨226, .a, 60, .level, true, 7, 7, .left⟩
    let c : Cell := ⟨.live, 510, 4, 230, false, false, 99000⟩
    let unreachable (c : Cell) : Prop := c.state ≠ .live ∨ c.cost = 65535 ∨
      c.nextNode = s.cfg.nodeNumber ∨ 65534 < c.cost + 60 + 150 ∨ 63 < c.hop + 1
    ¬unreachable c ∧ ¬unreachable { c with cost := 65324 } ∧ unreachable { c with cost := 65325 } ∧
      ¬unreachable { c with hop := 62 } ∧ unreachable { c with hop := 63 } ∧
      unreachable { c with nextNode := 212 } ∧ unreachable { c with state := .expired } ∧
      1 ≤ l.distance ∧ l.distance ≤ 2000 ∧ s.cfg.cautionPenalty ≤ 5000 ∧
      s.cfg.boundaryPenalty ≤ 500 ∧ 8 ≤ s.cfg.stairDownFactor ∧ s.cfg.stairDownFactor ≤ 32 := by
  decide +kernel

/-- 1.8, the smoke clears: 101 exceeds the hysteresis of 20, and not one of 120. -/
theorem test_hysteresis :
    let e : RouteEntry :=
      { entry4 with cost := 600, hop := 4, nextHop := .slot 0, viaStair := false }
    let wide := { routing [] with start := { node.start with
      config := some { corridor with hysteresis := 120 } } }
    ((routing []).reevaluated e).nextHop = .slot 1 ∧ (wide.reevaluated e).nextHop = .slot 0 := by
  decide +kernel

/-- The exact boundary of R15: a difference equal to the hysteresis does not switch. -/
theorem test_hysteresis_boundary :
    let e : RouteEntry :=
      { entry4 with cost := 600, hop := 4, nextHop := .slot 0, viaStair := false }
    let at101 := { routing [] with start := { node.start with
      config := some { corridor with hysteresis := 101 } } }
    (at101.reevaluated e).nextHop = .slot 0 := by decide +kernel

theorem witness_ReevaluationByState :
    let s := routing []
    let dead := List.replicate 6 Cell.empty
    let away := { s with start := { node.start with config := some { corridor with holdDown := 0 } } }
    let here := { entry4 with cost := 600, hop := 4, nextHop := NextHop.slot 0, viaStair := false }
    let lost := { entry4 with cells := entry4.cells.set 1 Cell.empty }
    let isBest (cells : List Cell) (n cost : Nat) : Prop :=
      (∃ c, s.candidateAt cells n = some c ∧ c.cost = cost) ∧
        ∀ m < 6, ∀ d ∈ s.candidateAt cells m, cost < d.cost ∨ (m = n)
    { entry4 with state := .anchor }.state = .anchor ∧ entry4.state = .reachable ∧
      isBest entry4.cells 1 499 ∧ (∀ m < 6, s.candidateAt dead m = none) ∧
      s.currentCandidate lost = none ∧ isBest lost.cells 0 600 ∧
      s.currentCandidate { entry4 with cells := dead } = none ∧ s.cfg.holdDown ≠ 0 ∧
      away.cfg.holdDown = 0 ∧ entry4.nextHop = .slot 1 ∧
      (∀ m < 6, ∀ d ∈ s.candidateAt entry4.cells m, 499 ≤ d.cost + s.cfg.hysteresis) ∧
      here.nextHop = .slot 0 ∧ 499 + s.cfg.hysteresis < 600 := by
  refine ⟨rfl, rfl, ⟨⟨_, rfl, by decide +kernel⟩, by decide +kernel⟩, by decide +kernel,
    by decide +kernel, ⟨⟨_, rfl, by decide +kernel⟩, by decide +kernel⟩, by decide +kernel,
    by decide +kernel, by decide +kernel, rfl, by decide +kernel, rfl, by decide +kernel⟩

/-- An ADVERT of one entry from a neighbour. -/
def advert (sender dest kind cost hop next : Nat) : RxFrame :=
  ⟨0, sender, sender, oct [1, dest, kind, cost / 256, cost % 256, hop, next / 256, next % 256, 0]⟩

/-- 1.8, poison: 318 routes through 212, so the entry moves to slot 0 at 600. -/
theorem test_advertFrame :
    (after (.advertFrame .a (advert 318 4 0 618 4 212)) (routing [entry4])).route.entries.map
      (fun e => (e.cost, e.nextHop)) = [(600, .slot 0)] := by decide +kernel

/-- A venue entry without a route. -/
def venue (dest : Nat) : RouteEntry := RouteEntry.fresh dest .venue false 40000

/-- A table of n venues from destination 50 on. -/
def crowded (n : Nat) : State :=
  { node with route := { node.route with entries := (List.range n).map (fun i => venue (50 + i)) } }

/-- R20: in a full table the entry longest UNREACHABLE is evicted for a new destination. -/
theorem test_advertFrame_evicts :
    let t := after (.advertFrame .a (advert 318 33 2 380 2 402)) (crowded 48)
    (t.route.entries.length, t.route.evictedEntries, t.route.entries.head?.map (fun e => e.dest)) =
      (48, 1, some 33) := by decide +kernel

/-- The cases in which R8 skips an advertisement entry. -/
abbrev outside (a : AdvertEntry) : Prop :=
  a.dest = 0 ∨ DestKind.ofCode a.kindCode = none ∨ 63 < a.hop ∨ 4095 < a.nextNode

/-- The slots whose neighbour and port a frame on port A matches. -/
def slotsFor (s : State) (f : RxFrame) : List Nat :=
  (List.range 6).filter (fun n =>
    (s.cfg.neighbours[n]?).any (fun l => decide (l.node = f.sender ∧ l.port = .a)))

theorem witness_AdvertFrameTaken :
    (routing [entry4]).routeLaw ∧ (crowded 47).routeLaw ∧
      (routing [entry4]).hears .a (advert 318 4 0 618 4 212) ∧
      (routing [entry4]).hears .a (advert 500 4 0 618 4 212) ∧
      (crowded 47).hears .a (advert 318 33 2 65534 63 402) ∧
      slotsFor (routing [entry4]) (advert 500 4 0 618 4 212) = [] ∧
      slotsFor (routing [entry4]) (advert 318 4 0 618 4 212) = [1] ∧
      slotsFor (crowded 47) (advert 318 33 2 65534 63 402) = [1] ∧
      (∃ e ∈ (routing [entry4]).route.entries, e.dest = 4) ∧
      (∀ e ∈ (crowded 47).route.entries, e.dest ≠ 33) ∧ (crowded 47).route.entries.length < 48 ∧
      (402 : Nat) ≠ (crowded 47).cfg.nodeNumber ∧ (212 : Nat) = (crowded 47).cfg.nodeNumber := by
  decide +kernel

theorem witness_AdvertFrameTaken_entry :
    parseAdvert (advert 318 0 0 618 4 212).payload = some [⟨0, 0, 618, 4, 212, false, false⟩] ∧
      outside ⟨0, 0, 618, 4, 212, false, false⟩ ∧ outside ⟨4, 3, 618, 4, 212, false, false⟩ ∧
      outside ⟨4, 0, 618, 64, 212, false, false⟩ ∧ outside ⟨4, 0, 618, 4, 4096, false, false⟩ ∧
      parseAdvert (advert 318 4 2 65535 63 4095).payload =
        some [⟨4, 2, 65535, 63, 4095, false, false⟩] ∧
      ¬outside ⟨4, 2, 65535, 63, 4095, false, false⟩ ∧
      parseAdvert (advert 318 33 2 65534 63 402).payload =
        some [⟨33, 2, 65534, 63, 402, false, false⟩] := by
  decide +kernel

/-- A table of n entries like entry 4 of 1.8, of a kind, from destination 50 on. -/
def reached (n : Nat) (kind : DestKind) (pinned : Bool) : State :=
  routing ((List.range n).map (fun i => { entry4 with dest := 50 + i, kind := kind, pinned := pinned }))

theorem witness_AdvertFrameTaken_full :
    let f := advert 318 33 2 380 2 402
    (∀ s ∈ [crowded 48, reached 48 .venue false, reached 48 .venue true, reached 48 .embark false],
      s.routeLaw ∧ s.hears .a f ∧ s.route.entries.length = 48 ∧ slotsFor s f = [1] ∧
        ∀ e ∈ s.route.entries, e.dest ≠ 33) ∧
      (∀ x ∈ (crowded 48).route.entries, x.pinned = false ∧ x.state = .unreachable ∧
        x.unreachableSince = some 40000 ∧ 50 ≤ x.dest) ∧
      (∀ x ∈ (reached 48 .venue false).route.entries, x.pinned = false ∧ x.state = .reachable ∧
        x.kind = .venue ∧ x.cost = 499 ∧ x.dest ≤ 97) ∧
      (∀ x ∈ (reached 48 .venue true).route.entries, x.pinned = true) ∧
      (∀ x ∈ (reached 48 .embark false).route.entries, x.state = .reachable ∧ x.kind ≠ .venue) ∧
      node.prog.items = [] := by decide +kernel

/-- R20: of REACHABLE VENUEs of one cost the highest id gives way; an EMBARK table gives way to nothing. -/
theorem test_advertFrame_full :
    let take (kind : DestKind) : RouteEngine :=
      (after (.advertFrame .a (advert 318 33 2 380 2 402)) (reached 48 kind false)).route
    ((take .venue).evictedEntries, (take .venue).entries.getLast?.map (fun e => e.dest),
      (take .embark).droppedDestinations, (take .embark).entries.length) = (1, some 96, 1, 48) := by
  decide +kernel

/-- An ADVERT of three entries from node 318, and the frames of its first and of the others. -/
def threeEntries : RxFrame × RxFrame × RxFrame :=
  let entry (dest cost : Nat) := [dest, 2, cost / 256, cost % 256, 2, 1, 146, 0]
  let send (n : Nat) (l : List Nat) : RxFrame := ⟨0, 318, 318, oct (n :: l)⟩
  (send 3 (entry 33 380 ++ entry 34 390 ++ entry 4 400), send 1 (entry 33 380),
    send 2 (entry 34 390 ++ entry 4 400))

theorem witness_AdvertEntriesInTurn :
    let s := routing [entry4]
    let a (dest cost : Nat) : AdvertEntry := ⟨dest, 2, cost, 2, 402, false, false⟩
    (∀ f ∈ [threeEntries.1, threeEntries.2.1, threeEntries.2.2],
      s.hears .a f ∧ f.sender = threeEntries.1.sender) ∧
      parseAdvert threeEntries.1.payload = some (a 33 380 :: [a 34 390, a 4 400]) ∧
      parseAdvert threeEntries.2.1.payload = some [a 33 380] ∧
      parseAdvert threeEntries.2.2.payload = some [a 34 390, a 4 400] ∧
      (∃ l ∈ s.cfg.neighbours.take 6, l.node = threeEntries.1.sender ∧ l.port = .a) := by
  decide +kernel

/-- 1.8, hold-down ends at 135,000 with slot 1 reachable: 499, hop 3. -/
theorem test_holdDownDeadline :
    let e := { entry4.dropRoute .holdDown with holdDownDeadline := some 99999 }
    (after (.holdDownDeadline 4) (routing [e])).route.entries.map (fun e => (e.cost, e.nextHop)) =
      [(499, .slot 1)] := by decide +kernel

/-- R10: a cell expires three advert intervals (30 s) after its refresh, and not before. -/
theorem test_cellExpiry :
    let c : Cell := ⟨.live, 380, 2, 402, false, false, 70000⟩
    let late := routing [{ entry4 with cells := entry4.cells.set 1 c }]
    (after (.cellExpiry 4 1) late).route.entries.map (fun e => e.nextHop) = [.slot 0] ∧
      after (.cellExpiry 4 1) { late with clock := 99999 } = { late with clock := 99999 } := by
  decide +kernel

/-- R19: an unpinned entry is flushed after six advert intervals (60 s). -/
theorem test_flush : (after (.flush 50) (crowded 1)).route.entries = [] ∧
    after (.flush 50) { crowded 1 with clock := 99999 } = { crowded 1 with clock := 99999 } := by
  decide +kernel

theorem witness_RouteDeadlinesTaken :
    let c : Cell := ⟨.live, 380, 2, 402, false, false, 70000⟩
    let e := { entry4 with cells := entry4.cells.set 1 c }
    let h := { entry4.dropRoute .holdDown with
      holdDownDeadline := some 100000, cells := List.replicate 6 Cell.empty }
    (routing [e]).running = true ∧ (routing [e]).routeLaw ∧ e ∈ (routing [e]).route.entries ∧
      e.cells[1]? = some c ∧ c.state = .live ∧
      c.refreshed + 3 * ((routing [e]).cfg.advertInterval * 1000) ≤ (routing [e]).clock ∧
      (routing [h]).routeLaw ∧ h.state = .holdDown ∧ h.holdDownDeadline = some 100000 ∧
      100000 ≤ (routing [h]).clock ∧ (routing [h]).bestRoute h.cells (fun _ => true) = none ∧
      ((routing [h]).bestRoute entry4.cells (fun _ => true)).isSome = true ∧
      (crowded 1).routeLaw ∧ (venue 50).pinned = false ∧ (venue 50).state = .unreachable ∧
      (venue 50).unreachableSince = some 40000 ∧
      40000 + 6 * ((crowded 1).cfg.advertInterval * 1000) ≤ (crowded 1).clock := by decide +kernel

/-- A mustering node with one ENABLED trigger set, which waits for route changes. -/
def waiting (argument : Nat) (action : Action) (entries : List RouteEntry) : State :=
  let s := routing entries
  { s with
    muster := { s.muster with dest := some 4, rank := some .r1 }
    trig := { s.trig with
      sets := s.trig.sets.set 2 ⟨⟨.routeChange, argument, action, 3, 0#4, true, false, true⟩, .enabled⟩ } }

/-- R27, R52, R110: entry 4 gives up its route, so the muster target is lost and counted, and a set of argument 0
or 4 captures a ROUTE_CHANGE of destination 4, one of argument 5 nothing. -/
theorem test_routeChange_told :
    let e := { entry4 with cells := (List.replicate 6 Cell.empty).set 1 ⟨.live, 380, 2, 402, false, false, 70000⟩ }
    let run (argument : Nat) := after (.cellExpiry 4 1) (waiting argument .capture [e])
    ((run 0).route.entries.map (fun e => e.state), (run 0).muster.dest, (run 0).muster.switchesOnLoss) =
      ([.holdDown], none, 1) ∧
    ([0, 4, 5].map (fun n => (run n).trig.captures.getD 3 none) =
      [some ⟨.clock 100000, 2, false, .routeChange, 4⟩, some ⟨.clock 100000, 2, false, .routeChange, 4⟩,
        none]) := by decide +kernel

theorem witness_RouteDeadlinesTaken_told :
    let e := { entry4 with cells := entry4.cells.set 1 ⟨.live, 380, 2, 402, false, false, 70000⟩ }
    let low := { entry4 with cells := entry4.cells.set 0 ⟨.live, 420, 3, 455, false, false, 70000⟩ }
    let moves (x : RouteEntry) (n : Fin 6) : Bool :=
      (after (.cellExpiry 4 n) (waiting 0 .none [x])).route.entries.any
        (fun y => decide (y.state ≠ x.state ∨ y.nextHop ≠ x.nextHop))
    (∀ argument ∈ [0, 4, 5], ∀ action ∈ [Action.none, .capture],
      (waiting argument action [e]).running = true ∧ (waiting argument action [e]).routeLaw ∧
        (waiting argument action [e]).trig.sets[2]? =
          some ⟨⟨.routeChange, argument, action, 3, 0#4, true, false, true⟩, .enabled⟩ ∧
        ∀ j ∈ [0, 1, 3], ((waiting argument action [e]).trig.set j).state ≠ .enabled) ∧
      (waiting 0 .none [low]).routeLaw ∧
      moves e 1 = true ∧ moves low 0 = false := by decide +kernel

/-- A node with every periodic schedule due now. -/
def scheduled (mark : Mark) (state : TimeState) (stratum : Option Nat) : State :=
  { node with
    route := { node.route with
      nextFull := some 100000
      gapExpiry := ⟨some 100000, none⟩
      entries := [{ entry4 with marks := ⟨mark, .clear⟩ }] }
    time := { node.time with state := state, ownStratum := stratum, beaconDeadline := some 100000 } }

theorem witness_PeriodicSchedulesRun :
    let s := scheduled .set .synced (some 14)
    let r := scheduled .carried .synced (some 15)
    s.start.lifecycle = .operating ∧ 100000 ≤ s.clock ∧ s.route.nextFull = some 100000 ∧
      s.time.beaconDeadline = some 100000 ∧ s.time.state = .synced ∧ s.time.ownStratum = some 14 ∧
      s.ports.a.inUse = true ∧ s.ports.b.inUse = false ∧ s.route.gapExpiry.get .a = some 100000 ∧
      (∃ e ∈ s.route.entries, e.marks.get .a = .set) ∧
      (∀ e ∈ r.route.entries, e.marks.get .a ≠ .set) ∧ r.time.ownStratum = some 15 ∧
      (scheduled .set .holdover none).time.state ≠ .synced := by decide +kernel

/-- R106: a SYNCED node of stratum 14 beacons, one of stratum 15 does not. -/
theorem test_beaconDeadline :
    (after .beaconDeadline (scheduled .set .synced (some 14))).ports.a.queue.length = 1 ∧
      (after .beaconDeadline (scheduled .set .synced (some 15))).ports.a.queue = [] := by decide +kernel

/-- R25: a gap expiry requests a token where a mark is set. -/
theorem test_gapExpiry :
    (after (.gapExpiry .a) (scheduled .set .unset none)).ports.a.queue.map (fun e => e.content) =
      [.token .triggered] := by decide +kernel

/-- R24: the next FULL request is one advert interval (10 s) later. -/
theorem test_periodicFullRequest :
    (after .periodicFullRequest (scheduled .set .unset none)).route.nextFull = some 110000 := by
  decide +kernel

/-! ### Levels, muster target and pages (chapters 3, 7 and 8) -/

/-- An entry REACHABLE at a cost through slot 1 of 1.8, whose weighted length is 119. -/
def routed (dest : Nat) (kind : DestKind) (cost : Nat) : RouteEntry :=
  { entry4 with
    dest := dest
    kind := kind
    cost := cost
    cells := [Cell.empty, ⟨.live, cost - 119, 2, 402, false, false, 99000⟩, Cell.empty, Cell.empty,
      Cell.empty, Cell.empty] }

/-- The start of the worked sequence 3.5, with a target and a pending candidate. -/
def mustering (target : Nat) (rank : MusterRank) (pending : Option Nat) : State :=
  let s := routing [routed 4 .assembly 499, routed 5 .assembly 1310, routed 6 .assembly 900,
    RouteEntry.fresh 20 .embark true 0, routed 21 .embark 700]
  { s with muster := { s.muster with
      dest := some target
      rank := some rank
      candidate := pending
      candidateRank := pending.map (fun _ => .r1)
      returnDeadline := pending.map (fun _ => 100000) } }

theorem witness_LevelLawsKept : (mustering 6 .r3 (some 4)).musterLaw ∧ (mustering 6 .r3 (some 4)).triggerLaw ∧
    (mustering 6 .r3 (some 4)).pageLaw ∧
    ∃ t, step { mustering 6 .r3 (some 4) with
      pending := [.alarmFrame .a (rx [2, 188, 3])] } = .next t :=
  ⟨by decide +kernel, by decide +kernel, by decide +kernel, step_answers _⟩

/-- 3.5 at 250,000: ABANDON selects 21 at rank 2, since 20 is UNREACHABLE; and 5.8 steps 8 and 9: a new epoch
at ABANDON starts the search of a cabin, one at NORMAL ends it. -/
theorem test_alarmFrame_units :
    let t := after (.alarmFrame .a (rx [2, 188, 3])) (mustering 4 .r1 none)
    let s := { atLevel 700 .general (nodeOf cabin) with
      cabin := { CabinUnit.reset with sweep := .cleared } }
    (t.muster.dest, t.muster.rank, t.page.selected) = (some 21, some .r2, .abandon) ∧
      (after (.alarmFrame .a (rx [2, 189, 3])) s).cabin.sweep = .unchecked ∧
      (after (.alarmFrame .a (rx [2, 189, 0])) s).cabin.sweep = .idle := by decide +kernel

/-- 3.5 at 240,000: the return to 4 is made and counted. -/
theorem test_returnDeadline :
    let t := after .returnDeadline (mustering 6 .r3 (some 4))
    (t.muster.dest, t.muster.rank, t.muster.candidate, t.muster.returns) =
      (some 4, some .r1, none, 1) := by decide +kernel

/-- A mustering node that holds a reassignment of its zone to a destination. -/
def ordered (dest : Nat) (s : State) : State :=
  { s with alarm := { s.alarm with reassignments := [⟨6, .assembly, dest, 700, 1, 9⟩] } }

theorem witness_BestEligibleCandidate :
    let s := ordered 5 (mustering 4 .r1 none)
    let smoky := { s with alarm := { s.alarm with reports := [⟨9, 0, 1, 6, 5, 5, .smoke, 90000⟩] } }
    let bare := routing []
    s.reassignLaw ∧ s.routeLaw ∧ bare.reassignLaw ∧ bare.routeLaw ∧
      ([4, 5, 6, 7].map (s.rankOf .assembly) = [.r1, .r0, .r3, .held]) ∧
      ([20, 21].map (s.rankOf .embark) = [.r1, .r2]) ∧ s.rankOf .assembly 0 = .held ∧
      ([4, 5, 6, 7, 20, 21].map s.eligible = [true, true, true, false, false, true]) ∧
      smoky.eligible 4 = false ∧
      (∀ e ∈ s.route.entries, s.eligible e.dest = true → s.rankOf .assembly e.dest = .r0 → e.dest = 5) ∧
      (∀ e ∈ s.route.entries, s.eligible e.dest = true → s.rankOf .assembly e.dest = .r3 → e.dest = 6) ∧
      (∀ d ∈ [4, 5, 6, 20, 21], bare.eligible d = false) := by decide +kernel

/-- R50: an order first, then the own station, and among rank 3 the lowest cost, which an ANCHOR has. -/
theorem test_bestCandidate :
    let s := mustering 4 .r1 none
    let far := routing [routed 8 .assembly 800, routed 9 .assembly 700]
    let here := routing [routed 8 .assembly 800,
      { routed 9 .assembly 0 with state := .anchor, hop := 0, nextHop := .self, viaStair := false }]
    let best (s : State) := (s.bestCandidate .assembly (fun _ => true)).map (fun c => (c.dest, c.rank))
    (best (ordered 5 s), best s, best far, best here) =
      (some (5, .r0), some (4, .r1), some (9, .r3), some (9, .r3)) := by decide +kernel

theorem witness_MusterFollows_review :
    let at0 := mustering 6 .r3 none
    let none' := { at0 with muster := { at0.muster with dest := none, rank := none } }
    let swift := { at0 with start := { at0.start with config := some { corridor with returnDelay := 0 } } }
    let better (s : State) :=
      (s.bestCandidate .assembly (fun c => decide (c.rank.code < MusterRank.r3.code))).map (fun c => c.dest)
    let order (s : State) :=
      (s.bestCandidate .assembly (fun c => decide (c.rank = .r0))).map (fun c => c.dest)
    (∀ s ∈ [none', mustering 20 .r3 none, ordered 5 at0, ordered 6 at0, mustering 4 .r1 none, at0,
      mustering 6 .r3 (some 4), swift], s.muster.kind = some .assembly) ∧
      none'.muster.dest = none ∧ (mustering 20 .r3 none).muster.dest = some 20 ∧ at0.eligible 20 = false ∧
      at0.muster.dest = some 6 ∧ at0.eligible 6 = true ∧ order (ordered 5 at0) = some 5 ∧
      order (ordered 6 at0) = some 6 ∧ order at0 = none ∧
      (mustering 4 .r1 none).rankOf .assembly 4 = .r1 ∧
      (mustering 4 .r1 none).bestCandidate .assembly (fun c => decide (c.rank.code < MusterRank.r1.code)) = none ∧
      at0.rankOf .assembly 6 = .r3 ∧ better at0 = some 4 ∧ at0.muster.candidate = none ∧
      (mustering 6 .r3 (some 4)).muster.candidate = some 4 ∧ at0.cfg.returnDelay ≠ 0 ∧
      swift.cfg.returnDelay = 0 ∧ better swift = some 4 := by decide +kernel

/-- R52, R53: a lost target is switched at once and counted; a better candidate waits for its return. -/
theorem test_review :
    let lost := (mustering 20 .r3 (some 4)).review
    let back := (mustering 6 .r3 none).review
    (lost.dest, lost.candidate, lost.switchesOnLoss) = (some 4, none, 1) ∧
      (back.dest, back.candidate, back.candidateRank) = (some 6, some 4, some .r1) := by decide +kernel

theorem witness_MusterFollows :
    let s := mustering 6 .r3 (some 4)
    let same := mustering 4 .r1 (some 4)
    (∀ o ∈ [[2, 189, 2], [2, 189, 0], [2, 188, 3]], s.hears .a (rx o)) ∧
      parseAlarm (rx [2, 189, 2]).payload = some ⟨701, .general⟩ ∧
      parseAlarm (rx [2, 189, 0]).payload = some ⟨701, .normal⟩ ∧
      parseAlarm (rx [2, 188, 3]).payload = some ⟨700, .abandon⟩ ∧ s.alarm.epoch = some 700 ∧
      newer 16 701 700 = true ∧ node.alarm.epoch = none ∧
      s.alarm.level.code < Level.abandon.code ∧
      s.hears .a (rx [2, 188, 6, 0, 5, 1]) ∧
      parseReassign (rx [2, 188, 6, 0, 5, 1]).payload = some ⟨700, 6, .assembly, 5, 1⟩ ∧
      parseReassign (rx [2, 188, 7, 0, 5, 1]).payload = some ⟨700, 7, .assembly, 5, 1⟩ ∧
      s.cfg.zone = 6 ∧ s.muster.kind = some .assembly ∧ s.reassignLaw ∧
      (after (.reassignFrame .a (rx [2, 188, 6, 0, 5, 1])) s).alarm.reassignments ≠ [] ∧
      s.alarm.reassignments = [] ∧ s.hears .a (rx [1, 1, 5, 7, 7, 2]) ∧ s.reportLaw ∧
      parseZone (rx [1, 1, 5, 7, 7, 2]).payload = some ⟨1, 1, 5, 7, 7, .smoke⟩ ∧
      (after (.zoneFrame .a (rx [1, 1, 5, 7, 7, 2])) s).alarm.reports ≠ s.alarm.reports ∧
      s.running = true ∧ s.muster.returnDeadline = some 100000 ∧ 100000 ≤ s.clock ∧
      s.muster.dest ≠ s.muster.candidate ∧ same.running = true ∧
      same.muster.returnDeadline = some 100000 ∧ same.muster.dest = same.muster.candidate := by
  decide +kernel

/-! ### Programme store (chapter 4) -/

/-- An item of the audience of node 212, or of none. -/
def anItem (id version start : Nat) (inside : Bool) : Item :=
  { id := id
    version := version
    start := start
    last := start + 60
    category := .show
    venue := 0
    venueLabel := []
    title := oct [65]
    detail := []
    deckMask := if inside then 0x80#32 else 0#32
    zoneMask := 0x40#16
    highlight := none
    cancelled := false }

/-- The ITEM frame of such an item. -/
def itemFrame (id version start : Nat) (inside : Bool) : RxFrame :=
  rx [id / 256, id % 256, version, 0, start / 256, start % 256, 0, (start + 60) / 256,
    (start + 60) % 256, 0, 0, 0, 0, 0, 0, 0, if inside then 128 else 0, 0, 64, 0, 1, 65, 0]

/-- A node holding items and tombstones, before ship time is known. -/
def stocked (items : List Item) (tombstones : List Tombstone) : State :=
  { node with prog := { node.prog with items := items, tombstones := tombstones } }

/-- 4.8 steps 3, 4 and 6: version 3 replaces 250, 200 does not replace 3, and 2 is older than a tombstone of 3. -/
theorem test_itemFrame :
    let t := after (.itemFrame .a (itemFrame 3001 2 6000 true)) (stocked [] [⟨3001, 3⟩])
    (after (.itemFrame .a (itemFrame 3001 3 6000 true)) (stocked [anItem 3001 250 6000 true] [])).prog.items =
        [anItem 3001 3 6000 true] ∧
      (after (.itemFrame .a (itemFrame 3001 200 6000 true))
        (stocked [anItem 3001 3 6000 true] [])).prog.items = [anItem 3001 3 6000 true] ∧
      (t.prog.items, t.prog.tombstoneHits) = ([], 1) := by
  decide +kernel

/-- 4.8 steps 8 and 9: the item outgrows an old withdrawal and goes with a new one. -/
theorem test_withdrawFrame :
    let s := stocked [anItem 3001 4 6000 true] [⟨3001, 3⟩]
    (after (.withdrawFrame .a (rx [11, 185, 3])) s).prog.items = [anItem 3001 4 6000 true] ∧
      (after (.withdrawFrame .a (rx [11, 185, 5])) s).prog.tombstones = [⟨3001, 5⟩] := by decide +kernel

/-- A list of n items of the audience of 4.9: item 905 latest, at 11,200, and before it one at 10,500 inside or outside. -/
def store (n : Nat) (outsider : Bool) : State :=
  stocked ((List.range (n - 2)).map (fun i => anItem (100 + i) 1 (5000 + i) true) ++
    [anItem 812 1 10500 (!outsider), anItem 905 1 11200 true]) []

/-- 4.9 steps 1, 2 and 6: the latest item outside the audience goes, new or held; ties of start go by id. -/
theorem test_itemFrame_full :
    let s := store 128 true
    let t := after (.itemFrame .a (itemFrame 899 1 11200 true)) (store 128 false)
    (after (.itemFrame .a (itemFrame 950 1 10800 false)) s).prog.droppedItems = 1 ∧
      (s.prog.items.length, (after (.itemFrame .a (itemFrame 951 1 9000 true)) s).prog.evictedItems,
        (after (.itemFrame .a (itemFrame 951 1 9000 true)) s).item 812) = (128, 1, none) ∧
      (t.item 905, (t.item 899).isSome) = (none, true) := by
  decide +kernel

theorem witness_ProgrammeLawKept : (store 128 true).programmeLaw ∧
    ∃ t, step { store 128 true with
      pending := [.itemFrame .a (itemFrame 951 1 9000 true)] } = .next t :=
  ⟨by decide +kernel, step_answers _⟩

theorem witness_ItemFrameTaken :
    let s := stocked [anItem 3001 250 6000 true] [⟨3002, 3⟩]
    s.hears .a (itemFrame 3001 3 6000 true) ∧ s.programmeLaw ∧
      (parseItem (itemFrame 3001 3 6000 true).payload).map (fun i => i.record) =
        some (anItem 3001 3 6000 true) ∧
      (parseItem (rx [11, 185, 3, 0, 23, 112, 0, 0, 0, 0, 0, 0, 0, 0, 0, 0, 128, 0, 64, 0, 1, 65, 0]).payload).map
        (fun i => i.clamps) = some true ∧
      (∃ k ∈ s.prog.tombstones, k.id = 3002 ∧ newer 8 3 k.version = false) ∧
      (∀ k ∈ s.prog.tombstones, k.id = 3001 → newer 8 3 k.version = true) ∧
      (∀ k ∈ s.prog.tombstones, k.id = 3002 → newer 8 4 k.version = true) ∧
      (∃ h ∈ s.prog.items, h.id = 3001 ∧ newer 8 3 h.version = true ∧ newer 8 250 h.version = false) := by
  decide +kernel

theorem witness_ItemFrameTaken_full :
    let pool (r : Item) (s : State) : List Item := r :: s.prog.items
    (store 127 true).prog.items.length < 128 ∧ (store 128 true).prog.items.length = 128 ∧
      (store 128 true).hears .a (itemFrame 950 1 10800 false) ∧ (store 128 true).programmeLaw ∧
      (∀ h ∈ (store 128 true).prog.items, h.id ≠ 950) ∧
      (∀ x ∈ pool (anItem 950 1 10800 false) (store 128 true), inAudience corridor x = false →
        (anItem 950 1 10800 false).before x = false) ∧
      (∀ x ∈ pool (anItem 951 1 9000 true) (store 128 true), inAudience corridor x = false →
        (anItem 812 1 10500 false).before x = false) ∧
      (∀ x ∈ pool (anItem 899 1 11200 true) (store 128 false), inAudience corridor x = true ∧
        (anItem 905 1 11200 true).before x = false) := by decide +kernel

theorem witness_WithdrawFrameTaken :
    let stones (n : Nat) := (List.range n).map (fun i => (⟨100 + i, 3⟩ : Tombstone))
    let s := stocked [anItem 3001 4 6000 true] (stones 15)
    s.hears .a (rx [11, 185, 4]) ∧ s.programmeLaw ∧
      (stocked [anItem 3001 4 6000 true] (stones 16)).programmeLaw ∧
      parseWithdraw (rx [11, 185, 4]).payload = some ⟨3001, 4⟩ ∧
      (∃ h ∈ s.prog.items, h.id = 3001 ∧ newer 8 h.version 4 = false ∧ newer 8 h.version 3 = true) ∧
      (∀ k ∈ stones 16, k.id ≠ 3001) ∧ (stones 15).length < 16 ∧ (stones 16).length = 16 ∧
      (∃ k ∈ stones 15, k.id = 100 ∧ k.version = 3 ∧ newer 8 3 4 = false ∧ newer 8 3 131 = false ∧
        newer 8 3 2 = true) := by
  decide +kernel

/-- A STAIR node in OPERATING with both ports in use, at GENERAL. -/
def stairwell : State :=
  let s := atLevel 700 .general (nodeOf { corridor with role := .stair, bothPorts := true })
  { s with ports := { s.ports with b := { s.ports.b with inUse := true } } }

theorem witness_FloodFramesRelayed :
    let frames := [rx [2, 188, 3], rx [1, 1, 6, 6, 6, 2], rx [2, 188, 6, 0, 5, 2],
      itemFrame 3001 3 6000 true, rx [11, 185, 3]]
    (∀ f ∈ frames, stairwell.hears .a f ∧ 0 < f.hop ∧ stairwell.hears .a { f with hop := 0 }) ∧
      stairwell.reportLaw ∧ stairwell.reassignLaw ∧ stairwell.programmeLaw ∧
      stairwell.cfg.role = .stair ∧ stairwell.ports.a.inUse = true ∧ stairwell.ports.b.inUse = true ∧
      stairwell.start.lifecycle = .operating ∧ node.cfg.role ≠ .stair ∧ node.hears .a (rx [2, 188, 3]) ∧
      (parseAlarm (rx [2, 188, 3]).payload).isSome = true ∧
      (parseZone (rx [1, 1, 6, 6, 6, 2]).payload).isSome = true ∧
      (parseReassign (rx [2, 188, 6, 0, 5, 2]).payload).isSome = true ∧
      (parseItem (itemFrame 3001 3 6000 true).payload).isSome = true ∧
      (parseWithdraw (rx [11, 185, 3]).payload).isSome = true ∧
      (after (.alarmFrame .a (rx [2, 188, 3])) stairwell).alarm.level ≠ stairwell.alarm.level ∧
      (after (.alarmFrame .a (rx [2, 188, 1])) stairwell).alarm.level = stairwell.alarm.level ∧
      (after (.zoneFrame .a (rx [1, 1, 6, 6, 6, 2])) stairwell).alarm.reports ≠ [] ∧
      (after (.reassignFrame .a (rx [2, 188, 6, 0, 5, 2])) stairwell).alarm.reassignments ≠ [] ∧
      (after (.itemFrame .a (itemFrame 3001 3 6000 true)) stairwell).prog.items ≠ [] ∧
      (after (.withdrawFrame .a (rx [11, 185, 3])) stairwell).prog.tombstones ≠ [] := by decide +kernel

/-- R157: the copy goes to the other port alone, one hop lower and from this node; a repeat is not relayed. -/
theorem test_relay :
    let t := after (.withdrawFrame .a (rx [11, 185, 3])) stairwell
    t.ports.b.queue.map (fun e => e.content) = [.fixed ⟨.withdraw, 2, 212, 9, oct [11, 185, 3]⟩] ∧
      t.bus.relayedCopies = 1 ∧ t.ports.a.queue = [] ∧
      (after (.withdrawFrame .a (rx [11, 185, 3])) t).bus.relayedCopies = 1 ∧
      (after (.withdrawFrame .a { rx [11, 185, 3] with hop := 0 }) stairwell).bus.relayedCopies = 0 := by
  decide +kernel

/-! ### Cabin unit (chapter 5) -/

/-- A cabin node with line 0 as given, the line's pin, the service state and request, and the sweep. -/
def lined (c : ConfigCopy) (l : LineRecord) (pin : Bool) (service : ServiceState) (request : Nat)
    (sweep : SweepState) : State :=
  { nodeOf c with
    pins := { State.reset.pins with lines := pin :: List.replicate 7 true }
    cabin := { CabinUnit.reset with
      lines := l :: List.replicate 7 LineRecord.reset
      service := service
      request := request
      sweep := sweep } }

/-- A line of a function whose fall is waiting for its debounce deadline. -/
def falling (f : LineFunction) : LineRecord := ⟨f, .fall, 30, some true, some 100000⟩

/-- 5.7 step 1: the button press opens request 7, and its SERVICE frame is queued. -/
theorem test_debounceDeadline :
    let t := after (.debounceDeadline 0) (lined cabin (falling .makeupButton) false .none 6 .idle)
    (t.cabin.service, t.cabin.request, t.ports.a.queue.map (fun e => e.cls)) =
      (.makeup, 7, [.service]) := by decide +kernel

/-- 5.8 step 4: the entry contact opens after CLEARED. -/
theorem test_contact_opens :
    let contact : LineRecord := ⟨.entryContact, .fall, 30, some true, some 100000⟩
    (after (.debounceDeadline 0) (lined cabin contact false .none 6 .cleared)).cabin.sweep =
      .reopened := by decide +kernel

/-- R80: a line leaving its stable level sets the debounce deadline; back before it, a bounce. -/
theorem test_inputLineTransition :
    let l : LineRecord := ⟨.makeupButton, .fall, 30, some true, none⟩
    ((after (.inputLineTransition 0 false) (lined cabin l true .none 6 .idle)).cabin.line 0).deadline =
        some 100030 ∧
      (after (.inputLineTransition 0 true)
        (lined cabin (falling .makeupButton) false .none 6 .idle)).cabin.rejectedBounces = 1 := by
  decide +kernel

theorem witness_LinesDebounced :
    let l (stable deadline) : LineRecord := ⟨.makeupButton, .rise, 30, stable, deadline⟩
    let s (l : LineRecord) (pin : Bool) := lined cabin l pin .none 6 .idle
    (∀ stable ∈ [none, some true, some false], ∀ deadline ∈ [none, some 100000], ∀ pin ∈ [true, false],
      (s (l stable deadline) pin).running = true ∧
        (s (l stable deadline) pin).cabin.lines[0]? = some (l stable deadline) ∧
        (s (l stable deadline) pin).pins.lines.getD 0 true = pin) ∧
      100000 ≤ (s (l (some true) (some 100000)) false).clock ∧
      (l (some true) (some 100000)).stable ≠ some false := by decide +kernel

theorem witness_CountedEdgesTaken :
    (∀ f ∈ [LineFunction.none, .entryContact, .privacyButton, .makeupButton, .crewClear, .crewAssist,
        .presence, .triggerOnly],
      ∀ sweep ∈ [SweepState.idle, .unchecked, .cleared, .assist, .reopened],
        ∀ level ∈ [Level.normal, .general],
          let s := atLevel 700 level (lined cabin (falling f) false .makeup 255 sweep)
          s.running = true ∧ s.cabin.lines[0]? = some (falling f) ∧
            (falling f).deadline = some 100000 ∧ 100000 ≤ s.clock ∧
            (falling f).stable ≠ some (s.pins.lines.getD 0 true) ∧
            (falling f).counts (s.pins.lines.getD 0 true) = true ∧ s.cfg.role = .cabin ∧
            s.alarm.level = level ∧ (∀ x ∈ s.trig.sets, x.state = .enabled → x.cfg.factor ≠ .input)) ∧
      (lined corridor (falling .crewClear) false .none 0 .idle).cfg.role ≠ .cabin ∧
      (let s := lined cabin (falling .presence) false .none 0 .idle
       { s with page := { s.page with quiet := true } }.page.quiet = true ∧ s.page.quiet = false ∧
        s.running = true) := by decide +kernel

/-- A running node whose line 0 has a counted edge due, with one ENABLED set that waits for it. -/
def awaited (f : LineFunction) (action : Action) (repeats : Bool) : State :=
  { lined corridor (falling f) false .none 0 .idle with
    trig := { TriggerUnit.reset with
      sets := TriggerUnit.reset.sets.set 2 ⟨⟨.input, 0, action, 3, 0#4, repeats, false, true⟩, .enabled⟩ } }

theorem witness_CountedEdgesTaken_awaited :
    ∀ f ∈ [LineFunction.presence, .triggerOnly], ∀ action ∈ [Action.none, .capture],
      ∀ repeats ∈ [true, false],
        let s := awaited f action repeats
        s.running = true ∧ s.cabin.lines[0]? = some (falling f) ∧ 100000 ≤ s.clock ∧
          (falling f).counts (s.pins.lines.getD 0 true) = true ∧
          s.trig.sets.map (fun x => x.state) = [.disabled, .disabled, .enabled, .disabled] ∧
          s.trig.sets[2]? =
            some ⟨⟨.input, 0, action, 3, 0#4, repeats, false, true⟩, .enabled⟩ := by decide +kernel

/-- R110, R116: the edge of line 0 activates set 2, whose capture carries the line number; no repeat disables. -/
theorem test_debounceDeadline_trigger :
    let t := after (.debounceDeadline 0) (awaited .triggerOnly .capture false)
    t.trig.captures.getD 3 none = some ⟨.clock 100000, 2, false, .input, 0⟩ ∧ t.trig.activations = 1 ∧
      t.trig.sets.map (fun x => x.state) = List.replicate 4 .disabled := by decide +kernel

/-- R83: the request number wraps from 255 to 0. -/
theorem test_request_wraps : requestAfter 255 .makeup = 0 ∧ requestAfter 255 .none = 255 := by decide

/-- A corridor node with a tally of three cabins. -/
def tallied : State :=
  { node with cabin := { CabinUnit.reset with
      tally := some [⟨5101, .unchecked⟩, ⟨5102, .unchecked⟩, ⟨5103, .cleared⟩] } }

/-- 5.8 steps 3 and 6: ASSIST moves both counts, and a cabin outside the ranges is ignored. -/
theorem test_sweepFrame :
    let t := after (.sweepFrame .a (rx [19, 238, 3, 0, 21, 229])) tallied
    (t.cabin.tally.map (fun l => (uncheckedCount l, assistCount l))) = some (1, 1) ∧
      (after (.sweepFrame .a (rx [20, 10, 2, 0, 21, 229])) tallied).cabin = tallied.cabin := by
  decide +kernel

/-- A CABIN frame for cabin 5121 of a version with a service-done number. -/
def cabinFrame (version done : Nat) : RxFrame := rx [20, 1, version, 1, 3, 9, 1, done, 2, 65, 66]

/-- Cabin 5121 of 5.7 with request 8 open, holding version 4. -/
def serviced : State :=
  let s := lined cabin (falling .none) false .makeup 8 .idle
  { s with cabin := { s.cabin with info := some ⟨4, [], .vacant, 0, 0⟩ } }

/-- 5.7 steps 4 and 5: the closure of request 7 is stale, that of request 8 is taken. -/
theorem test_cabinFrame :
    (after (.cabinFrame .a (cabinFrame 4 7)) serviced).cabin.staleServiceDone = 1 ∧
      (after (.cabinFrame .a (cabinFrame 4 8)) serviced).cabin.service = .none := by decide +kernel

theorem witness_CabinBusFramesTaken :
    tallied.hears .a (rx [19, 238, 3, 0, 21, 229]) ∧
      parseSweep (rx [19, 238, 3, 0, 21, 229]).payload = some ⟨5102, .assist, some 5605⟩ ∧
      parseSweep (rx [20, 10, 2, 0, 21, 229]).payload = some ⟨5130, .cleared, some 5605⟩ ∧
      node.cabin.tally = none ∧ tallied.cabin.tally.isSome = true ∧
      serviced.hears .a (cabinFrame 4 8) ∧
      parseCabin (cabinFrame 4 8).payload = some ⟨5121, 4, .occupied, 3, 9, some 8, oct [65, 66]⟩ ∧
      serviced.cfg.role = .cabin ∧ serviced.cfg.cabinNumber = 5121 ∧
      (serviced.cabin.info.map (fun h => (newer 8 5 h.version, newer 8 4 h.version))) =
        some (true, false) ∧
      serviced.cabin.service = .makeup ∧ serviced.cabin.request = 8 ∧
      (lined cabin (falling .none) false .none 8 .idle).cabin.info = none ∧
      parseCabin (rx [20, 1, 5, 1, 3, 9, 0, 0, 2, 65, 66]).payload =
        some ⟨5121, 5, .occupied, 3, 9, none, oct [65, 66]⟩ ∧ node.cfg.role ≠ .cabin := by
  decide +kernel

/-! ### Ship time (chapter 6) -/

/-- A beacon frame of a sender: seconds, milliseconds, stratum, state code. -/
def beacon (sender seconds millis stratum state : Nat) : RxFrame :=
  ⟨0, sender, sender, oct [seconds / 16777216, seconds / 65536 % 256, seconds / 256 % 256, seconds % 256,
    millis / 256, millis % 256, stratum, state]⟩

/-- Node 212 of 6.8 SYNCED on station 30 at the given node clock, offset and confirmation record. -/
def synced (clock : Nat) (offset : Int) (confirm : Option Int) : State :=
  { node with
    clock := clock
    time := { node.time with
      state := .synced
      offset := offset
      sources := [⟨30, 0, clock⟩, ⟨311, 1, clock⟩]
      selected := some 30
      ownStratum := some 1
      confirm := confirm
      notifiedMinute := 5440 } }

/-- 6.8 at 50,000: the first beacon steps by 326,349,502. -/
theorem test_beaconFrame_first :
    let t := after (.beaconFrame .a (beacon 311 326399 500 1 1)) { node with clock := 50000 }
    (t.time.offset, t.time.state, t.time.ownStratum, t.time.notifiedMinute) =
      (326349502, .synced, some 2, 5439) := by decide +kernel

/-- 6.8 at 61,000 and 69,000: beyond the window nothing moves until the residue is confirmed. -/
theorem test_beaconFrame_confirm :
    let t := after (.beaconFrame .a (beacon 30 326595 540 0 1)) (synced 61000 326349532 none)
    let u := after (.beaconFrame .a (beacon 30 326603 545 0 1)) (synced 69000 326349532 (some 185010))
    (t.time.offset, t.time.confirm, t.time.unconfirmedSteps) = (326349532, some 185010, 1) ∧
      (u.time.offset, u.time.confirm, u.time.stepsTaken, u.time.notifiedMinute) =
        (326534547, none, 1, 5443) := by decide +kernel

/-- 6.8 at 93,000: station 30's entry expires and 311 is selected. -/
theorem test_sourceExpiry :
    let s := synced 69000 326534547 none
    let t := after (.sourceExpiry 30) { s with clock := 93000 }
    (t.time.selected, t.time.ownStratum, t.time.state) = (some 311, some 2, .synced) := by decide +kernel

/-- 6.8: the stale deadline brings STALE. -/
theorem test_staleDeadline :
    let s := synced 14522000 326534547 none
    (after .staleDeadline { s with time := { s.time with
      state := .holdover, sources := [], selected := none, ownStratum := none,
      staleDeadline := some 14522000 } }).time.state = .stale := by decide +kernel

/-- R101: a slew tick moves the offset by 1 ms and falls again 64 ms later. -/
theorem test_slewTick :
    let s := synced 53064 326349502 none
    let t := after .slewTick { s with time := { s.time with
      slewRemaining := 30, slewTick := some 53064 } }
    (t.time.offset, t.time.slewRemaining, t.time.slewTick) = (326349503, 29, some 53128) := by
  decide +kernel

/-- 4.10 and R69: the expiry run of minute 5461 removes an item that ended at 5460. -/
theorem test_minuteNotice :
    let s := synced 100000 (5461 * 60000 - 100000) none
    let t := after .minuteNotice { s with prog := { s.prog with items :=
      [anItem 120 1 5400 true, anItem 140 1 5401 true] } }
    (t.time.notifiedMinute, t.prog.items.map (fun i => i.id), t.prog.expiredItems) =
      (5461, [140], 1) := by decide +kernel

theorem witness_TimeLawKept : (synced 61000 326349532 none).timeLaw ∧
    ∃ t, step { synced 61000 326349532 none with
      pending := [.beaconFrame .a (beacon 30 326595 540 0 1)] } = .next t :=
  ⟨by decide +kernel, step_answers _⟩

/-- A node with the given senders in its source table, all of stratum 3. -/
def sourced (senders : List Nat) : State :=
  { synced 61000 326349532 none with
    time := { (synced 61000 326349532 none).time with
      sources := senders.map (fun n => ⟨n, 3, 61000⟩)
      selected := senders.head?
      ownStratum := some 4 } }

theorem witness_BeaconFrameTaken_payload :
    parseBeacon (beacon 30 326603 545 15 1).payload = some ⟨326603, 545, 15, .synced⟩ ∧
      parseBeacon (beacon 30 326603 545 0 2).payload = some ⟨326603, 545, 0, .holdover⟩ ∧
      parseBeacon (beacon 30 326603 545 0 1).payload = some ⟨326603, 545, 0, .synced⟩ := by
  decide +kernel

theorem witness_BeaconFrameTaken :
    let s := synced 69000 326349532 (some 185010)
    (sourced [1, 2, 3]).hears .a (beacon 30 326603 545 0 1) ∧ (sourced [1, 2, 3]).timeLaw ∧
      (sourced [1, 2, 3]).time.sources.length < 4 ∧ (sourced [1, 2, 3, 4]).time.sources.length = 4 ∧
      (sourced [1, 2, 3, 4]).timeLaw ∧ (sourced [1, 2, 3, 4]).hears .a (beacon 30 326603 545 3 1) ∧
      (∀ x ∈ (sourced [1, 2, 3, 4]).time.sources, x.sender ≠ 30 ∧ x.stratum ≤ 3) ∧
      s.timeLaw ∧ s.hears .a (beacon 30 326603 545 0 1) ∧
      (after (.beaconFrame .a (beacon 30 326603 545 0 1)) s).time.selected = some 30 ∧
      (after (.beaconFrame .a (beacon 311 326603 545 1 1)) s).time.selected ≠ some 311 ∧
      s.time.selected = some 30 ∧ s.time.confirm = some 185010 ∧
      s.cfg.slewWindow < (185015 : Int).natAbs ∧ ((185015 : Int) - 185010).natAbs ≤ s.cfg.slewWindow ∧
      s.cfg.slewWindow < ((185120 : Int) - 185010).natAbs ∧ ¬(s.cfg.slewWindow < (50 : Int).natAbs) ∧
      node.time.state = .unset := by decide +kernel

theorem witness_BeaconFrameTaken_full :
    (sourced [1, 2, 3, 4]).hears .a (beacon 30 326603 545 2 1) ∧ (sourced [1, 2, 3, 4]).timeLaw ∧
      (sourced [1, 2, 3, 4]).time.sources.length = 4 ∧
      parseBeacon (beacon 30 326603 545 2 1).payload = some ⟨326603, 545, 2, .synced⟩ ∧
      (∀ x ∈ (sourced [1, 2, 3, 4]).time.sources,
        x.stratum = 3 ∧ x.lastBeacon = 61000 ∧ x.sender ≠ 30 ∧ x.sender ≤ 4) ∧
      (⟨4, 3, 61000⟩ : TimeSource) ∈ (sourced [1, 2, 3, 4]).time.sources := by decide +kernel

/-- R98: in a full source table the worst entry, of equal ones the highest sender, gives way to a lower stratum. -/
theorem test_beaconFrame_full :
    let t := after (.beaconFrame .a (beacon 30 326603 545 2 1)) (sourced [1, 2, 3, 4])
    (t.time.sources.map (fun x => x.sender), t.time.selected, t.time.refusedSources) =
      ([1, 2, 3, 30], some 30, 0) := by decide +kernel

theorem witness_TimeDeadlinesTaken :
    let s := synced 100000 326400000 none
    let slewing (n : Int) := { s with time := { s.time with slewRemaining := n, slewTick := some 100000 } }
    let late := { s with time := { s.time with
      sources := [⟨30, 0, 76000⟩], selected := some 30, ownStratum := some 1 } }
    let held := { s with time := { s.time with
      sources := [], selected := none, ownStratum := none, state := .holdover
      staleDeadline := some 100000 } }
    (slewing 1).time.slewTick = some 100000 ∧ 100000 ≤ (slewing 1).clock ∧
      (slewing 1).time.slewRemaining = 1 ∧ (slewing (-1)).time.slewRemaining = -1 ∧
      late.running = true ∧ late.timeLaw ∧ (⟨30, 0, 76000⟩ : TimeSource) ∈ late.time.sources ∧
      76000 + 3 * (late.cfg.beaconInterval * 1000) ≤ late.clock ∧ late.time.state = .synced ∧
      (∀ y ∈ late.time.sources, y = ⟨30, 0, 76000⟩) ∧ s.timeLaw ∧
      (∃ y ∈ s.time.sources, y ≠ ⟨30, 0, 100000⟩) ∧
      held.timeLaw ∧ held.time.state = .holdover ∧ held.time.staleDeadline = some 100000 ∧
      s.time.notifiedMinute < s.programmeMinute ∧ s.running = true ∧
      (State.reset.running = false ∧
        { State.reset with clock := 60000 }.time.notifiedMinute <
          { State.reset with clock := 60000 }.programmeMinute) := by decide +kernel

/-- R71: an item of the audience whose lead minute is now. -/
theorem witness_TimeDeadlinesTaken_lead :
    let i := { anItem 135 1 5450 true with highlight := some 9 }
    let s := { synced 100000 326400000 none with
      prog := { ProgrammeStore.reset with items := [i] } }
    s.programmeMinute = 5441 ∧ i ∈ s.prog.items ∧
      detectedAt s.cfg s.programmeMinute i = true ∧ s.programmeMinute ≤ i.last ∧
      (∀ j ∈ s.prog.items, detectedAt s.cfg s.programmeMinute j = true → j = i) := by decide +kernel

/-! ### Interval timers and page deadlines (chapters 7 and 8) -/

/-- A node whose timer n runs at a count, with one trigger set ENABLED. -/
def timing (n count : Nat) (set : TriggerSet) : State :=
  { node with trig := { TriggerUnit.reset with
      timers := TriggerUnit.reset.timers.set n ⟨true, count, some 100000⟩
      sets := TriggerUnit.reset.sets.set 2 set } }

/-- A set that waits for timer 0 and takes a capture into slot 3. -/
def captures : TriggerSet := ⟨⟨.timer, 0, .capture, 3, 0#4, false, false, true⟩, .enabled⟩

theorem witness_TimersRun :
    (timing 0 299 captures).running = true ∧
      (timing 0 299 captures).trig.timers[0]? = some ⟨true, 299, some 100000⟩ ∧
      100000 ≤ (timing 0 299 captures).clock ∧ 299 < ((timing 0 299 captures).timerCfg 0).terminal ∧
      (timing 0 300 captures).trig.timers[0]? = some ⟨true, 300, some 100000⟩ ∧
      ((timing 0 300 captures).timerCfg 0).terminal ≤ 300 ∧
      (timing 0 300 captures).trig.sets[2]? = some captures ∧ captures.state = .enabled ∧
      captures.cfg.factor = .timer ∧ captures.cfg.factorArg = 0 ∧ captures.cfg.action = .capture ∧
      (∀ j < 4, ∀ z ∈ (timing 0 300 captures).trig.sets[j]?, z.state = .enabled → j = 2) ∧
      (∀ y ∈ (timing 1 1 TriggerSet.reset).trig.sets, y.state = .enabled → y.cfg.factor ≠ .timer) ∧
      ((timing 1 1 TriggerSet.reset).timerCfg 1).terminal ≤ 1 := by decide +kernel

/-- A set that waits for timer 0 with another action. -/
def performs (action : Action) (arg : Nat) : TriggerSet :=
  ⟨⟨.timer, 0, action, arg, 0#4, true, false, true⟩, .enabled⟩

theorem witness_TriggerActionsPerformed :
    ∀ action ∈ [Action.none, .timerStart, .timerStop, .luminance, .enableSets, .disableSets, .showPage,
        .quietEnter, .quietLeave], ∀ arg ∈ [0, 1, 2, 15], ∀ level ∈ [Level.normal, .general],
      let s := { timing 0 300 (performs action arg) with page := (atLevel 700 level node).page }
      s.running = true ∧ s.trig.timers[0]? = some ⟨true, 300, some 100000⟩ ∧
        (s.timerCfg 0).terminal ≤ 300 ∧ s.trig.sets[2]? = some (performs action arg) ∧
        s.trig.sets.map (fun x => x.state) = [.disabled, .disabled, .enabled, .disabled] ∧
        (∀ j < 4, ∀ z ∈ s.trig.sets[j]?, j ≠ 2 → z.cfg.factor ≠ .timer) ∧
        (performs action arg).cfg.chain = 0#4 ∧ s.page.level = level := by decide +kernel

/-- R114, R115, R118, R123, R125: actions by a timer; refused at GENERAL, where only the count moves. -/
theorem test_intervalTimerExpiry_actions :
    let run (action : Action) (arg : Nat) : State :=
      after (.intervalTimerExpiry 0) (timing 0 300 (performs action arg))
    let refused := after (.intervalTimerExpiry 0)
      { routing [] with trig := (timing 0 300 (performs .showPage 1)).trig }
    (run .timerStart 1).trig.timers = [⟨false, 0, none⟩, ⟨true, 0, some 100100⟩] ∧
      (run .luminance 600).panel.dayLevel = 600 ∧
      (run .enableSets 11).trig.sets.map (fun x => x.state) =
        [.enabled, .enabled, .enabled, .enabled] ∧
      (run .quietEnter 0).panel.quiet = true ∧ (run .quietEnter 0).page.quiet = true ∧
      (run .showPage 1).page.dwell = some 108000 ∧
      (refused.page.refusedRequests, refused.page.selected) = (1, .muster) := by decide +kernel

/-- Two ENABLED sets: set 2 waits for timer 0 and chains by its mask to set 1, which takes a capture. -/
def chained (mask : BitVec 4) : State :=
  let s := timing 0 300 ⟨⟨.timer, 0, .none, 0, mask, false, false, true⟩, .enabled⟩
  { s with trig := { s.trig with
      sets := s.trig.sets.set 1 ⟨⟨.input, 3, .capture, 2, 0#4, true, false, true⟩, .enabled⟩ } }

/-- A running node at a held level, with one ENABLED set that waits for an alarm change. -/
def alarmed (level : Level) (argument : Nat) (action : Action) : State :=
  let s := atLevel 700 level node
  { s with
    alarm := { s.alarm with epoch := some 700 }
    trig := { s.trig with
      sets := s.trig.sets.set 2
        ⟨⟨.alarmChange, argument, action, 3, 0#4, false, false, true⟩, .enabled⟩ } }

/-- Sets of each state, normal-only or not, none of which waits for a notice of the change. -/
def mixed : State :=
  let s := alarmed .alert 0 .none
  let set (normalOnly : Bool) (state : SetState) : TriggerSet :=
    ⟨⟨.minute, 0, .none, 0, 0#4, true, normalOnly, true⟩, state⟩
  { s with trig := { s.trig with
      sets := [set true .enabled, set false .enabled, set true .suspended, set true .disabled] } }

theorem witness_ChainsAndSuspensions :
    (∀ mask ∈ [0b0000#4, 0b1101#4, 0b0010#4],
      (chained mask).running = true ∧
        (chained mask).trig.timers[0]? = some ⟨true, 300, some 100000⟩ ∧
        ((chained mask).timerCfg 0).terminal ≤ 300 ∧
        (chained mask).trig.sets.map (fun x => x.state) = [.disabled, .enabled, .enabled, .disabled] ∧
        ((chained mask).trig.sets[2]?.map (fun y => (y.cfg.factor, y.cfg.factorArg, y.cfg.action))) =
          some (.timer, 0, .none) ∧
        ((chained mask).trig.sets[1]?.map (fun y => (y.cfg.factor, y.cfg.action))) =
          some (.input, .capture)) ∧
      (0b1101#4).getLsbD 1 = false ∧ (0b0010#4).getLsbD 1 = true := by decide +kernel

theorem witness_ChainsAndSuspensions_alarm :
    (∀ o ∈ [[2, 189, 1], [2, 189, 0], [2, 188, 2]], mixed.hears .a (rx o)) ∧
      parseAlarm (rx [2, 189, 1]).payload = some ⟨701, .alert⟩ ∧
      parseAlarm (rx [2, 189, 0]).payload = some ⟨701, .normal⟩ ∧
      parseAlarm (rx [2, 188, 2]).payload = some ⟨700, .general⟩ ∧ newer 16 701 700 = true ∧
      (∀ x ∈ mixed.trig.sets, x.cfg.factor ≠ .alarmChange ∧ x.cfg.factor ≠ .routeChange) ∧
      (∀ argument ∈ [2, 3], ∀ action ∈ [Action.none, .capture],
        let s := alarmed .alert argument action
        s.hears .a (rx [2, 188, 2]) ∧ s.alarm.epoch = some 700 ∧ s.alarm.level = .alert ∧
          s.trig.sets.map (fun x => x.state) = [.disabled, .disabled, .enabled, .disabled] ∧
          (s.trig.sets[2]?.map (fun y => (y.cfg.normalOnly, y.cfg.factor, y.cfg.factorArg, y.cfg.action))) =
            some (false, .alarmChange, argument, action)) ∧
      Level.general.code = 2 ∧ node.alarm.epoch = none := by decide +kernel

/-- R111, R112, R113, R116: a chained capture, an alarm capture at its threshold, and the suspensions. -/
theorem test_chains_and_suspensions :
    let t := after (.intervalTimerExpiry 0) (chained 0b0010#4)
    let u := after (.alarmFrame .a (rx [2, 188, 2])) (alarmed .alert 2 .capture)
    let v := after (.alarmFrame .a (rx [2, 188, 2])) mixed
    (t.trig.activations, t.trig.captures.getD 2 none) =
        (2, some ⟨.clock 100000, 1, true, .timer, 0⟩) ∧
      (u.trig.activations, u.trig.captures.getD 3 none) =
        (1, some ⟨.clock 100000, 2, false, .alarmChange, 2⟩) ∧
      (after (.alarmFrame .a (rx [2, 188, 2])) (alarmed .alert 3 .capture)).trig.activations = 0 ∧
      (v.trig.suspensions, v.trig.sets.map (fun x => x.state)) =
        (1, [.suspended, .enabled, .suspended, .disabled]) ∧
      (after (.alarmFrame .a (rx [2, 189, 1])) mixed).trig.sets.map (fun x => x.state) =
        [.enabled, .enabled, .enabled, .disabled] := by decide +kernel

/-- R136 and 8.8 at 2,530,000: on MUSTER fields 19 and 20 are urgent and 5 and 6 not, the tally field 28 is,
and of a cabin page the service field carries the cabin input mark. -/
theorem test_handedRecord :
    let handed (page : Page) (n : Nat) := handedRecord page ⟨n, .normal, .arrow none, [2]⟩
    ([19, 20, 5, 6, 28].map (fun n => (handed .muster n).urgent)) = [true, true, false, false, true] ∧
      (handed .cabin 25).mark = .cabinInput ∧ (handed .cabin 23).mark = .cabinInformation ∧
      (handed .cabin 25).urgent = false ∧ (handed (.rotation .route) 19).urgent = false := by
  decide +kernel

theorem witness_ChangesHandedByCause :
    let shows (fields : List FieldRecord) : State :=
      { node with page := { node.page with handed := some ⟨.rotation .route, fields⟩ } }
    node.page.handed = none ∧ node.page.selected = .rotation .route ∧
      { node with page := { node.page with handed := some ⟨.muster, []⟩ } }.page.handed =
        some ⟨.muster, []⟩ ∧ Page.muster ≠ .rotation .route ∧
      changedFields (node.composePage (.rotation .route)) (node.composePage (.rotation .route)) = [] ∧
      (shows []).page.selected = .rotation .route ∧
      changedFields [] ((shows []).composePage (.rotation .route)) ≠ [] := by decide +kernel

/-- R117: the 300th tick of a terminal count of 300 brings the count to it. -/
theorem test_intervalTimerTick :
    (after (.intervalTimerTick 0) (timing 0 299 captures)).trig.timers.head? =
      some ⟨true, 300, some 100100⟩ := by decide +kernel

/-- 7.7 at 450,000: the SINGLE timer stops at count 0 and its set acts. -/
theorem test_intervalTimerExpiry :
    let t := after (.intervalTimerExpiry 0) (timing 0 300 captures)
    t.trig.timers.head? = some ⟨false, 0, none⟩ ∧ t.trig.activations = 1 ∧
      t.trig.captures.getD 3 none = some ⟨.clock 100000, 2, false, .timer, 0⟩ := by decide +kernel

/-- A node that shows a page with every page deadline due now. -/
def paging (position : RotationPage) (spot : Option Nat) (spotlight : List Nat) : State :=
  let s := synced 100000 (5440 * 60000 - 100000) none
  { s with
    prog := { s.prog with
      items := (List.range 7).map (fun i => anItem (135 + i) 1 (5450 + i) true), spotlight := spotlight }
    page := { s.page with
      selected := if spot.isSome then .spotlight else .rotation position
      rotation := position
      dwell := some 100000
      spotItem := spot
      spotDeadline := spot.map (fun _ => 100000)
      presence := some 100000
      quiet := true } }

/-- The text a page shows in a field. -/
def textOn (s : State) (page : Page) (n : Nat) : Option FieldContent :=
  ((s.composePage page).find? (fun r => r.num == n)).map (fun r => r.content)

/-- R26, R129, R131: the muster target 4 at 499 dm shows 50 m below the deck of its label, deck 5, and without a
target the AWAIT_CREW text with no arrow; a cost of 9991 dm shows 999 m and more. -/
theorem test_muster_page :
    let s := mustering 4 .r1 none
    let none' := { s with muster := { s.muster with dest := none } }
    let far := { mustering 4 .r1 none with route := (routing [{ entry4 with cost := 9991 }]).route }
    [17, 18, 19, 20].map (textOn s .muster) =
      [some (.text [.octet 1#8]), some (.text [.stock .deck, .joint, .digit 5]), some (.arrow (some .down)),
        some (.text [.digit 5, .digit 0, .metres])] ∧
    [17, 19].map (textOn none' .muster) = [some (.text [.stock .awaitCrew]), some (.arrow none)] ∧
    textOn far .muster 20 = some (.text [.moreThan, .digit 9, .digit 9, .digit 9, .metres]) := by
  decide +kernel

theorem witness_GuidancePagesCompose :
    (mustering 4 .r1 none).page.level = .general ∧ (mustering 4 .r1 none).cfg.role ≠ .cabin ∧
      (atLevel 700 .abandon (nodeOf cabin)).page.level = .abandon ∧
      (atLevel 700 .abandon (nodeOf cabin)).cfg.role = .cabin ∧ (99999999 : Nat) < 100000000 := by
  decide +kernel

/-- 8.8: line 0 of page 1 is item 135 at 5450, which starts 10 minutes after 5440, on page 2 of 2 item 141. -/
theorem test_programme_page :
    let s := paging .route none []
    [2, 4, 5].map (textOn s (.rotation (.programme 1))) =
      [some (.text [.digit 1, .slash, .digit 2]),
        some (.text [.digit 1, .digit 8, .colon, .digit 5, .digit 0, .space, .octet 65#8]),
        some (.text [.stock .soon])] := by
  decide +kernel

theorem witness_ContentPagesCompose :
    let s := paging .route (some 135) [135]
    1 ≤ s.cfg.linesPerPage ∧ s.cfg.linesPerPage = 5 ∧ s.programmePages = 2 ∧ s.page.spotItem = some 135 ∧
      s.prog.items.find? (fun x => x.id == 135) = some (anItem 135 1 5450 true) ∧
      1 ≤ (nodeOf cabin).cfg.linesPerPage := by decide +kernel

/-- 8.8 at 1,000,000: seven items give two pages, and the dwell turns ROUTE to PROGRAMME 1. -/
theorem test_dwellDeadline :
    let t := after .dwellDeadline (paging .route none [])
    (t.programmePages, t.page.selected, t.page.dwell) =
      (2, .rotation (.programme 1), some 108000) := by decide +kernel

/-- 8.8 at 1,015,000: the next spotlight item is shown for a fresh 12 s. -/
theorem test_spotlightDeadline :
    let t := after .spotlightDeadline (paging .route (some 135) [135, 138])
    (t.prog.spotlight, t.page.spotItem, t.page.spotDeadline) =
      ([138], some 138, some 112000) := by decide +kernel

/-- 8.8 at 2,460,000: quiet comes back and the programme page gives way to ROUTE. -/
theorem test_presenceDeadline :
    let t := after .presenceDeadline (paging (.programme 1) none [])
    (t.page.selected, t.page.dwell, t.panel.quiet) = (.rotation .route, none, true) := by decide +kernel

theorem witness_PageDeadlinesTaken :
    let s := paging (.programme 2) none []
    let spot := paging .route (some 135) [135, 138]
    s.running = true ∧ 100000 ≤ s.clock ∧ s.page.dwell = some 100000 ∧ s.pageLaw ∧
      s.page.selected.isRotation = true ∧ s.programmePages = 2 ∧ s.page.presence = some 100000 ∧
      s.page.quiet = true ∧ spot.running = true ∧ spot.page.spotDeadline = some 100000 ∧
      spot.page.spotItem = some 135 ∧
      spot.prog.spotlight.filter (fun x => decide (x ≠ 135)) = [138] ∧
      (paging .route (some 135) [135]).prog.spotlight.filter (fun x => decide (x ≠ 135)) = [] := by
  decide +kernel

theorem witness_TriggerActionsPerformed_page :
    let show' (s : State) : State :=
      { s with trig := (timing 0 300 (performs .showPage 0)).trig }
    let calm := show' (paging .route none [135, 138])
    let loud := { calm with page := { calm.page with quiet := false, presence := none } }
    let quiet := { calm with page := { calm.page with presence := none } }
    let shown := show' (paging .route (some 135) [135, 138])
    let bare := { loud with prog := ProgrammeStore.reset }
    let urgent := { show' (routing []) with page := { (routing []).page with level := .general } }
    (∀ s ∈ [calm, loud, quiet, shown, bare, urgent], s.running = true) ∧
      calm.pageLaw ∧ loud.pageLaw ∧ quiet.pageLaw ∧ shown.pageLaw ∧ bare.pageLaw ∧ urgent.pageLaw ∧
      urgent.page.level.emergency = true ∧ calm.page.level.emergency = false ∧
      calm.page.quietInEffect = false ∧ quiet.page.quietInEffect = true ∧ calm.page.quiet = true ∧
      loud.page.quiet = false ∧ loud.page.presence = none ∧
      loud.programmePages = 2 ∧ bare.programmePages = 0 ∧ bare.prog.spotlight = [] ∧
      calm.prog.spotlight = 135 :: [138] ∧ calm.page.spotItem = none ∧ shown.page.spotItem ≠ none ∧
      loud.cfg.role ≠ .cabin ∧ loud.page.selected.isRotation = true ∧ loud.panel.kind = .paper ∧
      { loud with panel := { loud.panel with kind := .lit } }.panel.kind = .lit := by decide +kernel

/-! ### Panel and lamp (chapters 9 and 12) -/

/-- R141 prints these four effective spacings. -/
theorem test_effectiveGap :
    (effectiveGap 1800000 90 20000, effectiveGap 1800000 100 20000, effectiveGap 500000 0 20000,
      effectiveGap 2500 0 20000) = (1800, 2000, 500, 3) := by decide

/-- 9.11: from 800 to 150 at rates 2, 1 and 20 the level after 19 ticks is 591, after 41 it is 151, after 42 150. -/
theorem test_ramp_case :
    let cfg := { PanelCfg.default with rampInitial := 2, rampAcceleration := 1, rampMaximum := 20 }
    let levelAfter (n : Nat) := (List.range n).foldl (fun l k => moveToward l 150 (rampStep cfg k)) 800
    (levelAfter 10, levelAfter 19, levelAfter 41, levelAfter 42) = (735, 591, 151, 150) := by
  decide +kernel

/-- Change the panel controller. -/
def onPanel (f : PanelCtl → PanelCtl) (s : State) : State := { s with panel := f s.panel }

/-- The paper panel of 9.8 at a time in ms, with its window of three entries. -/
def paper (clock : Nat) : State :=
  onPanel (fun p => { p with
    window := [⟨10000, false⟩, ⟨150000, false⟩, ⟨300000, false⟩]
    lastCompletion := some 320200
    busyWatch := none }) { node with clock := clock }

/-- 9.8 at 320.7: gap_any has passed and the urgent full starts; not a millisecond before. -/
theorem test_gapAnyExpiry :
    let ask := onPanel (fun p => { p with full := some ⟨true, false⟩ })
    (after .gapAnyExpiry (ask (paper 320700))).panel.window.getLast? = some ⟨320700, true⟩ ∧
      (after .gapAnyExpiry (ask (paper 320699))).panel.state = .idle := by decide +kernel

/-- 9.8 at 319.0 and at 610: a non-urgent full waits while the count is W − 1, until the entry of 10 s ends. -/
theorem test_windowEntryExpiry :
    let ask := onPanel (fun p => { p with full := some ⟨false, false⟩ })
    (after .windowEntryExpiry (ask (paper 609999))).panel.state = .idle ∧
      (after .windowEntryExpiry (ask (paper 610000))).panel.state = .sending := by decide +kernel

/-- R141: gap_same holds a group's second partial back for 1800 ms from the start of the first. -/
theorem test_gapSameExpiry :
    let ask := onPanel (fun p => { p with
      partials := [⟨2, false, false, 400000⟩]
      pending := [⟨5, [2]⟩]
      groups := p.groups.set 1 ⟨1, some 400000⟩ })
    (after (.gapSameExpiry 1) (ask (paper 401799))).panel.state = .idle ∧
      (after (.gapSameExpiry 1) (ask (paper 401800))).panel.load.map (fun l => l.command) =
        some (.refreshPartial [2]) := by decide +kernel

theorem witness_WindowLawKept : (paper 609999).windowLaw ∧
    ∃ t, step { onPanel (fun p => { p with full := some ⟨true, false⟩ }) (paper 320700) with
      pending := [.gapAnyExpiry] } = .next t :=
  ⟨by decide +kernel, step_answers _⟩

/-- A panel in a state, with the busy input as given. -/
def panelIn (kind : PanelKind) (state : PanelState) (busy : Bool) : State :=
  { onPanel (fun p => { p with kind := kind, state := state }) node with
    pins := { node.pins with busy := busy } }

theorem test_loadEnd : (after .loadEnd (panelIn .paper .sending false)).panel.refreshDeadline = some 110000 ∧
    (after .loadEnd (panelIn .lit .sending false)).panel.state = .idle := by decide +kernel

theorem test_panelBusyFall : (after .panelBusyFall (panelIn .paper .busy true)).panel.lastCompletion =
    some 100000 := by decide +kernel

theorem test_panelBusyRise : (after .panelBusyRise (panelIn .paper .idle false)).panel.busyWatch =
    some 110000 := by decide +kernel

/-- A node whose effective gap_any is 0. -/
def unspaced (s : State) : State :=
  { s with start := { s.start with config := some { corridor with
    panel := { corridor.panel with gapAnyMicros := 0, gapAnyFrames := 0 } } } }

theorem witness_PanelBusyLine :
    let spaced (s : State) : Prop := 0 < effectiveGap s.cfg.panel.gapAnyMicros s.cfg.panel.gapAnyFrames
      s.cfg.panel.framePeriodMicros
    let fallen := onPanel (fun p => { p with fellInLoad := true }) (panelIn .paper .sending false)
    spaced node ∧ (panelIn .paper .sending false).start.lifecycle ≠ .loading ∧
      (panelIn .paper .sending false).panel.state = .sending ∧
      (panelIn .paper .sending false).panel.fellInLoad = false ∧ fallen.panel.fellInLoad = true ∧
      (∀ state ∈ [PanelState.idle, .sending, .busy, .faultWait, .dead], ∀ busy ∈ [true, false],
        let s := panelIn .paper state busy
        s.panel.kind = .paper ∧ s.panel.state = state ∧ s.pins.busy = busy ∧ s.panel.full = none ∧
          s.panel.partials = []) := by decide +kernel

theorem witness_PanelBusyLine_unspaced :
    let s := unspaced (panelIn .paper .busy true)
    let ask (urgent : Bool) := onPanel (fun p => { p with full := some ⟨urgent, false⟩ }) s
    let crowd (n : Nat) (s : State) := onPanel (fun p => { p with
      window := (List.range n).map (fun i => ⟨90000 + i, true⟩) }) s
    let counting (s : State) := s.panel.window.filter
      (fun w => decide (s.clock < w.start + s.cfg.panel.windowSeconds * 1000))
    let fallen := unspaced (onPanel (fun p => { p with fellInLoad := true }) (panelIn .paper .sending false))
    effectiveGap s.cfg.panel.gapAnyMicros s.cfg.panel.gapAnyFrames s.cfg.panel.framePeriodMicros = 0 ∧
      s.panel.kind = .paper ∧ s.panel.state = .busy ∧ s.pins.busy = true ∧ s.panel.full = none ∧
      s.panel.partials = [] ∧ (ask true).panel.full = some ⟨true, false⟩ ∧
      (ask false).panel.full = some ⟨false, false⟩ ∧ s.panel.quiet = false ∧
      (counting (crowd 3 (ask true))).length < s.cfg.panel.windowCount ∧
      s.cfg.panel.windowCount ≤ (counting (crowd 4 (ask false))).length ∧
      fallen.panel.state = .sending ∧ fallen.panel.fellInLoad = true ∧ fallen.pins.busy = false ∧
      effectiveGap fallen.cfg.panel.gapAnyMicros fallen.cfg.panel.gapAnyFrames
        fallen.cfg.panel.framePeriodMicros = 0 := by decide +kernel

/-- R141, R144: with no spacing the completion itself starts the urgent full refresh that waits. -/
theorem test_panelBusyFall_unspaced :
    let t := after .panelBusyFall (unspaced (onPanel (fun p => { p with full := some ⟨true, false⟩ })
      (panelIn .paper .busy true)))
    t.panel.state = .sending ∧ t.panel.window = [⟨100000, true⟩] := by decide +kernel

theorem witness_RefreshStarts :
    let base := paper 401800
    let counting (s : State) := s.panel.window.filter
      (fun w => decide (s.clock < w.start + s.cfg.panel.windowSeconds * 1000))
    let ask := onPanel (fun p => { p with
      partials := [⟨2, false, false, 400000⟩], pending := [⟨5, [2]⟩]
      groups := p.groups.set 1 ⟨1, some 400000⟩ }) base
    base.start.lifecycle ≠ .loading ∧ base.panel.kind = .paper ∧ base.panel.state = .idle ∧
      base.pins.busy = false ∧ base.panel.gapAnyPassed base.panelEnv = true ∧
      (∀ g ∈ [1, 2, 3, 4], base.panel.gapSamePassed base.panelEnv g = true) ∧
      (counting base).length < base.cfg.panel.windowCount ∧
      base.cfg.panel.windowCount - 1 ≤ (counting base).length ∧ base.panel.quiet = false ∧
      (onPanel (fun p => { p with full := some ⟨true, false⟩ }) base).panel.full = some ⟨true, false⟩ ∧
      (onPanel (fun p => { p with full := some ⟨false, false⟩ }) base).panel.full =
        some ⟨false, false⟩ ∧
      ask.panel.full = none ∧ ask.panel.partials = [⟨2, false, false, 400000⟩] ∧
      (∀ x ∈ ask.panel.pending, x.groups = [2]) ∧
      ask.panel.gapSamePassed ask.panelEnv 2 = true := by decide +kernel

/-- A paper panel idle at 401,800 with n window entries that count, in quiet or not, with the given requests; a
pending field joins groups 2 and 3, and group 2 started a partial refresh at a time, its fifth to its eighth. -/
def choosing (n : Nat) (quiet : Bool) (full : Option FullRequest) (partials : List PartialRequest)
    (start : Nat) : State :=
  onPanel (fun p => { p with
    window := (List.range n).map (fun i => ⟨300000 + i, false⟩)
    quiet := quiet, full := full, partials := partials
    pending := [⟨4, [1]⟩, ⟨5, [2, 3]⟩]
    groups := p.groups.set 1 ⟨7, some start⟩ }) (paper 401800)

/-- What the test of the choice at a spacing's expiry starts: the command, the urgency and whether a FULL request
stands afterwards. -/
def chosen (s : State) : Option PanelCommand × Bool × Option FullRequest :=
  let t := after .gapAnyExpiry s
  (t.panel.load.map (fun l => l.command), t.panel.refreshUrgent, t.panel.full)

/-- R142, R143, R145: an urgent full refresh below W = 4 of the window, a non-urgent one below 3, counted as forced
where it was, and in quiet only where it was. -/
theorem test_choice_full :
    let full (n : Nat) (quiet : Bool) (r : FullRequest) := chosen (choosing n quiet (some r) [] 0)
    full 3 true ⟨true, false⟩ = (some .refreshFull, true, none) ∧
      full 4 false ⟨true, true⟩ = (none, false, some ⟨true, true⟩) ∧
      full 2 true ⟨false, true⟩ = (some .refreshFull, false, none) ∧
      full 3 false ⟨false, true⟩ = (none, false, some ⟨false, true⟩) ∧
      full 2 true ⟨false, false⟩ = (none, false, some ⟨false, false⟩) ∧
      (after .gapAnyExpiry (choosing 2 true (some ⟨false, true⟩) [] 0)).panel.forcedFullRefreshes = 1 := by
  decide +kernel

/-- R144, R145: the request of group 2 takes group 3 with it, its eighth partial forces a FULL request, gap_same of
1800 ms turns an urgent one into a full refresh below W = 4, and a deferred FULL request holds no urgent one back. -/
theorem test_choice_partial :
    let ask (n : Nat) (urgent : Bool) (start : Nat) := chosen (choosing n false none
      [⟨1, false, false, 400001⟩, ⟨2, urgent, false, 400000⟩, ⟨3, false, false, 400000⟩] start)
    ask 3 false 400000 = (some (.refreshPartial [2, 3]), false, some ⟨false, true⟩) ∧
      ask 3 false 400001 = (some (.refreshPartial [1]), false, none) ∧
      ask 3 true 400001 = (some .refreshFull, true, none) ∧
      ask 4 true 400001 = (some (.refreshPartial [1]), false, none) ∧
      chosen (choosing 0 true (some ⟨false, false⟩) [⟨1, false, false, 400000⟩, ⟨2, true, false, 400001⟩] 0) =
        (some (.refreshPartial [2, 3]), true, some ⟨false, true⟩) ∧
      (chosen (choosing 0 true none [⟨1, false, false, 400000⟩] 0)).1 = none := by decide +kernel

theorem witness_RefreshStarts_choice :
    let count (s : State) := (s.panel.window.filter
      (fun w => decide (s.clock < w.start + s.cfg.panel.windowSeconds * 1000))).length
    let ask := choosing 3 false none [⟨1, false, false, 400001⟩, ⟨2, true, false, 400000⟩] 400001
    (∀ n ∈ [2, 3, 4], ∀ quiet ∈ [true, false],
      let s := choosing n quiet none [] 0
      count s = n ∧ s.panel.quiet = quiet ∧ s.panel.level.emergency = false ∧ s.panel.kind = .paper ∧
        s.panel.state = .idle ∧ s.pins.busy = false ∧ s.panel.gapAnyPassed s.panelEnv = true) ∧
      node.cfg.panel.windowCount = 4 ∧ node.cfg.panel.ghostLimit = 8 ∧
      (∀ r ∈ ask.panel.partials, 1 ≤ r.group ∧ r.group ≤ 4) ∧ count ask < ask.cfg.panel.windowCount ∧
      ask.panel.gapSamePassed ask.panelEnv 1 = true ∧ ask.panel.gapSamePassed ask.panelEnv 2 = false ∧
      ask.panel.gapSamePassed ask.panelEnv 3 = true ∧ ask.panel.pending = [⟨4, [1]⟩, ⟨5, [2, 3]⟩] := by
  decide +kernel

/-- A paper panel whose timeout, busy watch or retry is due, after n timeouts in a row. -/
def late (state : PanelState) (n : Nat) (busy : Bool) : State :=
  onPanel (fun p => { p with
    timeoutRun := n
    refreshDeadline := if state = .busy then some 100000 else none
    busyWatch := if state = .idle then some 100000 else none
    retryDeadline := if state = .faultWait then some 100000 else none }) (panelIn .paper state busy)

/-- R147: the second timeout in a row leads to FAULT_WAIT for 30 s, the third to DEAD. -/
theorem test_refreshTimeout :
    (after .refreshTimeout (late .busy 1 true)).panel.retryDeadline = some 130000 ∧
      (after .refreshTimeout (late .busy 2 true)).panel.state = .dead := by decide +kernel

theorem test_busyWatchExpiry :
    (after .busyWatchExpiry (late .idle 0 true)).panel.state = .faultWait ∧
      (after .busyWatchExpiry (late .idle 0 true)).ind.fault = true := by decide +kernel

theorem test_retryDeadline :
    (after .retryDeadline (late .faultWait 1 true)).panel.pending.length = 32 ∧
      (after .retryDeadline (late .faultWait 1 false)).panel.state = .sending := by decide +kernel

theorem witness_PanelTimeouts :
    (∀ n ∈ [1, 2],
      let b := late .busy n true
      let i := late .idle n true
      b.start.lifecycle ≠ .loading ∧ b.panel.kind = .paper ∧ b.panel.state = .busy ∧
        b.panel.refreshDeadline = some 100000 ∧ 100000 ≤ b.clock ∧ b.panel.timeoutRun = n ∧
        i.panel.state = .idle ∧ i.panel.busyWatch = some 100000 ∧ i.panel.timeoutRun = n) ∧
      (late .faultWait 1 true).panel.state = .faultWait ∧
      (late .faultWait 1 true).panel.retryDeadline = some 100000 ∧
      (late .faultWait 1 true).pins.busy = true := by decide +kernel

theorem witness_PanelTimeouts_retry :
    let retry (completion : Option Nat) (urgent : Bool) (window : Nat) (quiet : Bool)
        (partials : List PartialRequest) : State := onPanel (fun p => { p with
      lastCompletion := completion
      refreshUrgent := urgent
      window := (List.range window).map (fun i => ⟨90000 + i, true⟩)
      quiet := quiet
      partials := partials }) (late .faultWait 1 false)
    let counting (s : State) := s.panel.window.filter
      (fun w => decide (s.clock < w.start + s.cfg.panel.windowSeconds * 1000))
    let asked : List PartialRequest := [⟨2, false, false, 99000⟩]
    (∀ urgent ∈ [true, false], ∀ window ∈ [2, 3, 4], ∀ quiet ∈ [true, false], ∀ partials ∈ [[], asked],
      let s := retry none urgent window quiet partials
      s.start.lifecycle ≠ .loading ∧ s.panel.kind = .paper ∧ s.panel.state = .faultWait ∧
        s.panel.retryDeadline = some 100000 ∧ 100000 ≤ s.clock ∧ s.pins.busy = false ∧
        s.panel.gapAnyPassed s.panelEnv = true ∧ s.panel.refreshUrgent = urgent ∧
        s.panel.quiet = quiet ∧ s.panel.level.emergency = false ∧ s.panel.full = none ∧
        s.panel.partials = partials ∧ (∀ x ∈ s.panel.partials, x.urgent = false) ∧
        (counting s).length = window ∧ s.cfg.panel.windowCount = 4) ∧
      (retry (some 99999) true 0 false []).panel.gapAnyPassed
        (retry (some 99999) true 0 false []).panelEnv = false := by decide +kernel

/-- A lit panel at level 800 on its way to 150. -/
def ramping : State :=
  onPanel (fun p => { p with
    luminance := 800, target := some 150, rampTick := some 100000 }) (panelIn .lit .idle false)

theorem test_rampTick : (after .rampTick ramping).panel.luminance = 796 ∧
    (after .rampTick ramping).panel.rampTick = some 100010 := by decide +kernel

/-- A node at a node clock and level, with the generator's last phase. -/
def blinkAt (clock : Nat) (l : Level) (phase : Bool) : State :=
  let s := atLevel 700 l node
  { s with clock := clock, ind := { s.ind with phaseOn := phase } }

/-- R180, defaults: the lamp at GENERAL goes dark at 500 ms of its period of 1000. -/
theorem test_blinkEdge : (after .blinkEdge (blinkAt 100500 .general true)).ind.lamp = false ∧
    (after .blinkEdge (blinkAt 101000 .general false)).ind.lamp = true := by decide +kernel

/-- R180: at ABANDON the lamp turns at 250 ms of a period of 500. -/
theorem test_abandonLampEdge : (after .abandonLampEdge (blinkAt 100249 .abandon true)).ind.lamp = true ∧
    (after .abandonLampEdge (blinkAt 100250 .abandon true)).ind.lamp = false := by decide +kernel

/-- A lit panel that holds one blinking field. -/
def blinking (state : PanelState) : State :=
  let s := blinkAt 100500 .general true
  onPanel (fun p => { p with
    kind := .lit, state := state
    held := [⟨⟨19, .blink, .arrow (some .down), [2]⟩, [2]⟩] }) s

theorem witness_LitPanelAndLamp :
    let s := panelIn .lit .sending false
    s.start.lifecycle ≠ .loading ∧ s.panel.kind = .lit ∧ s.panel.state = .sending ∧
      s.panel.pageMark = false ∧ s.panel.pending = [] ∧
      (onPanel (fun p => { p with pageMark := true }) s).panel.pageMark = true ∧
      (onPanel (fun p => { p with pending := [⟨5, [2]⟩] }) s).panel.pending ≠ [] ∧
      ramping.panel.rampTick = some 100000 ∧ ramping.panel.target = some 150 ∧ 100000 ≤ ramping.clock ∧
      (∀ state ∈ [PanelState.idle, .sending],
        (blinking state).ind.phaseOn ≠
            decide ((blinking state).clock % (blinking state).cfg.blinkPeriod <
              (blinking state).cfg.blinkOnTime) ∧
          (blinking state).panel.kind = .lit ∧ (blinking state).panel.state = state ∧
          ∃ h ∈ (blinking state).panel.held, h.record.num = 19 ∧ h.record.attr = .blink) ∧
      (blinkAt 100500 .general true).panel.kind = .paper ∧
      (blinkAt 100250 .abandon true).ind.level = .abandon := by decide +kernel

theorem witness_FaultLineStands : (late .busy 2 true).faultLaw ∧
    ∃ t, step { late .busy 2 true with pending := [.refreshTimeout] } = .next t :=
  ⟨by decide +kernel, step_answers _⟩

/-! ### Status responder (chapter 12) -/

/-- R178: the IDENTITY reply of node 212 on deck 7 in zone 6. -/
theorem test_queryFrame :
    let t := after (.queryFrame .a (rx [0, 212, 0, 0])) node
    t.status.queriesAnswered = 1 ∧ t.ports.a.queue.map (fun e => (e.key, e.content)) =
      [(.statusItem 0 0, .fixed ⟨.status, 0, 212, 212,
        oct [0, 0, 0, 212, 7, 6, 0, 0, 0, 0, 0, 3]⟩)] := by decide +kernel

/-- R178: a query of an item above 10 is answered UNKNOWN. -/
theorem test_queryFrame_unknown :
    (after (.queryFrame .a (rx [0, 212, 11, 4])) node).ports.a.queue.map (fun e => e.content) =
      [.fixed ⟨.status, 0, 212, 212, oct [255, 4, 11]⟩] := by decide +kernel

/-- R178, 12.4: the CABIN_STATUS reply of a corridor node counts its tally, and an EMPTY capture slot is absent. -/
theorem test_queryFrame_items :
    let reply (item argument : Nat) (s : State) : List QueueContent :=
      (after (.queryFrame .a (rx [0, 212, item, argument])) s).ports.a.queue.map (fun e => e.content)
    let status (data : List Nat) : List QueueContent := [.fixed ⟨.status, 0, 212, 212, oct data⟩]
    reply 10 0 tallied = status [10, 0, 1, 3, 2, 0] ∧ reply 10 0 node = status [10, 0, 2] ∧
      reply 5 0 (mustering 6 .r3 none) = status [5, 0, 1, 0, 1, 6, 1, 3, 0, 0, 0, 0, 0, 0, 0, 0, 0] := by
  decide +kernel

theorem witness_QueryTaken :
    node.hears .a (rx [0, 212, 10, 4]) ∧
      parseQuery (rx [0, 212, 0, 0]).payload = some ⟨212, 0, 0⟩ ∧
      parseQuery (rx [0, 212, 2, 0]).payload = some ⟨212, 2, 0⟩ ∧
      parseQuery (rx [0, 212, 10, 4]).payload = some ⟨212, 10, 4⟩ ∧
      parseQuery (rx [0, 212, 11, 4]).payload = some ⟨212, 11, 4⟩ ∧
      parseQuery (rx [0, 213, 0, 0]).payload = some ⟨213, 0, 0⟩ ∧
      (∀ item ∈ [1, 2, 3, 4, 5, 6, 7, 8, 9, 10, 11], ∀ argument ∈ [0, 4, 5, 255],
        parseQuery (rx [0, 212, item, argument]).payload = some ⟨212, item, argument⟩ ∧
          node.hears .a (rx [0, 212, item, argument]) ∧
          tallied.hears .a (rx [0, 212, item, argument]) ∧
          (nodeOf cabin).hears .a (rx [0, 212, item, argument])) ∧
      (nodeOf cabin).cfg.role = .cabin ∧ tallied.cfg.role ≠ .cabin ∧
      tallied.cabin.tally.isSome = true ∧ node.cabin.tally = none ∧
      node.start.lifecycle = .operating ∧ node.cfg.nodeNumber = 212 ∧
      (listening corridor).hears .a (rx [0, 212, 0, 0]) ∧
      (listening corridor).start.lifecycle ≠ .operating := by decide +kernel

end Sys2Proof.Tests
end

/-! ### Serial numbers: the distance of R1, and the order it gives -/

namespace Sys2Proof.Machine

/-- The distance modulo 2^n from serial number b up to a, as `newer` computes it: in natural numbers, with 2^n
added so that the subtraction does not truncate. -/
def serialDistance (n a b : Nat) : Nat := (a % 2 ^ n + 2 ^ n - b % 2 ^ n) % 2 ^ n

theorem newer_iff_serialDistance (n a b : Nat) :
    newer n a b = true ↔ 1 ≤ serialDistance n a b ∧ serialDistance n a b ≤ 2 ^ (n - 1) - 1 := by
  simp only [newer, serialDistance, Bool.and_eq_true, decide_eq_true_eq]

@[simp] theorem serialDistance_self (n a : Nat) : serialDistance n a a = 0 := by
  simp only [serialDistance, Nat.add_sub_cancel_left, Nat.mod_self]

/-- The distance is the integer difference modulo 2^n of R1: b's residue lies below the 2^n that was added, so
nothing is cut off, and the added 2^n vanishes in the residue. -/
theorem serialDistance_cast (n a b : Nat) :
    (serialDistance n a b : Int) = ((a : Int) - b) % (2 ^ n : Nat) := by
  have hb : b % 2 ^ n ≤ a % 2 ^ n + 2 ^ n :=
    Nat.le_trans (Nat.le_of_lt (Nat.mod_lt b (Nat.two_pow_pos n))) (Nat.le_add_left _ _)
  calc (serialDistance n a b : Int)
      = ((a : Int) % (2 ^ n : Nat) + (2 ^ n : Nat) - (b : Int) % (2 ^ n : Nat)) % (2 ^ n : Nat) := by
        rw [serialDistance, Int.natCast_emod, Int.natCast_sub hb, Int.natCast_add, Int.natCast_emod,
          Int.natCast_emod]
    _ = ((a : Int) - b) % (2 ^ n : Nat) := by
        rw [Int.sub_emod, Int.add_emod_right, Int.emod_emod, Int.emod_emod, ← Int.sub_emod]

/-- R1 for all natural numbers: `newer` reads a and b modulo 2^n, so no bound on them is needed. -/
theorem newer_iff (n a b : Nat) :
    newer n a b = true ↔
      1 ≤ ((a : Int) - b) % (2 ^ n : Nat) ∧
        ((a : Int) - b) % (2 ^ n : Nat) ≤ ((2 ^ (n - 1) : Nat) : Int) - 1 := by
  have half_pos : 1 ≤ 2 ^ (n - 1) := Nat.one_le_two_pow
  rw [newer_iff_serialDistance, ← serialDistance_cast]
  omega

/-- Equal serial numbers are duplicates (R1). -/
@[simp] theorem newer_self (n a : Nat) : newer n a a = false := by
  rw [← Bool.not_eq_true, newer_iff_serialDistance, serialDistance_self]
  omega

/-- Settles O11: the two cases of R1, which hold without the bounds on a and b. -/
theorem serialNewer : Obligations.SerialNewer := by
  unfold Obligations.SerialNewer
  intro n a b _ _ _
  exact ⟨newer_iff n a b, newer_self n a⟩

end Sys2Proof.Machine

/-! ### Links: when a candidate is unreachable, and the parts of its cost (R11, R12) -/

namespace Sys2Proof.Machine

theorem ZoneState.blocks_iff (z : ZoneState) : z.blocks = true ↔ z = .smoke ∨ z = .fire := by
  cases z <;> decide

theorem Level.emergency_iff (x : Level) : x.emergency = true ↔ x = .general ∨ x = .abandon := by
  cases x <;> decide

theorem LinkKind.isStair_eq (k : LinkKind) : k.isStair = decide (k ≠ .level) := by
  cases k <;> rfl

/-- R12 step 1: the product lies in 8..64000, so the quotient of the rounded product lies in 1..8000. -/
theorem weightedLength_range {cfg : ConfigCopy} {l : NeighbourCfg} (hd : 1 ≤ l.distance)
    (hd' : l.distance ≤ 2000) (hf : 8 ≤ linkFactor cfg l.kind) (hf' : linkFactor cfg l.kind ≤ 32) :
    1 ≤ weightedLength cfg l ∧ weightedLength cfg l ≤ 8000 := by
  have low : 1 * 8 ≤ l.distance * linkFactor cfg l.kind := Nat.mul_le_mul hd hf
  have high : l.distance * linkFactor cfg l.kind ≤ 2000 * 32 := Nat.mul_le_mul hd' hf'
  unfold weightedLength
  omega

theorem State.penalty_eq (s : State) (l : NeighbourCfg) :
    s.penalty l = (if s.zoneAt l.zone l.deck = .caution then s.cfg.cautionPenalty else 0) +
      (if l.boundary = true ∧ (s.alarm.level = .general ∨ s.alarm.level = .abandon) then
        s.cfg.boundaryPenalty else 0) := by
  simp only [State.penalty, Bool.and_eq_true, Level.emergency_iff]

/-- R12 step 2: each part is its configured penalty or 0, so P is at most the sum of the two. -/
theorem State.penalty_le (s : State) (l : NeighbourCfg) :
    s.penalty l ≤ s.cfg.cautionPenalty + s.cfg.boundaryPenalty := by
  unfold State.penalty
  exact Nat.add_le_add (by split <;> omega) (by split <;> omega)

/-- The sum S = A + W + P of R12 step 3. -/
def State.linkCost (s : State) (l : NeighbourCfg) (c : Cell) : Nat :=
  c.cost + weightedLength s.cfg l + s.penalty l

/-- The four cases of R11 and the two limits of R12 step 3, with the blocking zone states named. -/
def State.LinkUnreachable (s : State) (l : NeighbourCfg) (c : Cell) : Prop :=
  c.state ≠ .live ∨ c.cost = 65535 ∨ c.nextNode = s.cfg.nodeNumber ∨
    s.zoneAt l.zone l.deck = .smoke ∨ s.zoneAt l.zone l.deck = .fire ∨
    65534 < s.linkCost l c ∨ 63 < c.hop + 1

theorem State.linkUnreachable_iff_blocks (s : State) (l : NeighbourCfg) (c : Cell) :
    s.LinkUnreachable l c ↔
      c.state ≠ .live ∨ c.cost = 65535 ∨ c.nextNode = s.cfg.nodeNumber ∨
        (s.zoneAt l.zone l.deck).blocks = true ∨ 65534 < s.linkCost l c ∨ 63 < c.hop + 1 := by
  simp only [State.LinkUnreachable, ZoneState.blocks_iff, or_assoc]

theorem State.linkCandidate_of_unreachable {s : State} {l : NeighbourCfg} {c : Cell} (n : Nat)
    (h : s.LinkUnreachable l c) : s.linkCandidate n l c = none :=
  if_pos ((s.linkUnreachable_iff_blocks l c).mp h)

theorem State.linkCandidate_of_not_unreachable {s : State} {l : NeighbourCfg} {c : Cell} (n : Nat)
    (h : ¬s.LinkUnreachable l c) :
    s.linkCandidate n l c =
      some ⟨n, s.linkCost l c, c.hop + 1, c.viaStair || decide (l.kind ≠ .level),
        c.viaBoundary || l.boundary⟩ := by
  rw [← LinkKind.isStair_eq]
  exact if_neg (mt (s.linkUnreachable_iff_blocks l c).mpr h)

/-- Settles O29: the statement's own sum is the model's cost of the link, so its unreachable cases are
`State.LinkUnreachable`, which decides the outcome; the ranges are those of W and P. -/
theorem candidateThroughLink : Obligations.CandidateThroughLink := by
  unfold Obligations.CandidateThroughLink
  intro s n l c zone factor length penalty sum unreachable
  have penalty_is : s.penalty l = penalty := s.penalty_eq l
  have cost_is : s.linkCost l c = sum := congrArg (c.cost + length + ·) penalty_is
  have unreachable_is : s.LinkUnreachable l c = unreachable := by
    unfold State.LinkUnreachable
    rw [cost_is]
    rfl
  rw [← unreachable_is, ← cost_is, ← penalty_is]
  refine ⟨State.linkCandidate_of_unreachable n, State.linkCandidate_of_not_unreachable n,
    weightedLength_range (cfg := s.cfg), fun caution boundary => ?_⟩
  calc s.penalty l ≤ s.cfg.cautionPenalty + s.cfg.boundaryPenalty := s.penalty_le l
    _ ≤ 5000 + 500 := Nat.add_le_add caution boundary

end Sys2Proof.Machine

/-! ### Effective zone state: the highest severity among the covering reports (R41) -/

namespace Sys2Proof.Machine

theorem ZoneState.code_le_max_left (x y : ZoneState) : x.code ≤ (x.max y).code := by
  unfold ZoneState.max
  split <;> omega

theorem ZoneState.code_le_max_right (x y : ZoneState) : y.code ≤ (x.max y).code := by
  unfold ZoneState.max
  split <;> omega

theorem ZoneState.max_eq_or (x y : ZoneState) : x.max y = x ∨ x.max y = y := by
  unfold ZoneState.max
  split
  · exact .inr rfl
  · exact .inl rfl

theorem ZoneState.eq_clear_of_code_le {z : ZoneState} (h : z.code ≤ ZoneState.clear.code) :
    z = .clear := by
  cases z
  case clear => rfl
  all_goals exact absurd h (by decide)

/-- The report covers (zone, deck): its zone and its range of decks hold the location (R41). -/
def ZoneReport.Covers (r : ZoneReport) (zone deck : Nat) : Prop :=
  r.zone = zone ∧ r.deckLow ≤ deck ∧ deck ≤ r.deckHigh

/-- The state of (zone, deck) after one more report, from the state `z` so far: one step of
`effectiveZone`. -/
def ZoneState.raisedBy (z : ZoneState) (zone deck : Nat) (r : ZoneReport) : ZoneState :=
  if r.zone = zone ∧ r.deckLow ≤ deck ∧ deck ≤ r.deckHigh then z.max r.state else z

/-- `effectiveZone` from any state `z`, which an induction over the reports needs. -/
def ZoneState.raisedByAll (z : ZoneState) (zone deck : Nat) (reports : List ZoneReport) : ZoneState :=
  reports.foldl (fun z r => z.raisedBy zone deck r) z

theorem effectiveZone_eq_raisedByAll (reports : List ZoneReport) (zone deck : Nat) :
    effectiveZone reports zone deck = ZoneState.clear.raisedByAll zone deck reports := rfl

section
variable {reports : List ZoneReport} {r : ZoneReport} {zone deck : Nat}

theorem ZoneState.raisedBy_of_covers (z : ZoneState) (h : r.Covers zone deck) :
    z.raisedBy zone deck r = z.max r.state := if_pos h

theorem ZoneState.raisedBy_of_not_covers (z : ZoneState) (h : ¬r.Covers zone deck) :
    z.raisedBy zone deck r = z := if_neg h

theorem ZoneState.code_le_raisedBy (z : ZoneState) : z.code ≤ (z.raisedBy zone deck r).code := by
  by_cases h : r.Covers zone deck
  · rw [z.raisedBy_of_covers h]
    exact z.code_le_max_left r.state
  · exact Nat.le_of_eq (congrArg code (z.raisedBy_of_not_covers h).symm)

theorem ZoneState.state_code_le_raisedBy (z : ZoneState) (h : r.Covers zone deck) :
    r.state.code ≤ (z.raisedBy zone deck r).code := by
  rw [z.raisedBy_of_covers h]
  exact z.code_le_max_right r.state

theorem ZoneState.raisedBy_eq_or (z : ZoneState) :
    z.raisedBy zone deck r = z ∨ r.Covers zone deck ∧ z.raisedBy zone deck r = r.state := by
  by_cases h : r.Covers zone deck
  · rw [z.raisedBy_of_covers h]
    exact (z.max_eq_or r.state).imp_right fun own => ⟨h, own⟩
  · exact .inl (z.raisedBy_of_not_covers h)

theorem ZoneState.raisedByAll_nil (z : ZoneState) : z.raisedByAll zone deck [] = z := rfl

theorem ZoneState.raisedByAll_cons (z : ZoneState) :
    z.raisedByAll zone deck (r :: reports) = (z.raisedBy zone deck r).raisedByAll zone deck reports := rfl

theorem ZoneState.code_le_raisedByAll (z : ZoneState) :
    z.code ≤ (z.raisedByAll zone deck reports).code := by
  induction reports generalizing z with
  | nil => exact Nat.le_refl _
  | cons first rest ih => exact Nat.le_trans z.code_le_raisedBy (ih _)

theorem ZoneState.state_code_le_raisedByAll (z : ZoneState) (hr : r ∈ reports)
    (h : r.Covers zone deck) : r.state.code ≤ (z.raisedByAll zone deck reports).code := by
  induction hr generalizing z with
  | head rest => exact Nat.le_trans (z.state_code_le_raisedBy h) (ZoneState.code_le_raisedByAll _)
  | tail first _ ih => exact ih _

/-- The state at the end is that of a covering report, or the one at the start. -/
theorem ZoneState.raisedByAll_attained_or_eq (z : ZoneState) :
    (∃ r ∈ reports, r.Covers zone deck ∧ r.state = z.raisedByAll zone deck reports) ∨
      z.raisedByAll zone deck reports = z := by
  induction reports generalizing z with
  | nil => exact .inr z.raisedByAll_nil
  | cons first rest ih =>
    rw [z.raisedByAll_cons]
    obtain ⟨r, hr, attains⟩ | unraised := ih (z.raisedBy zone deck first)
    · exact .inl ⟨r, List.mem_cons_of_mem first hr, attains⟩
    · rw [unraised]
      obtain same | ⟨h, own⟩ := z.raisedBy_eq_or (r := first)
      · exact .inr same
      · exact .inl ⟨first, List.mem_cons_self, h, own.symm⟩

theorem code_le_effectiveZone (hr : r ∈ reports) (h : r.Covers zone deck) :
    r.state.code ≤ (effectiveZone reports zone deck).code := by
  rw [effectiveZone_eq_raisedByAll]
  exact ZoneState.clear.state_code_le_raisedByAll hr h

/-- Where the effective state is CLEAR and a report covers the location, that report is CLEAR itself, since the
effective state bounds it. -/
theorem effectiveZone_attained_or_none_covers :
    (∃ r ∈ reports, r.Covers zone deck ∧ r.state = effectiveZone reports zone deck) ∨
      (∀ r ∈ reports, ¬r.Covers zone deck) ∧ effectiveZone reports zone deck = .clear := by
  obtain attained | clear := ZoneState.clear.raisedByAll_attained_or_eq
    (reports := reports) (zone := zone) (deck := deck)
  · exact .inl attained
  · rw [← effectiveZone_eq_raisedByAll] at clear
    by_cases covered : ∃ r ∈ reports, r.Covers zone deck
    · obtain ⟨r, hr, h⟩ := covered
      have bound : r.state.code ≤ ZoneState.clear.code := clear ▸ code_le_effectiveZone hr h
      exact .inl ⟨r, hr, h, (ZoneState.eq_clear_of_code_le bound).trans clear.symm⟩
    · exact .inr ⟨fun r hr h => covered ⟨r, hr, h⟩, clear⟩

end

/-- Settles O27: the effective state bounds every covering report, and one of them attains it unless none
covers the location. -/
theorem effectiveZoneIsHighest : Obligations.EffectiveZoneIsHighest := by
  unfold Obligations.EffectiveZoneIsHighest
  intro reports zone deck covers
  exact ⟨fun _ => code_le_effectiveZone, effectiveZone_attained_or_none_covers⟩

end Sys2Proof.Machine

/-! ### The youngest entry of the highest class, and requests by case (R158, R159) -/

namespace Sys2Proof.Machine

section

variable {q : List QueueEntry} {x y : QueueEntry}

/-- Entries of distinct keys are distinct. -/
theorem queue_nodup (h : q.Pairwise (fun x y => x.sameKey y = false)) : q.Nodup := by
  refine h.imp fun {x y} apart same => ?_
  rw [same, (QueueEntry.sameKey_iff y y).mpr ⟨rfl, rfl⟩] at apart
  cases apart

theorem highestClass_of_getLast? (last : q.getLast? = some y) : highestClass q = y.cls.code := by
  rw [highestClass, last]

theorem mem_dropYoungest_iff (h : q.Nodup) (last : q.getLast? = some y) :
    x ∈ dropYoungest q ↔ x ∈ q ∧ x ≠ y := by
  obtain ⟨older, rfl⟩ := List.getLast?_eq_some_iff.mp last
  rw [List.nodup_append] at h
  obtain ⟨-, -, apart⟩ := h
  have old_ne : x ∈ older → x ≠ y := fun hx => apart x hx y (List.mem_singleton_self y)
  rw [dropYoungest, List.dropLast_concat, List.mem_append, List.mem_singleton, or_and_right,
    and_not_self_iff, or_false, and_iff_left_of_imp old_ne]

/-- In the order of R158 the last entry is the youngest of the highest class. -/
theorem youngest_of_getLast? (h : q.Pairwise (fun x y => y.before x = false))
    (last : q.getLast? = some y) (hx : x ∈ q) :
    x.cls.code ≤ y.cls.code ∧ (x.cls = y.cls → x.age ≤ y.age) := by
  obtain ⟨older, rfl⟩ := List.getLast?_eq_some_iff.mp last
  rw [List.pairwise_append] at h
  obtain ⟨-, -, ordered⟩ := h
  obtain hx | rfl := (List.mem_append.trans (or_congr_right List.mem_singleton)).mp hx
  · have behind := (QueueEntry.not_before_iff x y).mp (ordered x hx y (List.mem_singleton_self y))
    refine ⟨by omega, fun same => ?_⟩
    rw [same] at behind
    omega
  · exact ⟨Nat.le_refl _, fun _ => Nat.le_refl _⟩

end

section

variable {c : PortCtl} {cls : FrameClass} {key : QueueKey} (content : QueueContent)

/-- Case 3 of R158. -/
theorem PortCtl.join_of_queued (queued : ∃ x ∈ c.queue, x.cls = cls ∧ x.key = key) :
    c.join cls key content = { c with
      queue := c.queue.map (fun x => if x.cls = cls ∧ x.key = key then
        { x with content := mergeContent x.content content } else x) } := by
  obtain ⟨x, hx, same⟩ := queued
  rcases c.join_cases cls key content with ⟨-, eq⟩ | ⟨none, -⟩ | ⟨none, -⟩ | ⟨none, -⟩
  · exact eq
  all_goals exact absurd same (none x hx)

/-- Case 4 of R158. -/
theorem PortCtl.join_of_room (none : ∀ x ∈ c.queue, ¬(x.cls = cls ∧ x.key = key))
    (room : c.queue.length < queueCap) :
    c.join cls key content = { c with
      queue := enqueue ⟨cls, key, c.nextAge, content⟩ c.queue, nextAge := c.nextAge + 1 } := by
  rcases c.join_cases cls key content with
    ⟨⟨x, hx, same⟩, -⟩ | ⟨-, -, eq⟩ | ⟨-, full, -⟩ | ⟨-, full, -⟩
  · exact absurd same (none x hx)
  · exact eq
  all_goals omega

/-- Case 5 of R158 where the new class is lower than the highest queued (R159). -/
theorem PortCtl.join_of_full_of_lower (none : ∀ x ∈ c.queue, ¬(x.cls = cls ∧ x.key = key))
    (full : queueCap ≤ c.queue.length) (lower : cls.code < highestClass c.queue) :
    c.join cls key content = { c with
      queue := enqueue ⟨cls, key, c.nextAge, content⟩ (dropYoungest c.queue)
      nextAge := c.nextAge + 1
      queueDrops := bump c.queueDrops } := by
  rcases c.join_cases cls key content with
    ⟨⟨x, hx, same⟩, -⟩ | ⟨-, room, -⟩ | ⟨-, -, -, eq⟩ | ⟨-, -, upper, -⟩
  · exact absurd same (none x hx)
  · omega
  · exact eq
  · omega

/-- Case 5 of R158 where the new class is equal or higher (R159). -/
theorem PortCtl.join_of_full_of_not_lower (none : ∀ x ∈ c.queue, ¬(x.cls = cls ∧ x.key = key))
    (full : queueCap ≤ c.queue.length) (upper : highestClass c.queue ≤ cls.code) :
    c.join cls key content = { c with queueDrops := bump c.queueDrops } := by
  rcases c.join_cases cls key content with
    ⟨⟨x, hx, same⟩, -⟩ | ⟨-, room, -⟩ | ⟨-, -, lower, -⟩ | ⟨-, -, -, eq⟩
  · exact absurd same (none x hx)
  · omega
  · omega
  · exact eq

@[simp] theorem PortCtl.join_inFlight (c : PortCtl) (cls : FrameClass) (key : QueueKey)
    (content : QueueContent) : (c.join cls key content).inFlight = c.inFlight := by
  rcases c.join_cases cls key content with ⟨-, eq⟩ | ⟨-, -, eq⟩ | ⟨-, -, -, eq⟩ | ⟨-, -, -, eq⟩ <;>
    rw [eq]

/-- R159 for a lawful full queue, in terms of the one entry y that the rule compares with and may drop. -/
theorem PortCtl.join_of_full (law : c.queueLaw)
    (none : ∀ x ∈ c.queue, ¬(x.cls = cls ∧ x.key = key)) (full : c.queue.length = queueCap) :
    (c.join cls key content).queueDrops = bump c.queueDrops ∧
      ∃ y ∈ c.queue,
        (∀ x ∈ c.queue, x.cls.code ≤ y.cls.code ∧ (x.cls = y.cls → x.age ≤ y.age)) ∧
        (cls.code < y.cls.code → ∀ e, e ∈ (c.join cls key content).queue ↔
          e = ⟨cls, key, c.nextAge, content⟩ ∨ (e ∈ c.queue ∧ e ≠ y)) ∧
        (y.cls.code ≤ cls.code → (c.join cls key content).queue = c.queue) := by
  obtain ⟨-, keys, order⟩ := law
  have nonempty : c.queue ≠ [] := List.ne_nil_of_length_pos (full ▸ by decide)
  obtain ⟨y, last⟩ : ∃ y, c.queue.getLast? = some y := ⟨_, List.getLast?_eq_some_getLast nonempty⟩
  have full_le : queueCap ≤ c.queue.length := Nat.le_of_eq full.symm
  have highest := highestClass_of_getLast? last
  refine ⟨?_, y, List.mem_of_getLast? last, fun x hx => youngest_of_getLast? order last hx, ?_, ?_⟩
  · by_cases lower : cls.code < highestClass c.queue
    · rw [join_of_full_of_lower content none full_le lower]
    · rw [join_of_full_of_not_lower content none full_le (Nat.le_of_not_lt lower)]
  · intro lower e
    rw [join_of_full_of_lower content none full_le (highest ▸ lower), mem_enqueue,
      mem_dropYoungest_iff (queue_nodup keys) last]
  · intro upper
    rw [join_of_full_of_not_lower content none full_le (highest ▸ upper)]

end

section

variable {s : State} {p : Port} (cls : FrameClass) (key : QueueKey) (content : QueueContent)

/-- Case 1 of R158. -/
theorem State.request_of_off
    (off : (s.ports.get p).inUse = false ∨ s.start.lifecycle ≠ .operating) :
    s.request p cls key content = s := if_pos off

/-- Case 2 of R158. -/
theorem State.request_of_down (used : (s.ports.get p).inUse = true)
    (op : s.start.lifecycle = .operating) (down : (s.ports.get p).state = .down) :
    s.request p cls key content = s.putPort p { s.ports.get p with
      refusedWhileDown := bump (s.ports.get p).refusedWhileDown } := by
  simp [State.request, used, op, down]

/-- Cases 3 to 5 of R158. -/
theorem State.request_of_up (used : (s.ports.get p).inUse = true)
    (op : s.start.lifecycle = .operating) (up : (s.ports.get p).state = .up) :
    s.request p cls key content = s.putPort p ((s.ports.get p).join cls key content) := by
  simp [State.request, used, op, up]

theorem State.request_other_port (s : State) (p : Port) (cls : FrameClass) (key : QueueKey)
    (content : QueueContent) :
    (s.request p cls key content).ports.get (otherPort p) = s.ports.get (otherPort p) := by
  rcases s.request_cases p cls key content with ⟨-, eq⟩ | ⟨-, -, -, eq⟩ | ⟨-, -, -, eq⟩ <;>
    simp [eq]

end

/-- Settles O13: cases 1 and 2 of R158 are decided at the node, cases 3 to 5 at the port; a full queue is
`PortCtl.join_of_full`. -/
theorem requestTaken : Obligations.RequestTaken := by
  unfold Obligations.RequestTaken
  refine ⟨⟨fun _ _ => rfl, fun _ => rfl, fun _ _ => rfl, fun _ => rfl, rfl⟩, ?_⟩
  intro s p cls key content c t d new
  refine ⟨s.request_changes p cls key content, s.request_other_port p cls key content,
    s.request_of_off cls key content, fun used op => ⟨fun down => ?_, fun up law => ?_⟩⟩
  · simp only [d, t, s.request_of_down cls key content used op down, State.putPort_ports,
      PerPort.get_put_same, c]
  · have taken : d = c.join cls key content := by
      simp only [d, t, s.request_of_up cls key content used op up, State.putPort_ports,
        PerPort.get_put_same, c]
    rw [taken]
    refine ⟨PortCtl.join_queueLaw law cls key content, c.join_inFlight cls key content,
      fun queued => ?_, fun none room => ?_, PortCtl.join_of_full content law⟩
    · rw [PortCtl.join_of_queued content queued]
      exact ⟨rfl, rfl, fun e =>
        List.mem_map.trans (exists_congr fun _ => and_congr_right fun _ => eq_comm)⟩
    · rw [PortCtl.join_of_room content none room]
      exact ⟨rfl, rfl, fun e => mem_enqueue new e c.queue⟩

end Sys2Proof.Machine

/-! ### The fault side of the node: what the fault line law reads, and the works that leave it alone (R181) -/

namespace Sys2Proof.Machine

/-- A panel that has timed out: FAULT_WAIT or DEAD. -/
def PanelCtl.failed (p : PanelCtl) : Bool := decide (p.state = .faultWait) || decide (p.state = .dead)

/-- Two panel states of the same kind, failed together. -/
def PanelCtl.sameFailure (p q : PanelCtl) : Prop := q.kind = p.kind ∧ q.failed = p.failed

/-- Two port states with the same use, bus state and frame in flight. -/
def PortCtl.sameLine (c d : PortCtl) : Prop :=
  d.inUse = c.inUse ∧ d.state = c.state ∧ d.inFlight = c.inFlight

/-- Two states that agree on all the fault line law reads. -/
structure SameFaultSide (s t : State) : Prop where
  fault : t.ind.fault = s.ind.fault
  lifecycle : t.start.lifecycle = s.start.lifecycle
  panel : s.panel.sameFailure t.panel
  ports : ∀ p, (s.ports.get p).sameLine (t.ports.get p)

/-- The condition of the fault line by what the fault side holds. -/
theorem State.faultCondition_eq (s : State) : s.faultCondition =
    (decide (s.start.lifecycle = .configFault) || (decide (s.panel.kind = .paper) && s.panel.failed) ||
      ((s.ports.get .a).inUse && decide ((s.ports.get .a).state = .down)) ||
      ((s.ports.get .b).inUse && decide ((s.ports.get .b).state = .down))) := rfl

theorem PortCtl.sameLine.idleLaw {c d : PortCtl} (h : c.sameLine d) (law : c.idleLaw) : d.idleLaw := by
  obtain ⟨use, state, flight⟩ := h
  rwa [PortCtl.idleLaw, use, state, flight]

/-- The fault line law passes between states of the same fault side. -/
theorem SameFaultSide.faultLaw {s t : State} (h : SameFaultSide s t) (law : s.faultLaw) :
    t.faultLaw := by
  obtain ⟨stands, idleA, idleB⟩ := law
  obtain ⟨kind, failed⟩ := h.panel
  obtain ⟨useA, stateA, -⟩ := h.ports .a
  obtain ⟨useB, stateB, -⟩ := h.ports .b
  refine ⟨?_, (h.ports .a).idleLaw idleA, (h.ports .b).idleLaw idleB⟩
  rw [h.fault, stands, s.faultCondition_eq, t.faultCondition_eq, h.lifecycle, kind, failed, useA, stateA,
    useB, stateB]

/-! ### How same fault sides combine -/

theorem PanelCtl.sameFailure.refl (p : PanelCtl) : p.sameFailure p := ⟨rfl, rfl⟩

theorem PanelCtl.sameFailure.trans {p q r : PanelCtl} (h : p.sameFailure q) (k : q.sameFailure r) :
    p.sameFailure r := ⟨k.1.trans h.1, k.2.trans h.2⟩

theorem PortCtl.sameLine.refl (c : PortCtl) : c.sameLine c := ⟨rfl, rfl, rfl⟩

theorem PortCtl.sameLine.trans {c d e : PortCtl} (h : c.sameLine d) (k : d.sameLine e) :
    c.sameLine e := by
  obtain ⟨use, state, flight⟩ := h
  obtain ⟨use', state', flight'⟩ := k
  exact ⟨use'.trans use, state'.trans state, flight'.trans flight⟩

theorem SameFaultSide.refl (s : State) : SameFaultSide s s := ⟨rfl, rfl, .refl _, fun _ => .refl _⟩

theorem SameFaultSide.trans {s t u : State} (h : SameFaultSide s t) (k : SameFaultSide t u) :
    SameFaultSide s u :=
  ⟨k.fault.trans h.fault, k.lifecycle.trans h.lifecycle, h.panel.trans k.panel,
    fun p => (h.ports p).trans (k.ports p)⟩

theorem SameFaultSide.ite {s t u : State} {c : Prop} [Decidable c] (h : SameFaultSide s t)
    (k : SameFaultSide s u) : SameFaultSide s (if c then t else u) := by
  split
  · exact h
  · exact k

theorem SameFaultSide.foldl {α : Type} {f : State → α → State}
    (h : ∀ s x, SameFaultSide s (f s x)) (l : List α) (s : State) : SameFaultSide s (l.foldl f s) := by
  induction l generalizing s with
  | nil => exact .refl s
  | cons x xs ih => exact (h s x).trans (ih (f s x))

/-- The blocks the fault line law does not read. -/
def offFaultSide : List Block :=
  [.clock, .bus, .time, .alarm, .route, .muster, .prog, .cabin, .trig, .page, .status, .pins, .pending]

/-- A work outside the blocks the law reads leaves the fault side alone. -/
theorem OnlyChanges.sameFaultSide {a : List Block} {s t : State} (h : OnlyChanges a s t)
    (off : Block.within a offFaultSide = true := by rfl) : SameFaultSide s t := by
  have wide : OnlyChanges offFaultSide s t := h.widen off
  have ind : t.ind = s.ind := wide .ind (by decide)
  have start : t.start = s.start := wide .start (by decide)
  have panel : t.panel = s.panel := wide .panel (by decide)
  have ports : t.ports = s.ports := wide .ports (by decide)
  exact ⟨by rw [ind], by rw [start], panel ▸ .refl _, fun p => ports ▸ .refl _⟩

/-! ### Works of the panel controller, the ports, the start block and the indicator unit -/

theorem State.panelDo_sameFaultSide (s : State) (f : PanelEnv → PanelCtl → PanelCtl)
    (h : s.panel.sameFailure (f s.panelEnv s.panel)) : SameFaultSide s (s.panelDo f) :=
  ⟨rfl, rfl, h, fun _ => .refl _⟩

theorem State.putPort_sameFaultSide (s : State) (p : Port) {c : PortCtl}
    (h : (s.ports.get p).sameLine c) : SameFaultSide s (s.putPort p c) := by
  refine ⟨rfl, rfl, .refl _, fun q => ?_⟩
  by_cases same : q = p
  · rw [same, State.putPort_ports, PerPort.get_put_same]
    exact h
  · rw [State.putPort_ports, PerPort.get_put_other _ _ _ _ same]
    exact .refl _

theorem State.startDo_sameFaultSide (s : State) (f : StartBlock → StartBlock)
    (h : (f s.start).lifecycle = s.start.lifecycle) : SameFaultSide s (s.startDo f) :=
  ⟨rfl, h, .refl _, fun _ => .refl _⟩

theorem State.indicatorTakes_sameFaultSide (s : State) (l : Level) :
    SameFaultSide s (s.indicatorTakes l) := ⟨rfl, rfl, .refl _, fun _ => .refl _⟩

theorem State.mapSchedules_sameFaultSide (s : State) (f : Schedule → Schedule) :
    SameFaultSide s (s.mapSchedules f) := ⟨rfl, rfl, .refl _, fun _ => .refl _⟩

theorem State.heardOn_sameFaultSide (s : State) (p : Port) (f : Schedule → Schedule) :
    SameFaultSide s (s.heardOn p f) := .ite ⟨rfl, rfl, .refl _, fun _ => .refl _⟩ (.refl _)

/-! ### What the panel controller makes of its state outside its timeouts (chapter 9) -/

/-- Neither of two panel states of one kind has failed. -/
theorem PanelCtl.sameFailure_of_working {p q : PanelCtl} (kind : q.kind = p.kind)
    (before : p.failed = false) (after : q.failed = false) : p.sameFailure q :=
  ⟨kind, after.trans before.symm⟩

theorem PanelCtl.not_failed_of_idle {p : PanelCtl} (idle : p.state = .idle) : p.failed = false := by
  simp [PanelCtl.failed, idle]

theorem PanelCtl.not_failed_of_sending {p : PanelCtl} (sending : p.state = .sending) :
    p.failed = false := by
  simp [PanelCtl.failed, sending]

theorem PanelCtl.not_failed_of_busy {p : PanelCtl} (busy : p.state = .busy) : p.failed = false := by
  simp [PanelCtl.failed, busy]

/-- A refresh starts from IDLE alone, and stands in SENDING. -/
theorem PanelCtl.tryChoice_sameFailure (e : PanelEnv) (p : PanelCtl) :
    p.sameFailure (p.tryChoice e) := by
  unfold PanelCtl.tryChoice
  split
  · rename_i free
    obtain ⟨-, idle, -, -⟩ := free
    dsimp only
    split
    · exact .refl p
    · exact sameFailure_of_working rfl (not_failed_of_idle idle) rfl
    · exact sameFailure_of_working rfl (not_failed_of_idle idle) rfl
  · exact .refl p

theorem PanelCtl.tryLit_sameFailure (e : PanelEnv) (p : PanelCtl) : p.sameFailure (p.tryLit e) := by
  unfold PanelCtl.tryLit PanelCtl.beginLit
  split
  · rename_i free
    obtain ⟨idle, -⟩ := free
    split
    · exact sameFailure_of_working rfl (not_failed_of_idle idle) rfl
    · exact sameFailure_of_working rfl (not_failed_of_idle idle) rfl
  · exact .refl p

theorem PanelCtl.tryStart_sameFailure (e : PanelEnv) (p : PanelCtl) :
    p.sameFailure (p.tryStart e) := by
  unfold PanelCtl.tryStart
  split
  · exact p.tryChoice_sameFailure e
  · exact p.tryLit_sameFailure e

theorem PanelCtl.takePageChange_sameFailure (e : PanelEnv) (fields : List FieldRecord) (urgent : Bool)
    (p : PanelCtl) : p.sameFailure (p.takePageChange e fields urgent) := by
  unfold PanelCtl.takePageChange
  dsimp only
  split
  · exact .refl p
  · split
    · exact .trans (.refl p) (PanelCtl.tryChoice_sameFailure e _)
    · exact .trans (.refl p) (PanelCtl.tryLit_sameFailure e _)

theorem PanelCtl.takeField_sameFailure (e : PanelEnv) (h : HandedField) (p : PanelCtl) :
    p.sameFailure (p.takeField e h) := by
  unfold PanelCtl.takeField
  dsimp only
  split
  · exact .refl p
  · split <;> exact .refl p

theorem PanelCtl.takeFieldChange_sameFailure (e : PanelEnv) (fields : List HandedField)
    (p : PanelCtl) : p.sameFailure (p.takeFieldChange e fields) := by
  refine .trans ?_ (PanelCtl.tryStart_sameFailure e _)
  induction fields generalizing p with
  | nil => exact .refl p
  | cons h fields ih => exact (p.takeField_sameFailure e h).trans (ih _)

theorem PanelCtl.takeUrgency_sameFailure (e : PanelEnv) (p : PanelCtl) :
    p.sameFailure (p.takeUrgency e) := by
  unfold PanelCtl.takeUrgency
  split
  · exact .refl p
  · exact .trans (.refl p) (PanelCtl.tryChoice_sameFailure e _)

theorem PanelCtl.retarget_sameFailure (e : PanelEnv) (p : PanelCtl) :
    p.sameFailure (p.retarget e) := by
  unfold PanelCtl.retarget
  split <;> exact .refl p

theorem PanelCtl.takeAlarm_sameFailure (e : PanelEnv) (before after : Level) (p : PanelCtl) :
    p.sameFailure (p.takeAlarm e before after) := by
  unfold PanelCtl.takeAlarm
  dsimp only
  split
  · exact .trans (.refl p) (PanelCtl.tryChoice_sameFailure e _)
  · refine .trans ?_ (PanelCtl.retarget_sameFailure e _)
    split <;> exact .refl p

theorem PanelCtl.takeQuiet_sameFailure (e : PanelEnv) (quiet : Bool) (p : PanelCtl) :
    p.sameFailure (p.takeQuiet e quiet) := by
  unfold PanelCtl.takeQuiet
  dsimp only
  split
  · exact .trans (.refl p) (PanelCtl.tryChoice_sameFailure e _)
  · exact .trans (.refl p) (PanelCtl.retarget_sameFailure e _)

theorem PanelCtl.takeDayLevel_sameFailure (e : PanelEnv) (level : Nat) (p : PanelCtl) :
    p.sameFailure (p.takeDayLevel e level) := .trans (.refl p) (PanelCtl.retarget_sameFailure e _)

theorem PanelCtl.enterListening_sameFailure (e : PanelEnv) (p : PanelCtl) :
    p.sameFailure (p.enterListening e) := .trans (.refl p) (PanelCtl.retarget_sameFailure e _)

theorem PanelCtl.blinkPhase_sameFailure (e : PanelEnv) (p : PanelCtl) :
    p.sameFailure (p.blinkPhase e) := by
  unfold PanelCtl.blinkPhase
  split
  · exact .refl p
  · dsimp only
    split
    · exact .refl p
    · exact .trans (.refl p) (PanelCtl.tryLit_sameFailure e _)

theorem PanelCtl.ramp_sameFailure (e : PanelEnv) (p : PanelCtl) : p.sameFailure (p.ramp e) := by
  unfold PanelCtl.ramp
  split <;> exact .refl p

/-- A load ends in SENDING, and leaves the panel in IDLE, BUSY or a new SENDING. -/
theorem PanelCtl.endLoad_sameFailure (e : PanelEnv) {p : PanelCtl} (sending : p.state = .sending) :
    p.sameFailure (p.endLoad e) := by
  have working {q : PanelCtl} (kind : q.kind = p.kind) (after : q.failed = false) : p.sameFailure q :=
    sameFailure_of_working kind (not_failed_of_sending sending) after
  unfold PanelCtl.endLoad
  split
  · refine .trans ?_ (PanelCtl.tryLit_sameFailure e _)
    exact working rfl rfl
  · split
    · refine .trans ?_ (PanelCtl.tryChoice_sameFailure e _)
      exact working rfl rfl
    · exact working rfl rfl

theorem PanelCtl.busyFalls_sameFailure (e : PanelEnv) (p : PanelCtl) :
    p.sameFailure (p.busyFalls e) := by
  unfold PanelCtl.busyFalls
  split
  · rename_i busy
    have ends : p.sameFailure (p.complete e) :=
      sameFailure_of_working rfl (not_failed_of_busy busy) rfl
    exact ends.trans (PanelCtl.tryChoice_sameFailure e _)
  · exact .refl p
  · exact .trans (.refl p) (PanelCtl.tryChoice_sameFailure e _)
  · exact .refl p
  · exact .refl p

theorem PanelCtl.busyRises_sameFailure (e : PanelEnv) (p : PanelCtl) :
    p.sameFailure (p.busyRises e) := by
  unfold PanelCtl.busyRises
  split <;> exact .refl p

end Sys2Proof.Machine

/-! ### The works of the blocks on the fault side: none of them moves it (R181)

The lifecycle moves, the panel timeouts and retry, and the bus state and frame in flight of a port have their
own theorems further on; all other works are here, in the order of `Sys2Proof/Laws/Frames.lean`. -/

namespace Sys2Proof.Machine

/-! ### Bus (chapter 10) -/

theorem PortCtl.join_sameLine (c : PortCtl) (cls : FrameClass) (key : QueueKey)
    (content : QueueContent) : c.sameLine (c.join cls key content) := by
  rcases c.join_cases cls key content with ⟨-, e⟩ | ⟨-, -, e⟩ | ⟨-, -, -, e⟩ | ⟨-, -, -, e⟩ <;>
    exact e ▸ ⟨rfl, rfl, rfl⟩

theorem State.request_sameFaultSide (s : State) (p : Port) (cls : FrameClass) (key : QueueKey)
    (content : QueueContent) : SameFaultSide s (s.request p cls key content) := by
  rcases s.request_cases p cls key content with ⟨-, e⟩ | ⟨-, -, -, e⟩ | ⟨-, -, -, e⟩ <;> rw [e]
  · exact .refl s
  · exact s.putPort_sameFaultSide p ⟨rfl, rfl, rfl⟩
  · exact s.putPort_sameFaultSide p (PortCtl.join_sameLine _ _ _ _)

theorem State.requestToken_sameFaultSide (s : State) (p : Port) (kind : TokenKind) :
    SameFaultSide s (s.requestToken p kind) := s.request_sameFaultSide _ _ _ _

theorem State.requestOwn_sameFaultSide (s : State) (p : Port) (cls : FrameClass) (key : QueueKey)
    (payload : List Byte) : SameFaultSide s (s.requestOwn p cls key payload) :=
  s.request_sameFaultSide _ _ _ _

theorem State.relay_sameFaultSide (s : State) (p : Port) (cls : FrameClass) (f : RxFrame)
    (changed : Bool) : SameFaultSide s (s.relay p cls f changed) := by
  have counted := (s.busDo_changes (fun b => { b with relayedCopies := bump b.relayedCopies })).sameFaultSide
  exact .ite (counted.trans (State.request_sameFaultSide _ _ _ _ _)) (.refl s)

/-! ### Page selector (chapter 8) -/

theorem State.pageDo_sameFaultSide (s : State) (f : PageSelector → PageSelector) :
    SameFaultSide s (s.pageDo f) := (s.pageDo_changes f).sameFaultSide

theorem State.handOver_sameFaultSide (s : State) (cause : PageCause) :
    SameFaultSide s (s.handOver cause) := by
  have handed := s.pageDo_sameFaultSide
    (fun p => { p with handed := some ⟨s.page.selected, s.composePage s.page.selected⟩ })
  have change (f : PageSelector → PageSelector) (fields : List FieldRecord) (urgent : Bool) :=
    (handed.trans (State.pageDo_sameFaultSide _ f)).trans
      (State.panelDo_sameFaultSide _ (fun e p => p.takePageChange e fields urgent)
        (PanelCtl.takePageChange_sameFailure _ _ _ _))
  unfold State.handOver
  dsimp only
  split
  · exact change _ _ _
  · split
    · exact change _ _ _
    · split
      · exact handed
      · exact handed.trans
          (State.panelDo_sameFaultSide _ _ (PanelCtl.takeFieldChange_sameFailure _ _ _))

theorem State.finishPage_sameFaultSide (s : State) (positionSet : Bool) (cause : PageCause) :
    SameFaultSide s (s.finishPage positionSet cause) :=
  (s.pageDo_sameFaultSide _).trans (State.handOver_sameFaultSide _ _)

/-- The selector's own change and the end of its event. -/
theorem State.pageDo_finishPage_sameFaultSide (s : State) (f : PageSelector → PageSelector)
    (positionSet : Bool) (cause : PageCause) :
    SameFaultSide s ((s.pageDo f).finishPage positionSet cause) :=
  (s.pageDo_sameFaultSide f).trans (State.finishPage_sameFaultSide _ _ _)

theorem State.pageNotice_sameFaultSide (s : State) (cause : PageCause) :
    SameFaultSide s (s.pageNotice cause) := s.finishPage_sameFaultSide _ _

theorem State.pageTakesProgramme_sameFaultSide (s : State) :
    SameFaultSide s s.pageTakesProgramme := s.pageDo_finishPage_sameFaultSide _ _ _

theorem State.refuseRequest_sameFaultSide (s : State) : SameFaultSide s s.refuseRequest :=
  s.pageDo_finishPage_sameFaultSide _ _ _

theorem State.jumpTo_sameFaultSide (s : State) (position : RotationPage) :
    SameFaultSide s (s.jumpTo position) :=
  ((s.pageDo_sameFaultSide _).trans (.ite (State.pageDo_sameFaultSide _ _) (.refl _))).trans
    (State.finishPage_sameFaultSide _ _ _)

theorem State.pageShow_sameFaultSide (s : State) (page : ShowPage) :
    SameFaultSide s (s.pageShow page) := by
  unfold State.pageShow
  refine .ite s.refuseRequest_sameFaultSide ?_
  split
  · exact s.jumpTo_sameFaultSide _
  · exact .ite s.refuseRequest_sameFaultSide (s.jumpTo_sameFaultSide _)
  · split
    · exact s.refuseRequest_sameFaultSide
    · exact .ite (s.finishPage_sameFaultSide _ _) (s.pageDo_finishPage_sameFaultSide _ _ _)

theorem State.quietChanged_sameFaultSide (s : State) (before : Bool) :
    SameFaultSide s (s.quietChanged before) := by
  have told (f : PageSelector → PageSelector) (quiet : Bool) :=
    (s.pageDo_sameFaultSide f).trans (State.panelDo_sameFaultSide _ (fun e p => p.takeQuiet e quiet)
      (PanelCtl.takeQuiet_sameFailure _ _ _))
  unfold State.quietChanged
  exact .ite (.refl s) (.ite (told _ _) (told _ _))

theorem State.changeQuiet_sameFaultSide (s : State) (f : PageSelector → PageSelector) :
    SameFaultSide s (s.changeQuiet f) :=
  ((s.pageDo_sameFaultSide f).trans (State.quietChanged_sameFaultSide _ _)).trans
    (State.finishPage_sameFaultSide _ _ _)

/-! ### Muster selector (chapter 3) -/

theorem State.takeMuster_sameFaultSide (s : State) (m : MusterSelector) :
    SameFaultSide s (s.takeMuster m) := by
  have taken : SameFaultSide s (s.musterDo (fun _ => m)) := (s.musterDo_changes _).sameFaultSide
  exact .ite taken ((taken.trans (State.pageNotice_sameFaultSide _ _)).trans
    (State.panelDo_sameFaultSide _ _ (PanelCtl.takeUrgency_sameFailure _ _)))

theorem State.musterReview_sameFaultSide (s : State) : SameFaultSide s s.musterReview :=
  s.takeMuster_sameFaultSide _

/-! ### Trigger unit (chapter 7) -/

theorem State.trigDo_sameFaultSide (s : State) (f : TriggerUnit → TriggerUnit) :
    SameFaultSide s (s.trigDo f) := (s.trigDo_changes f).sameFaultSide

theorem State.performAction_sameFaultSide (s : State) (o : Occurrence) (n : Nat) (chained : Bool)
    (c : TriggerCfg) : SameFaultSide s (s.performAction o n chained c) := by
  unfold State.performAction
  split
  · exact .refl s
  · exact s.pageShow_sameFaultSide _
  · exact s.trigDo_sameFaultSide _
  · exact s.trigDo_sameFaultSide _
  · exact s.trigDo_sameFaultSide _
  · exact s.panelDo_sameFaultSide _ (PanelCtl.takeDayLevel_sameFailure _ _ _)
  · exact .ite s.refuseRequest_sameFaultSide (s.changeQuiet_sameFaultSide _)
  · exact .ite s.refuseRequest_sameFaultSide (s.changeQuiet_sameFaultSide _)
  · exact s.trigDo_sameFaultSide _
  · exact s.trigDo_sameFaultSide _

theorem State.actAndOnce_sameFaultSide (s : State) (o : Occurrence) (n : Nat) (chained : Bool)
    (c : TriggerCfg) : SameFaultSide s (s.actAndOnce o n chained c) :=
  (s.performAction_sameFaultSide o n chained c).trans (State.trigDo_sameFaultSide _ _)

theorem SameFaultSide.cascadeFoldl {s : State} {f : Cascade → Nat → Cascade}
    (h : ∀ k m, SameFaultSide k.state (f k m).state) (l : List Nat) (k : Cascade)
    (hk : SameFaultSide s k.state) : SameFaultSide s (l.foldl f k).state := by
  induction l generalizing k with
  | nil => exact hk
  | cons x xs ih => exact ih (f k x) (hk.trans (h k x))

theorem activate_sameFaultSide (depth : Nat) (o : Occurrence) (n : Nat) (chained : Bool)
    (k : Cascade) : SameFaultSide k.state (activate depth o n chained k).state := by
  induction depth generalizing n chained k with
  | zero => exact .refl _
  | succ d ih =>
    refine SameFaultSide.cascadeFoldl ?_ _ _ (State.actAndOnce_sameFaultSide _ _ _ _ _)
    intro k m
    split
    · exact ih m true k
    · exact .refl _

theorem cascadeTurn_sameFaultSide (o : Occurrence) (k : Cascade) (n : Nat) :
    SameFaultSide k.state (cascadeTurn o k n).state := by
  unfold cascadeTurn
  split
  · exact activate_sameFaultSide _ _ _ _ _
  · exact .refl _

theorem State.cascade_sameFaultSide (s : State) (o : Occurrence) : SameFaultSide s (s.cascade o) :=
  SameFaultSide.cascadeFoldl (cascadeTurn_sameFaultSide o) _ _ (.refl s)

theorem State.cascades_sameFaultSide (s : State) (os : List Occurrence) :
    SameFaultSide s (s.cascades os) := SameFaultSide.foldl (fun s o => s.cascade_sameFaultSide o) os s

theorem State.triggerTakesAlarm_sameFaultSide (s : State) (before after : Level) :
    SameFaultSide s (s.triggerTakesAlarm before after) :=
  .ite (s.trigDo_sameFaultSide _)
    ((s.trigDo_sameFaultSide _).trans (State.cascade_sameFaultSide _ _))

theorem State.timerExpires_sameFaultSide (s : State) (n : Nat) :
    SameFaultSide s (s.timerExpires n) :=
  .ite ((s.trigDo_sameFaultSide _).trans (State.cascade_sameFaultSide _ _)) (.refl s)

/-! ### Programme store (chapter 4) -/

theorem State.progDo_sameFaultSide (s : State) (f : ProgrammeStore → ProgrammeStore) :
    SameFaultSide s (s.progDo f) := (s.progDo_changes f).sameFaultSide

theorem State.detectLeads_sameFaultSide (s : State) (minute : Nat) :
    SameFaultSide s (s.detectLeads minute) :=
  (s.progDo_sameFaultSide _).trans (State.cascades_sameFaultSide _ _)

theorem State.progTakesMinute_sameFaultSide (s : State) (minute : Nat) :
    SameFaultSide s (s.progTakesMinute minute) := by
  have expire : SameFaultSide s
      (if s.time.state.known then s.progDo (fun p => p.expire minute) else s) :=
    .ite (s.progDo_sameFaultSide _) (.refl s)
  exact (expire.trans (.ite (State.detectLeads_sameFaultSide _ _) (.refl _))).trans
    (State.pageTakesProgramme_sameFaultSide _)

theorem State.progTakesStep_sameFaultSide (s : State) (kind : StepKind) (crossed : List Nat)
    (minute : Nat) : SameFaultSide s (s.progTakesStep kind crossed minute) := by
  have expire (t : State) : SameFaultSide t
      (if t.time.state.known then t.progDo (fun p => p.expire minute) else t) :=
    .ite (t.progDo_sameFaultSide _) (.refl t)
  have leads : SameFaultSide s
      (if s.time.state.disciplined then crossed.foldl State.detectLeads s else s) :=
    .ite (SameFaultSide.foldl (fun s m => s.detectLeads_sameFaultSide m) _ _) (.refl s)
  refine SameFaultSide.trans ?_ (State.pageTakesProgramme_sameFaultSide _)
  cases kind
  · exact expire s
  · exact leads.trans (expire _)
  · exact expire s
  · exact .refl s

theorem State.spotlightDone_sameFaultSide (s : State) (id : Nat) :
    SameFaultSide s (s.spotlightDone id) :=
  .ite ((s.progDo_sameFaultSide _).trans (State.pageTakesProgramme_sameFaultSide _)) (.refl s)

theorem State.pageSpotlightEnds_sameFaultSide (s : State) :
    SameFaultSide s s.pageSpotlightEnds := by
  unfold State.pageSpotlightEnds
  refine SameFaultSide.trans ?_ (State.pageDo_finishPage_sameFaultSide _ _ _ _)
  split
  · exact s.spotlightDone_sameFaultSide _
  · exact .refl s

theorem State.takeItemFrame_sameFaultSide (s : State) (p : ItemPayload) :
    SameFaultSide s (s.takeItemFrame p).1 := by
  have clamp : SameFaultSide s
      (if p.clamps then s.progDo (fun q => { q with clampedItems := bump q.clampedItems })
        else s) := .ite (s.progDo_sameFaultSide _) (.refl s)
  unfold State.takeItemFrame
  by_cases running : s.running = true
  · rw [if_pos running]
    dsimp only
    split
    · exact (clamp.trans (State.progDo_sameFaultSide _ _)).trans
        (State.pageTakesProgramme_sameFaultSide _)
    · dsimp only
      exact clamp.trans (State.progDo_sameFaultSide _ _)
  · rw [if_neg running]
    exact .refl s

theorem State.takeWithdrawFrame_sameFaultSide (s : State) (w : Tombstone) :
    SameFaultSide s (s.takeWithdrawFrame w).1 := by
  unfold State.takeWithdrawFrame
  split
  · dsimp only
    split
    · exact (s.progDo_sameFaultSide _).trans (State.pageTakesProgramme_sameFaultSide _)
    · exact s.progDo_sameFaultSide _
  · exact .refl s

/-! ### Ship time unit (chapter 6) -/

theorem State.timeDo_sameFaultSide (s : State) (f : TimeUnit → TimeUnit) :
    SameFaultSide s (s.timeDo f) := (s.timeDo_changes f).sameFaultSide

theorem State.timeNotice_sameFaultSide (s : State) : SameFaultSide s s.timeNotice :=
  .ite (s.pageNotice_sameFaultSide _) (.refl s)

theorem State.announceMinute_sameFaultSide (s : State) (minute : Nat) :
    SameFaultSide s (s.announceMinute minute) := by
  refine (s.timeDo_sameFaultSide (fun u => { u with notifiedMinute := minute })).trans
    (.ite ?_ (.refl _))
  refine (State.progTakesMinute_sameFaultSide _ minute).trans ?_
  exact SameFaultSide.trans (.ite (State.cascade_sameFaultSide _ _) (.refl _))
    (State.pageNotice_sameFaultSide _ _)

theorem State.reachMinute_sameFaultSide (s : State) : SameFaultSide s s.reachMinute :=
  .ite (s.announceMinute_sameFaultSide _) (.refl s)

theorem State.announceStep_sameFaultSide (s : State) (kind : StepKind) :
    SameFaultSide s (s.announceStep kind) := by
  refine (s.timeDo_sameFaultSide (fun u =>
    { u with notifiedMinute := notifiedAfter kind u.notifiedMinute s.programmeMinute })).trans
    (.ite ?_ (.refl _))
  exact ((State.progTakesStep_sameFaultSide _ _ _ _).trans (State.cascades_sameFaultSide _ _)).trans
    (State.pageNotice_sameFaultSide _ _)

theorem State.slewBeacon_sameFaultSide (s : State) (r : Int) : SameFaultSide s (s.slewBeacon r) :=
  .ite (s.timeDo_sameFaultSide _)
    ((s.timeDo_sameFaultSide _).trans (State.timeNotice_sameFaultSide _))

theorem State.stepBeacon_sameFaultSide (s : State) (r : Int) : SameFaultSide s (s.stepBeacon r) := by
  unfold State.stepBeacon
  dsimp only
  split
  · exact s.timeDo_sameFaultSide _
  · exact .ite ((s.timeDo_sameFaultSide _).trans (State.announceStep_sameFaultSide _ _))
      (s.timeDo_sameFaultSide _)

theorem State.discipline_sameFaultSide (s : State) (r : Int) : SameFaultSide s (s.discipline r) :=
  .ite ((s.timeDo_sameFaultSide _).trans (State.announceStep_sameFaultSide _ _))
    (.ite (s.slewBeacon_sameFaultSide r) (s.stepBeacon_sameFaultSide r))

theorem State.takeBeacon_sameFaultSide (s : State) (sender : Nat) (b : BeaconPayload) :
    SameFaultSide s (s.takeBeacon sender b) := by
  unfold State.takeBeacon
  exact .ite (.ite (s.timeDo_sameFaultSide _)
    (.ite ((s.timeDo_sameFaultSide _).trans (State.discipline_sameFaultSide _ _))
      (s.timeDo_sameFaultSide _))) (.refl s)

theorem State.expireSource_sameFaultSide (s : State) (sender : Nat) :
    SameFaultSide s (s.expireSource sender) := by
  unfold State.expireSource
  split
  · exact .refl s
  · exact .ite (.ite (s.timeDo_sameFaultSide _)
      ((s.timeDo_sameFaultSide _).trans (State.timeNotice_sameFaultSide _))) (.refl s)

theorem State.slewTicks_sameFaultSide (s : State) : SameFaultSide s s.slewTicks :=
  .ite (.ite ((s.timeDo_sameFaultSide _).trans (State.reachMinute_sameFaultSide _))
    (s.timeDo_sameFaultSide _)) (.refl s)

theorem State.becomeStale_sameFaultSide (s : State) : SameFaultSide s s.becomeStale :=
  .ite ((s.timeDo_sameFaultSide _).trans (State.timeNotice_sameFaultSide _)) (.refl s)

theorem State.beaconDue_sameFaultSide (s : State) : SameFaultSide s s.beaconDue := by
  unfold State.beaconDue
  refine .ite (SameFaultSide.trans (.ite ?_ (.refl s)) (State.timeDo_sameFaultSide _ _)) (.refl s)
  exact SameFaultSide.foldl (fun t p => t.request_sameFaultSide p _ _ _) _ _

/-! ### Route engine (chapter 1) -/

theorem State.routeDo_sameFaultSide (s : State) (f : RouteEngine → RouteEngine) :
    SameFaultSide s (s.routeDo f) := (s.routeDo_changes f).sameFaultSide

theorem State.requestTriggered_sameFaultSide (s : State) (p : Port) :
    SameFaultSide s (s.requestTriggered p) :=
  (s.requestToken_sameFaultSide p _).trans (State.routeDo_sameFaultSide _ _)

theorem State.markBecameSet_sameFaultSide (s : State) (p : Port) :
    SameFaultSide s (s.markBecameSet p) := by
  unfold State.markBecameSet
  refine .ite (.refl s) ?_
  split
  · exact s.requestTriggered_sameFaultSide p
  · refine .ite ?_ (s.requestTriggered_sameFaultSide p)
    split
    · exact .refl s
    · exact s.routeDo_sameFaultSide _

theorem State.storeEntry_sameFaultSide (s : State) (before after : RouteEntry) :
    SameFaultSide s (s.storeEntry before after) :=
  .ite ((s.routeDo_sameFaultSide _).trans
    (SameFaultSide.foldl (fun t p => t.markBecameSet_sameFaultSide p) _ _))
    (s.routeDo_sameFaultSide _)

theorem State.reevaluate_sameFaultSide (s : State) (dest : Nat) :
    SameFaultSide s (s.reevaluate dest) := by
  unfold State.reevaluate
  split
  · exact .refl s
  · exact (s.countHoldDown_changes _ _).sameFaultSide.trans (State.storeEntry_sameFaultSide _ _ _)

theorem State.routeNotices_sameFaultSide (s : State) (before : List RouteEntry)
    (removed : List Nat) : SameFaultSide s (s.routeNotices before removed) := by
  have told (os : List Occurrence) : SameFaultSide s (s.musterReview.cascades os) :=
    s.musterReview_sameFaultSide.trans (State.cascades_sameFaultSide _ _)
  unfold State.routeNotices
  refine .ite (.ite (.refl s) (told _)) ?_
  exact SameFaultSide.trans (.ite (.refl s) (told _)) (State.pageNotice_sameFaultSide _ _)

theorem State.reevaluateAllEvent_sameFaultSide (s : State) :
    SameFaultSide s s.reevaluateAllEvent :=
  (SameFaultSide.foldl (fun t d => t.reevaluate_sameFaultSide d) _ _).trans
    (State.routeNotices_sameFaultSide _ _ _)

theorem State.routeEntersListening_sameFaultSide (s : State) :
    SameFaultSide s s.routeEntersListening :=
  (s.routeDo_sameFaultSide _).trans (State.reevaluateAllEvent_sameFaultSide _)

theorem State.createEntry_sameFaultSide (s : State) (slots : List Nat) (a : AdvertEntry)
    (kind : DestKind) : SameFaultSide s (s.createEntry slots a kind) :=
  (s.routeDo_sameFaultSide _).trans (State.reevaluate_sameFaultSide _ _)

theorem AdvertWork.create_sameFaultSide (w : AdvertWork) (slots : List Nat) (a : AdvertEntry)
    (kind : DestKind) : SameFaultSide w.state (w.create slots a kind).state := by
  unfold AdvertWork.create
  split
  · exact w.state.createEntry_sameFaultSide _ _ _
  · split
    · dsimp only
      exact w.state.routeDo_sameFaultSide _
    · exact (w.state.routeDo_sameFaultSide _).trans (State.createEntry_sameFaultSide _ _ _ _)

theorem State.refreshEntry_sameFaultSide (s : State) (slots : List Nat) (a : AdvertEntry)
    (e : RouteEntry) : SameFaultSide s (s.refreshEntry slots a e) :=
  (s.routeDo_sameFaultSide _).trans (State.reevaluate_sameFaultSide _ _)

theorem AdvertWork.take_sameFaultSide (slots : List Nat) (w : AdvertWork) (a : AdvertEntry) :
    SameFaultSide w.state (w.take slots a).state := by
  unfold AdvertWork.take
  split
  · dsimp only
    exact w.state.routeDo_sameFaultSide _
  · split
    · exact w.state.refreshEntry_sameFaultSide _ _ _
    · split
      · exact .refl _
      · split
        · exact w.create_sameFaultSide _ _ _
        · exact .refl _

theorem AdvertWork.takeAll_sameFaultSide (slots : List Nat) (entries : List AdvertEntry)
    (w : AdvertWork) :
    SameFaultSide w.state (entries.foldl (AdvertWork.take slots) w).state := by
  induction entries generalizing w with
  | nil => exact .refl _
  | cons a as ih => exact (w.take_sameFaultSide slots a).trans (ih _)

theorem State.takeAdvert_sameFaultSide (s : State) (p : Port) (sender : Nat)
    (entries : List AdvertEntry) : SameFaultSide s (s.takeAdvert p sender entries) := by
  unfold State.takeAdvert
  split
  · split
    · exact s.routeDo_sameFaultSide _
    · exact (AdvertWork.takeAll_sameFaultSide _ entries ⟨s, []⟩).trans
        (State.routeNotices_sameFaultSide _ _ _)
  · exact .refl s

theorem State.expireCell_sameFaultSide (s : State) (dest slot : Nat) :
    SameFaultSide s (s.expireCell dest slot) := by
  unfold State.expireCell
  split
  · exact .refl s
  · split
    · exact .refl s
    · exact .ite (((s.routeDo_sameFaultSide _).trans (State.reevaluate_sameFaultSide _ _)).trans
        (State.routeNotices_sameFaultSide _ _ _)) (.refl s)

theorem State.endHoldDown_sameFaultSide (s : State) (dest : Nat) :
    SameFaultSide s (s.endHoldDown dest) := by
  unfold State.endHoldDown
  split
  · exact .refl s
  · split
    · exact .refl s
    · exact .ite ((s.storeEntry_sameFaultSide _ _).trans (State.routeNotices_sameFaultSide _ _ _))
        (.refl s)

theorem State.flushEntry_sameFaultSide (s : State) (dest : Nat) :
    SameFaultSide s (s.flushEntry dest) := by
  unfold State.flushEntry
  split
  · exact .refl s
  · exact .ite ((s.routeDo_sameFaultSide _).trans (State.routeNotices_sameFaultSide _ _ _)) (.refl s)

theorem State.periodicFull_sameFaultSide (s : State) : SameFaultSide s s.periodicFull :=
  .ite ((SameFaultSide.foldl (fun t p => t.requestToken_sameFaultSide p _) _ s).trans
    (State.routeDo_sameFaultSide _ _)) (.refl s)

theorem State.gapEnds_sameFaultSide (s : State) (p : Port) : SameFaultSide s (s.gapEnds p) :=
  .ite (.ite ((s.routeDo_sameFaultSide _).trans (State.requestTriggered_sameFaultSide _ _))
    (s.routeDo_sameFaultSide _)) (.refl s)

/-! ### Cabin unit (chapter 5) -/

theorem State.cabinDo_sameFaultSide (s : State) (f : CabinUnit → CabinUnit) :
    SameFaultSide s (s.cabinDo f) := (s.cabinDo_changes f).sameFaultSide

theorem State.queueService_sameFaultSide (s : State) : SameFaultSide s s.queueService :=
  s.requestOwn_sameFaultSide _ _ _ _

theorem State.queueSweep_sameFaultSide (s : State) : SameFaultSide s s.queueSweep :=
  s.requestOwn_sameFaultSide _ _ _ _

theorem State.serviceChange_sameFaultSide (s : State) (service : ServiceState) (request : Nat) :
    SameFaultSide s (s.serviceChange service request) :=
  ((s.cabinDo_sameFaultSide _).trans (State.queueService_sameFaultSide _)).trans
    (State.pageNotice_sameFaultSide _ _)

theorem State.serviceButton_sameFaultSide (s : State) (b : ServiceButton) :
    SameFaultSide s (s.serviceButton b) :=
  .ite (s.cabinDo_sameFaultSide _) (s.serviceChange_sameFaultSide _ _)

theorem State.serviceDone_sameFaultSide (s : State) (d : Nat) : SameFaultSide s (s.serviceDone d) :=
  .ite (s.serviceChange_sameFaultSide _ _) (s.cabinDo_sameFaultSide _)

theorem State.sweepChange_sameFaultSide (s : State) (sweep : SweepState) :
    SameFaultSide s (s.sweepChange sweep) :=
  ((s.cabinDo_sameFaultSide _).trans (State.queueSweep_sameFaultSide _)).trans
    (State.pageNotice_sameFaultSide _ _)

theorem State.sweepEdge_sameFaultSide (s : State) (x : SweepEdge) :
    SameFaultSide s (s.sweepEdge x) := by
  unfold State.sweepEdge
  split
  · exact s.sweepChange_sameFaultSide _
  · exact .refl s

theorem State.takeTally_sameFaultSide (s : State) (before after : List TallyEntry) :
    SameFaultSide s (s.takeTally before after) :=
  .ite (s.cabinDo_sameFaultSide _)
    ((s.cabinDo_sameFaultSide _).trans (State.pageNotice_sameFaultSide _ _))

theorem State.tallyAll_sameFaultSide (s : State) (sweep : SweepState) :
    SameFaultSide s (s.tallyAll sweep) := by
  unfold State.tallyAll
  split
  · exact .refl s
  · exact s.takeTally_sameFaultSide _ _

theorem State.takeSweep_sameFaultSide (s : State) (p : SweepPayload) :
    SameFaultSide s (s.takeSweep p) := by
  unfold State.takeSweep
  refine .ite ?_ (.refl s)
  split
  · exact .refl s
  · exact .ite (s.takeTally_sameFaultSide _ _) (.refl s)

theorem State.cabinTakesAlarm_sameFaultSide (s : State) (event : SweepEvent) :
    SameFaultSide s (s.cabinTakesAlarm event) := by
  unfold State.cabinTakesAlarm
  split
  · exact .refl s
  · exact .ite (SameFaultSide.trans (.ite (.refl s) (s.serviceChange_sameFaultSide _ _))
      (State.sweepChange_sameFaultSide _ _)) (s.tallyAll_sameFaultSide _)
  · exact .ite (.ite (.refl s) (s.sweepChange_sameFaultSide _)) (s.tallyAll_sameFaultSide _)

theorem State.countedEdge_sameFaultSide (s : State) (n : Nat) (f : LineFunction) :
    SameFaultSide s (s.countedEdge n f) := by
  unfold State.countedEdge
  split
  · exact .refl s
  · exact .ite (s.sweepEdge_sameFaultSide _) (.refl s)
  · exact .ite (s.serviceButton_sameFaultSide _) (.refl s)
  · exact .ite (s.serviceButton_sameFaultSide _) (.refl s)
  · exact .ite (s.sweepEdge_sameFaultSide _) (.refl s)
  · exact .ite (s.sweepEdge_sameFaultSide _) (.refl s)
  · exact (s.cascade_sameFaultSide _).trans (State.changeQuiet_sameFaultSide _ _)
  · exact s.cascade_sameFaultSide _

theorem State.debounceEnds_sameFaultSide (s : State) (n : Nat) :
    SameFaultSide s (s.debounceEnds n) := by
  unfold State.debounceEnds
  exact .ite (.ite (s.cabinDo_sameFaultSide _)
    (.ite ((s.cabinDo_sameFaultSide _).trans (State.countedEdge_sameFaultSide _ _ _))
      (s.cabinDo_sameFaultSide _))) (.refl s)

theorem State.takeCabinInfo_sameFaultSide (s : State) (p : CabinPayload) :
    SameFaultSide s (s.takeCabinInfo p) :=
  .ite ((s.cabinDo_sameFaultSide _).trans (State.pageNotice_sameFaultSide _ _)) (.refl s)

theorem State.takeCabin_sameFaultSide (s : State) (p : CabinPayload) :
    SameFaultSide s (s.takeCabin p) := by
  unfold State.takeCabin
  refine .ite ?_ (.refl s)
  split
  · exact (s.takeCabinInfo_sameFaultSide p).trans (State.serviceDone_sameFaultSide _ _)
  · exact s.takeCabinInfo_sameFaultSide p

theorem State.cabinReport_sameFaultSide (s : State) : SameFaultSide s s.cabinReport :=
  .ite (SameFaultSide.ite (c := s.queueService.cabin.sweep = .idle) s.queueService_sameFaultSide
    (s.queueService_sameFaultSide.trans (State.queueSweep_sameFaultSide _))) (.refl s)

/-! ### Alarm state unit (chapter 2) -/

theorem State.alarmDo_sameFaultSide (s : State) (f : AlarmUnit → AlarmUnit) :
    SameFaultSide s (s.alarmDo f) := (s.alarmDo_changes f).sameFaultSide

theorem State.alarmNotice_sameFaultSide (s : State) (before after : Level) (event : SweepEvent) :
    SameFaultSide s (s.alarmNotice before after event) := by
  have last (t : State) : SameFaultSide t ((t.indicatorTakes after).pageTakesAlarm after) :=
    (t.indicatorTakes_sameFaultSide _).trans (State.pageDo_finishPage_sameFaultSide _ _ _ _)
  have whole : SameFaultSide s
      (let t := if before.emergency = after.emergency then s else s.reevaluateAllEvent
       let t := t.cabinTakesAlarm event
       let t := t.musterTakesAlarm after
       let t := t.triggerTakesAlarm before after
       let t := t.panelDo (fun e p => p.takeAlarm e before after)
       (t.indicatorTakes after).pageTakesAlarm after) := by
    refine SameFaultSide.trans ?_ (last _)
    refine SameFaultSide.trans ?_
      (State.panelDo_sameFaultSide _ _ (PanelCtl.takeAlarm_sameFailure _ _ _ _))
    refine SameFaultSide.trans ?_ (State.triggerTakesAlarm_sameFaultSide _ _ _)
    refine SameFaultSide.trans ?_ (State.takeMuster_sameFaultSide _ _)
    refine SameFaultSide.trans ?_ (State.cabinTakesAlarm_sameFaultSide _ _)
    exact .ite (.refl s) s.reevaluateAllEvent_sameFaultSide
  unfold State.alarmNotice
  split
  · exact .refl s
  · exact last s
  · exact whole
  · exact whole

theorem State.acceptAlarm_sameFaultSide (s : State) (origin : Nat) (p : AlarmPayload)
    (newEpoch : Bool) : SameFaultSide s (s.acceptAlarm origin p newEpoch) :=
  ((s.alarmDo_sameFaultSide _).trans (State.mapSchedules_sameFaultSide _ _)).trans
    (State.alarmNotice_sameFaultSide _ _ _ _)

theorem State.takeAlarmFrame_sameFaultSide (s : State) (origin : Nat) (p : AlarmPayload) :
    SameFaultSide s (s.takeAlarmFrame origin p).1 := by
  unfold State.takeAlarmFrame
  split
  · exact .refl s
  · split
    · exact s.acceptAlarm_sameFaultSide _ _ _
    · exact s.acceptAlarm_sameFaultSide _ _ _
    · exact .refl s
    · dsimp only
      exact s.alarmDo_sameFaultSide _

theorem State.hearAlarm_sameFaultSide (s : State) (p : Port) (a : AlarmPayload) :
    SameFaultSide s (s.hearAlarm p a) := .ite (s.heardOn_sameFaultSide _ _) (.refl s)

theorem State.zoneChanged_sameFaultSide (s : State) : SameFaultSide s s.zoneChanged :=
  s.reevaluateAllEvent_sameFaultSide.trans (State.musterReview_sameFaultSide _)

theorem State.putReports_sameFaultSide (s : State) (key : Nat × Nat) (t : List ZoneReport) :
    SameFaultSide s (s.putReports key t) :=
  (s.alarmDo_sameFaultSide _).trans (State.mapSchedules_sameFaultSide _ _)

theorem State.storeOverFull_sameFaultSide (s : State) (r : ZoneReport) :
    SameFaultSide s (s.storeOverFull r).1 := by
  unfold State.storeOverFull
  split
  · dsimp only
    exact s.alarmDo_sameFaultSide _
  · exact ((s.putReports_sameFaultSide _ _).trans (State.alarmDo_sameFaultSide _ _)).trans
      (State.zoneChanged_sameFaultSide _)

theorem State.takeZoneFrame_sameFaultSide (s : State) (origin : Nat) (p : ZonePayload) :
    SameFaultSide s (s.takeZoneFrame origin p).1 := by
  unfold State.takeZoneFrame
  split
  · dsimp only
    split
    · split
      · exact (s.putReports_sameFaultSide _ _).trans (State.zoneChanged_sameFaultSide _)
      · exact .refl s
    · split
      · exact (s.alarmDo_sameFaultSide _).trans (State.zoneChanged_sameFaultSide _)
      · exact s.storeOverFull_sameFaultSide _
  · exact .refl s

theorem State.hearZone_sameFaultSide (s : State) (p : Port) (origin : Nat) (z : ZonePayload) :
    SameFaultSide s (s.hearZone p origin z) := by
  unfold State.hearZone
  split
  · exact .ite (s.heardOn_sameFaultSide _ _) (.refl s)
  · exact .refl s

theorem State.acceptReassign_sameFaultSide (s : State) (origin : Nat) (p : ReassignPayload) :
    SameFaultSide s (s.acceptReassign origin p) :=
  ((s.alarmDo_sameFaultSide _).trans (State.mapSchedules_sameFaultSide _ _)).trans
    (.ite (State.musterReview_sameFaultSide _) (.refl _))

theorem State.takeReassignFrame_sameFaultSide (s : State) (origin : Nat) (p : ReassignPayload) :
    SameFaultSide s (s.takeReassignFrame origin p).1 := by
  unfold State.takeReassignFrame
  split
  · split
    · split
      · exact s.acceptReassign_sameFaultSide _ _
      · split
        · exact s.acceptReassign_sameFaultSide _ _
        · exact .refl s
    · dsimp only
      exact s.alarmDo_sameFaultSide _
  · exact .refl s

theorem State.hearReassign_sameFaultSide (s : State) (p : Port) (r : ReassignPayload) :
    SameFaultSide s (s.hearReassign p r) := by
  unfold State.hearReassign
  split
  · exact .ite (s.heardOn_sameFaultSide _ _) (.refl s)
  · exact .refl s

/-! ### Solicits, indicator edges and the status responder (chapters 11 and 12) -/

theorem State.takeSolicit_sameFaultSide (s : State) (p : Port) : SameFaultSide s (s.takeSolicit p) := by
  unfold State.takeSolicit
  refine .ite ?_ (.refl s)
  split
  · exact .refl s
  · exact s.startDo_sameFaultSide _ rfl

theorem State.respond_sameFaultSide (s : State) (p : Port) (marked : Bool) (cls : FrameClass)
    (key : QueueKey) (origin : Nat) (payload : List Byte) :
    SameFaultSide s (s.respond p marked cls key origin payload) :=
  .ite (s.startDo_sameFaultSide _ rfl) (s.request_sameFaultSide _ _ _ _)

theorem State.respondAlarm_sameFaultSide (s : State) (p : Port) (c : Schedule) :
    SameFaultSide s (s.respondAlarm p c) := by
  unfold State.respondAlarm
  split
  · exact s.respond_sameFaultSide _ _ _ _ _ _
  · exact .refl s

theorem State.responseEnds_sameFaultSide (s : State) (p : Port) :
    SameFaultSide s (s.responseEnds p) := by
  unfold State.responseEnds
  split
  · exact .refl s
  · refine .ite ?_ (.refl s)
    refine SameFaultSide.trans ?_ (State.requestToken_sameFaultSide _ _ _)
    refine SameFaultSide.trans ?_
      (SameFaultSide.foldl (fun t r => t.respond_sameFaultSide _ _ _ _ _ _) _ _)
    refine SameFaultSide.trans ?_
      (SameFaultSide.foldl (fun t r => t.respond_sameFaultSide _ _ _ _ _ _) _ _)
    exact (s.startDo_sameFaultSide _ rfl).trans (State.respondAlarm_sameFaultSide _ _ _)

theorem State.blinkEdges_sameFaultSide (s : State) : SameFaultSide s s.blinkEdges := by
  have lamp : SameFaultSide s
      { s with ind := { s.ind with phaseOn := s.blinkOn, lamp := s.lampFor s.ind.level } } :=
    ⟨rfl, rfl, .refl _, fun _ => .refl _⟩
  exact .ite (.refl s)
    (lamp.trans (State.panelDo_sameFaultSide _ _ (PanelCtl.blinkPhase_sameFailure _ _)))

theorem State.abandonEdges_sameFaultSide (s : State) : SameFaultSide s s.abandonEdges :=
  .ite ⟨rfl, rfl, .refl _, fun _ => .refl _⟩ (.refl s)

theorem State.takeQuery_sameFaultSide (s : State) (p : Port) (q : QueryPayload) :
    SameFaultSide s (s.takeQuery p q) := by
  have counted (t : State) : SameFaultSide t
      { t with status := { t.status with queriesAnswered := bump t.status.queriesAnswered } } :=
    ⟨rfl, rfl, .refl _, fun _ => .refl _⟩
  unfold State.takeQuery
  refine .ite ?_ (.refl s)
  refine SameFaultSide.trans ?_ (counted _)
  refine SameFaultSide.trans ?_ (State.requestOwn_sameFaultSide _ _ _ _ _)
  exact .ite (s.panelDo_sameFaultSide _ (.refl _)) (.refl s)

/-! ### Received frames (R155, R156) -/

theorem State.countReceived_sameFaultSide (s : State) (p : Port) :
    SameFaultSide s (s.countReceived p) := s.putPort_sameFaultSide p ⟨rfl, rfl, rfl⟩

/-- What the owning block makes of a frame leaves the fault side alone. -/
theorem classHandler_sameFaultSide {p : Port} {cls : FrameClass} {f : RxFrame} {h : State → State}
    (hh : classHandler p cls f = some h) (s : State) : SameFaultSide s (h s) := by
  cases cls <;> simp only [classHandler, Option.map_eq_some_iff] at hh
  case alarm =>
    obtain ⟨a, -, rfl⟩ := hh
    exact ((s.takeAlarmFrame_sameFaultSide _ _).trans (State.hearAlarm_sameFaultSide _ _ _)).trans
      (State.relay_sameFaultSide _ _ _ _ _)
  case zone =>
    obtain ⟨z, -, rfl⟩ := hh
    exact ((s.takeZoneFrame_sameFaultSide _ _).trans (State.hearZone_sameFaultSide _ _ _ _)).trans
      (State.relay_sameFaultSide _ _ _ _ _)
  case reassign =>
    obtain ⟨r, -, rfl⟩ := hh
    exact ((s.takeReassignFrame_sameFaultSide _ _).trans
      (State.hearReassign_sameFaultSide _ _ _)).trans (State.relay_sameFaultSide _ _ _ _ _)
  case sweep =>
    obtain ⟨w, -, rfl⟩ := hh
    exact s.takeSweep_sameFaultSide _
  case advert =>
    obtain ⟨entries, -, rfl⟩ := hh
    exact s.takeAdvert_sameFaultSide _ _ _
  case beacon =>
    obtain ⟨b, -, rfl⟩ := hh
    exact s.takeBeacon_sameFaultSide _ _
  case solicit =>
    split at hh
    · cases hh
      exact s.takeSolicit_sameFaultSide _
    · cases hh
  case service =>
    split at hh
    · cases hh
      exact .refl s
    · cases hh
  case cabin =>
    obtain ⟨c, -, rfl⟩ := hh
    exact s.takeCabin_sameFaultSide _
  case status =>
    split at hh
    · cases hh
      exact .refl s
    · cases hh
  case query =>
    obtain ⟨q, -, rfl⟩ := hh
    exact s.takeQuery_sameFaultSide _ _
  case item =>
    obtain ⟨i, -, rfl⟩ := hh
    exact (s.takeItemFrame_sameFaultSide _).trans (State.relay_sameFaultSide _ _ _ _ _)
  case withdraw =>
    obtain ⟨w, -, rfl⟩ := hh
    exact (s.takeWithdrawFrame_sameFaultSide _).trans (State.relay_sameFaultSide _ _ _ _ _)

theorem State.takeFrame_sameFaultSide (s : State) (p : Port) (cls : FrameClass) (f : RxFrame) :
    SameFaultSide s (s.takeFrame p cls f) := by
  unfold State.takeFrame
  refine .ite (.refl s) (.ite ?_ s.malformed_changes.sameFaultSide)
  split
  · rename_i handled
    exact (s.countReceived_sameFaultSide p).trans (classHandler_sameFaultSide handled _)
  · exact s.malformed_changes.sameFaultSide

end Sys2Proof.Machine

/-! ### The fault line law along a step (R152, R153, R154, R171, R173, R181) -/

namespace Sys2Proof.Machine

/-! ### The law across a port's own change and a fresh fault line -/

theorem State.faultLaw_get {s : State} (law : s.faultLaw) (p : Port) : (s.ports.get p).idleLaw := by
  obtain ⟨-, idleA, idleB⟩ := law
  cases p
  · exact idleA
  · exact idleB

/-- A port that is DOWN or has a frame in flight is in use. -/
theorem PortCtl.idleLaw.inUse {c : PortCtl} (law : c.idleLaw)
    (busy : c.state = .down ∨ c.inFlight ≠ none) : c.inUse = true := by
  rcases law with used | ⟨up, quiet⟩
  · exact used
  · rcases busy with down | flight
    · cases up.symm.trans down
    · exact absurd quiet flight

/-- A fault line worked out afresh stands as its condition says, whatever it showed before. -/
theorem State.updateFault_faultLaw {s : State} (idle : ∀ p, (s.ports.get p).idleLaw) :
    s.updateFault.faultLaw := ⟨rfl, idle .a, idle .b⟩

theorem State.putPort_idleLaw {s : State} (law : s.faultLaw) (p : Port) {c : PortCtl}
    (idle : c.idleLaw) (q : Port) : ((s.putPort p c).ports.get q).idleLaw := by
  by_cases same : q = p
  · rw [same, State.putPort_ports, PerPort.get_put_same]
    exact idle
  · rw [State.putPort_ports, PerPort.get_put_other _ _ _ _ same]
    exact State.faultLaw_get law q

/-- Where a port is DOWN and in use as before, the fault line needs no fresh working. -/
theorem State.putPort_faultLaw {s : State} (law : s.faultLaw) (p : Port) {c : PortCtl}
    (down : (c.inUse && decide (c.state = .down)) =
      ((s.ports.get p).inUse && decide ((s.ports.get p).state = .down)))
    (idle : c.idleLaw) : (s.putPort p c).faultLaw := by
  have idles := State.putPort_idleLaw law p idle
  refine ⟨?_, idles .a, idles .b⟩
  have stands : s.ind.fault = s.faultCondition := law.1
  rw [State.putPort_ind, stands, State.faultCondition_eq, State.faultCondition_eq]
  cases p
  · exact congrArg (fun d => _ || d || _) down.symm
  · exact congrArg (fun d => _ || d) down.symm

/-! ### Line commands (R153, R154) -/

theorem State.launch_faultLaw {s : State} (law : s.faultLaw) {p : Port}
    (used : (s.ports.get p).inUse = true) (rest : List QueueEntry) (f : InFlight) :
    (s.launch p rest f).faultLaw := State.putPort_faultLaw law p rfl (.inl used)

theorem State.startHead_faultLaw {s : State} (law : s.faultLaw) {p : Port}
    (used : (s.ports.get p).inUse = true) (q : List QueueEntry) : (s.startHead p q).faultLaw := by
  induction q with
  | nil => exact State.putPort_faultLaw law p rfl (.inl used)
  | cons e rest ih =>
    unfold State.startHead
    split
    · exact State.launch_faultLaw law used _ _
    · exact State.launch_faultLaw law used _ _
    · split
      · exact ih
      · exact State.launch_faultLaw ((s.routeDo_sameFaultSide _).faultLaw law) used _ _

theorem State.startTransmission_faultLaw {s : State} (law : s.faultLaw) (p : Port) :
    (s.startTransmission p).faultLaw := by
  unfold State.startTransmission
  split
  · rename_i free
    simp only [State.canTransmit, Bool.and_eq_true] at free
    obtain ⟨⟨⟨-, used⟩, -⟩, -⟩ := free
    exact State.startHead_faultLaw law used _
  · exact law

theorem State.tellUnsent_sameFaultSide (s : State) (p : Port) (f : InFlight) :
    SameFaultSide s (s.tellUnsent p f) := (s.tellUnsent_changes p f).sameFaultSide

theorem State.frameSent_faultLaw {s : State} (law : s.faultLaw) (p : Port) :
    (s.frameSent p).faultLaw := by
  unfold State.frameSent
  split
  · exact law
  · rename_i f flight
    have used := (State.faultLaw_get law p).inUse (.inr (by simp [flight]))
    exact (State.tellSent_changes _ p f).sameFaultSide.faultLaw
      (State.putPort_faultLaw law p rfl (.inl used))

theorem PortCtl.putBack_sameLine (c : PortCtl) (e : QueueEntry) (met : QueueEntry → QueueEntry) :
    c.sameLine (c.putBack e met) := by
  rcases c.putBack_cases e met with ⟨x, -, -, eq⟩ | ⟨-, -, eq⟩ | ⟨-, -, eq⟩ <;>
    exact eq ▸ ⟨rfl, rfl, rfl⟩

/-- A frame taken back leaves the port as it is used and its bus state. -/
theorem PortCtl.takeBack_line (c : PortCtl) (f : InFlight) :
    (c.takeBack f).inUse = c.inUse ∧ (c.takeBack f).state = c.state := by
  have back : ({ c with inFlight := none } : PortCtl).sameLine (c.takeBack f) := by
    unfold PortCtl.takeBack PortCtl.returnFlight
    split <;> exact PortCtl.putBack_sameLine _ _ _
  obtain ⟨use, state, -⟩ := back
  exact ⟨use, state⟩

theorem State.arbitrationWasLost_faultLaw {s : State} (law : s.faultLaw) (p : Port) :
    (s.arbitrationWasLost p).faultLaw := by
  unfold State.arbitrationWasLost
  split
  · exact law
  · rename_i f flight
    have used := (State.faultLaw_get law p).inUse (.inr (by simp [flight]))
    obtain ⟨use, state⟩ := PortCtl.takeBack_line
      { s.ports.get p with arbitrationLosses := bump (s.ports.get p).arbitrationLosses } f
    exact (State.tellUnsent_sameFaultSide _ p f).faultLaw
      (State.putPort_faultLaw law p (by rw [use, state]) (.inl (use.trans used)))

theorem PortCtl.raiseFaultRun_inUse (c : PortCtl) : c.raiseFaultRun.inUse = c.inUse := by
  unfold PortCtl.raiseFaultRun
  split <;> rfl

/-- A faulted frame may take the port DOWN; the fault line is worked out afresh (R154, R181). -/
theorem State.transmitFaulted_faultLaw {s : State} (law : s.faultLaw) (p : Port) :
    (s.transmitFaulted p).faultLaw := by
  unfold State.transmitFaulted
  split
  · exact law
  · rename_i f flight
    have used := (State.faultLaw_get law p).inUse (.inr (by simp [flight]))
    obtain ⟨use, -⟩ := PortCtl.takeBack_line
      { s.ports.get p with transmitFaults := bump (s.ports.get p).transmitFaults } f
    have idle := State.putPort_idleLaw law p
      (.inl ((PortCtl.raiseFaultRun_inUse _).trans (use.trans used)))
    exact State.updateFault_faultLaw fun q =>
      ((State.tellUnsent_sameFaultSide _ p f).ports q).idleLaw (idle q)

/-! ### Receiving (R154, R155) -/

/-- The fourth good frame in a row brings a DOWN port UP, and the fault line is worked out afresh; before it the
port stays as it is (R154, R181). -/
theorem State.noteGood_faultLaw {s : State} (law : s.faultLaw) (p : Port) :
    (s.noteGood p).faultLaw := by
  have counted {c : PortCtl} (same : (s.ports.get p).sameLine c) : (s.putPort p c).faultLaw :=
    (s.putPort_sameFaultSide p same).faultLaw law
  unfold State.noteGood
  dsimp only
  split
  · exact counted ⟨rfl, rfl, rfl⟩
  · rename_i down
    split
    · have used := (State.faultLaw_get law p).inUse (.inl down)
      exact State.updateFault_faultLaw (State.putPort_idleLaw law p (.inl used))
    · exact counted ⟨rfl, rfl, rfl⟩

theorem State.noteBad_sameFaultSide (s : State) (p : Port) : SameFaultSide s (s.noteBad p) := by
  unfold State.noteBad
  dsimp only
  split
  · exact .refl s
  · exact s.putPort_sameFaultSide p ⟨rfl, rfl, rfl⟩

theorem State.busDo_sameFaultSide (s : State) (f : BusCounters → BusCounters) :
    SameFaultSide s (s.busDo f) := (s.busDo_changes f).sameFaultSide

theorem State.lengthError_sameFaultSide (s : State) (p : Port) : SameFaultSide s (s.lengthError p) :=
  (s.busDo_sameFaultSide _).trans (State.noteBad_sameFaultSide _ p)

theorem State.checkError_sameFaultSide (s : State) (p : Port) : SameFaultSide s (s.checkError p) :=
  (s.busDo_sameFaultSide _).trans (State.noteBad_sameFaultSide _ p)

theorem State.receiveFrame_faultLaw {s : State} (law : s.faultLaw) (p : Port) (cls : FrameClass)
    (f : RxFrame) : (s.receiveFrame p cls f).faultLaw := by
  unfold State.receiveFrame
  split
  · exact law
  · split
    · exact (s.lengthError_sameFaultSide p).faultLaw law
    · exact (State.takeFrame_sameFaultSide _ p cls f).faultLaw (State.noteGood_faultLaw law p)

theorem State.receiveOctets_faultLaw {s : State} (law : s.faultLaw) (p : Port)
    (octets : List Byte) : (s.receiveOctets p octets).faultLaw := by
  unfold State.receiveOctets
  split
  · exact law
  · split
    · exact (s.lengthError_sameFaultSide p).faultLaw law
    · exact (s.checkError_sameFaultSide p).faultLaw law
    · exact State.noteGood_faultLaw ((s.busDo_sameFaultSide _).faultLaw law) p
    · exact State.receiveFrame_faultLaw law p _ _

/-! ### Resets and the lifecycle (R169, R171, R173) -/

/-- A reset releases the fault line: nothing is in use and nothing has failed. -/
theorem State.afterReset_faultLaw (cause : ResetCause) (count : Nat) (strap : PanelKind) (pins : Pins)
    (waiting : List Instr) : (State.afterReset cause count strap pins waiting).faultLaw := by
  refine ⟨?_, .inr ⟨rfl, rfl⟩, .inr ⟨rfl, rfl⟩⟩
  cases strap <;> rfl

theorem State.lineResets_faultLaw {s : State} (law : s.faultLaw) (strap : PanelKind)
    (pulseMicros : Nat) : (s.lineResets strap pulseMicros).faultLaw := by
  unfold State.lineResets
  split
  · exact State.afterReset_faultLaw _ _ _ _ _
  · exact law

/-- A lifecycle move that neither leaves nor enters CONFIG_FAULT keeps the law. -/
theorem State.startDo_faultLaw {s : State} (law : s.faultLaw) (f : StartBlock → StartBlock)
    (before : s.start.lifecycle ≠ .configFault) (after : (f s.start).lifecycle ≠ .configFault) :
    (s.startDo f).faultLaw := by
  obtain ⟨stands, idle⟩ := law
  refine ⟨?_, idle⟩
  change s.ind.fault = _
  rw [stands, State.faultCondition_eq, State.faultCondition_eq, decide_eq_false before]
  exact congrArg (fun d => d || _ || _ || _) (decide_eq_false after).symm

/-- A port comes into use UP, or was in use already. -/
theorem State.usePort_faultLaw {s : State} (law : s.faultLaw) (p : Port) (rate : BitRate) :
    (s.usePort p rate).faultLaw := by
  refine State.putPort_faultLaw law p ?_ (.inl rfl)
  rcases State.faultLaw_get law p with used | ⟨up, -⟩
  · simp [used]
  · simp [up]

theorem State.portsEnterListening_faultLaw {s : State} (law : s.faultLaw) :
    s.portsEnterListening.faultLaw := by
  have first := State.usePort_faultLaw law .a s.cfg.bitRate
  unfold State.portsEnterListening
  dsimp only
  split
  · exact State.usePort_faultLaw first .b _
  · exact first

theorem PanelCtl.enterConfigFault_sameFailure (p : PanelCtl) : p.sameFailure p.enterConfigFault := by
  unfold PanelCtl.enterConfigFault
  split <;> exact .refl p

/-- Entry to CONFIG_FAULT ends with the fault line worked out afresh (R171, R181). -/
theorem State.entersConfigFault_faultLaw {s : State} (law : s.faultLaw) (image : List Byte)
    (good : Bool) : (s.entersConfigFault image good).faultLaw := by
  have idle := State.putPort_idleLaw law .a
    (c := { s.ports.get .a with inUse := true, bitRate := some (faultBitRate image) }) (.inl rfl)
  exact State.updateFault_faultLaw fun q =>
    (((State.panelDo_sameFaultSide _ _ (PanelCtl.enterConfigFault_sameFailure _)).trans
      (State.finishPage_sameFaultSide _ _ _)).ports q).idleLaw (idle q)

/-- What the blocks do at the entry to LISTENING, once the ports are in use (R173). -/
theorem State.blocksEnterListening_sameFaultSide (s : State) : SameFaultSide s
    (s.routeEntersListening.cabinEntersListening.triggerEntersListening.panelDo
      (fun e p => p.enterListening e)).pageEntersListening := by
  refine SameFaultSide.trans ?_ (State.pageDo_finishPage_sameFaultSide _ _ _ _)
  refine SameFaultSide.trans ?_
    (State.panelDo_sameFaultSide _ _ (PanelCtl.enterListening_sameFailure _ _))
  refine SameFaultSide.trans ?_ (State.trigDo_sameFaultSide _ _)
  refine SameFaultSide.trans ?_ (State.cabinDo_sameFaultSide _ _)
  exact s.routeEntersListening_sameFaultSide

theorem State.entersListening_faultLaw {s : State} (law : s.faultLaw)
    (loading : s.start.lifecycle = .loading) (config : ConfigCopy) (clamps : Nat) :
    (s.entersListening config clamps).faultLaw := by
  unfold State.entersListening
  dsimp only
  refine (State.blocksEnterListening_sameFaultSide _).faultLaw ?_
  refine State.portsEnterListening_faultLaw ?_
  exact State.startDo_faultLaw law _ (by simp [loading]) (by simp)

theorem State.imageReadEnds_faultLaw {s : State} (law : s.faultLaw) (image : List Byte) :
    (s.imageReadEnds image).faultLaw := by
  unfold State.imageReadEnds
  split
  · rename_i ends
    obtain ⟨loading, -⟩ := ends
    split
    · exact State.entersConfigFault_faultLaw law _ _
    · exact State.entersConfigFault_faultLaw law _ _
    · exact State.entersListening_faultLaw law loading _ _
  · exact law

/-- The first requests of every port on entry to OPERATING (R173). -/
theorem State.firstRequests_sameFaultSide (s : State) (ps qs : List Port) : SameFaultSide s
    (qs.foldl (fun t p => t.requestToken p (.full 1))
      (ps.foldl (fun t p => t.requestOwn p .solicit .whole []) s)) :=
  (SameFaultSide.foldl (fun t p => t.requestOwn_sameFaultSide p _ _ _) ps s).trans
    (SameFaultSide.foldl (fun t p => t.requestToken_sameFaultSide p _) qs _)

theorem State.listenEnds_faultLaw {s : State} (law : s.faultLaw) : s.listenEnds.faultLaw := by
  unfold State.listenEnds
  split
  · rename_i ends
    obtain ⟨listening, -⟩ := ends
    have operating := State.startDo_faultLaw law
      (fun b => { b with lifecycle := .operating, listenDeadline := none })
      (by simp [listening]) (by simp)
    refine SameFaultSide.faultLaw ?_ operating
    refine SameFaultSide.trans ?_ (State.timeDo_sameFaultSide _ _)
    refine SameFaultSide.trans ?_ (State.routeDo_sameFaultSide _ _)
    refine SameFaultSide.trans ?_ (State.cabinReport_sameFaultSide _)
    exact State.firstRequests_sameFaultSide _ _ _
  · exact law

/-! ### Panel commands (chapter 9) -/

/-- A work of the panel controller that fails no panel and mends none, done or left undone. -/
theorem State.panelDo_ite_faultLaw {s : State} (law : s.faultLaw) {c : Prop} [Decidable c]
    (f : PanelEnv → PanelCtl → PanelCtl) (h : c → s.panel.sameFailure (f s.panelEnv s.panel)) :
    (if c then s.panelDo f else s).faultLaw := by
  split
  · rename_i acts
    exact (s.panelDo_sameFaultSide f (h acts)).faultLaw law
  · exact law

/-- A work of the panel controller that the indicator unit is told of, done or left undone. -/
theorem State.panelDo_updateFault_ite_faultLaw {s : State} (law : s.faultLaw) {c : Prop}
    [Decidable c] (f : PanelEnv → PanelCtl → PanelCtl) :
    (if c then (s.panelDo f).updateFault else s).faultLaw := by
  split
  · exact State.updateFault_faultLaw fun p => State.faultLaw_get law p
  · exact law

theorem State.busyPin_sameFaultSide (s : State) (high : Bool) : SameFaultSide s (s.busyPin high) :=
  (s.busyPin_changes high).sameFaultSide

theorem PanelCtl.gapSame_sameFailure (e : PanelEnv) (g : Nat) (p : PanelCtl) :
    p.sameFailure (if p.gapSamePassed e g then p.tryChoice e else p) := by
  split
  · exact p.tryChoice_sameFailure e
  · exact .refl p

/-! ### One command, one step -/

/-- Every command answers, and keeps the fault line law. -/
theorem exec_faultLaw (i : Instr) {s : State} (law : s.faultLaw) :
    ∃ t, exec i s = .next t ∧ t.faultLaw := by
  cases i with
  | powerOn strap => exact ⟨_, rfl, State.afterReset_faultLaw _ _ _ _ _⟩
  | lineReset strap pulse => exact ⟨_, rfl, State.lineResets_faultLaw law strap pulse⟩
  | configReadEnd image => exact ⟨_, rfl, State.imageReadEnds_faultLaw law image⟩
  | listenPeriodEnd => exact ⟨_, rfl, State.listenEnds_faultLaw law⟩
  | alarmFrame p f => exact ⟨_, rfl, State.receiveFrame_faultLaw law p _ f⟩
  | zoneFrame p f => exact ⟨_, rfl, State.receiveFrame_faultLaw law p _ f⟩
  | reassignFrame p f => exact ⟨_, rfl, State.receiveFrame_faultLaw law p _ f⟩
  | sweepFrame p f => exact ⟨_, rfl, State.receiveFrame_faultLaw law p _ f⟩
  | advertFrame p f => exact ⟨_, rfl, State.receiveFrame_faultLaw law p _ f⟩
  | beaconFrame p f => exact ⟨_, rfl, State.receiveFrame_faultLaw law p _ f⟩
  | solicitFrame p f => exact ⟨_, rfl, State.receiveFrame_faultLaw law p _ f⟩
  | serviceFrame p f => exact ⟨_, rfl, State.receiveFrame_faultLaw law p _ f⟩
  | cabinFrame p f => exact ⟨_, rfl, State.receiveFrame_faultLaw law p _ f⟩
  | statusFrame p f => exact ⟨_, rfl, State.receiveFrame_faultLaw law p _ f⟩
  | queryFrame p f => exact ⟨_, rfl, State.receiveFrame_faultLaw law p _ f⟩
  | itemFrame p f => exact ⟨_, rfl, State.receiveFrame_faultLaw law p _ f⟩
  | withdrawFrame p f => exact ⟨_, rfl, State.receiveFrame_faultLaw law p _ f⟩
  | frameReceiveError p octets => exact ⟨_, rfl, State.receiveOctets_faultLaw law p octets⟩
  | transmissionStart p => exact ⟨_, rfl, State.startTransmission_faultLaw law p⟩
  | sent p => exact ⟨_, rfl, State.frameSent_faultLaw law p⟩
  | arbitrationLost p => exact ⟨_, rfl, State.arbitrationWasLost_faultLaw law p⟩
  | transmitFault p => exact ⟨_, rfl, State.transmitFaulted_faultLaw law p⟩
  | cellExpiry d slot => exact ⟨_, rfl, (s.expireCell_sameFaultSide d slot.val).faultLaw law⟩
  | holdDownDeadline d => exact ⟨_, rfl, (s.endHoldDown_sameFaultSide d).faultLaw law⟩
  | flush d => exact ⟨_, rfl, (s.flushEntry_sameFaultSide d).faultLaw law⟩
  | periodicFullRequest => exact ⟨_, rfl, s.periodicFull_sameFaultSide.faultLaw law⟩
  | gapExpiry p => exact ⟨_, rfl, (s.gapEnds_sameFaultSide p).faultLaw law⟩
  | returnDeadline =>
    exact ⟨_, rfl, (SameFaultSide.ite (s.takeMuster_sameFaultSide _) (.refl s)).faultLaw law⟩
  | inputLineTransition n high =>
    exact ⟨_, rfl, (s.lineMoves_changes n.val high).sameFaultSide.faultLaw law⟩
  | debounceDeadline n => exact ⟨_, rfl, (s.debounceEnds_sameFaultSide n.val).faultLaw law⟩
  | sourceExpiry sender => exact ⟨_, rfl, (s.expireSource_sameFaultSide sender).faultLaw law⟩
  | slewTick => exact ⟨_, rfl, s.slewTicks_sameFaultSide.faultLaw law⟩
  | staleDeadline => exact ⟨_, rfl, s.becomeStale_sameFaultSide.faultLaw law⟩
  | minuteNotice => exact ⟨_, rfl, s.reachMinute_sameFaultSide.faultLaw law⟩
  | beaconDeadline => exact ⟨_, rfl, s.beaconDue_sameFaultSide.faultLaw law⟩
  | intervalTimerTick n => exact ⟨_, rfl, (s.timerTicks_changes n.val).sameFaultSide.faultLaw law⟩
  | intervalTimerExpiry n => exact ⟨_, rfl, (s.timerExpires_sameFaultSide n.val).faultLaw law⟩
  | dwellDeadline =>
    exact ⟨_, rfl,
      (SameFaultSide.ite (s.pageDo_finishPage_sameFaultSide _ _ _) (.refl s)).faultLaw law⟩
  | spotlightDeadline =>
    exact ⟨_, rfl, (SameFaultSide.ite s.pageSpotlightEnds_sameFaultSide (.refl s)).faultLaw law⟩
  | presenceDeadline =>
    exact ⟨_, rfl, (SameFaultSide.ite (s.changeQuiet_sameFaultSide _) (.refl s)).faultLaw law⟩
  | loadEnd =>
    exact ⟨_, rfl, State.panelDo_ite_faultLaw law _
      fun ⟨_, sending⟩ => PanelCtl.endLoad_sameFailure _ sending⟩
  | panelBusyFall =>
    refine ⟨_, rfl, (SameFaultSide.ite (.ite ?_ (s.busyPin_sameFaultSide false)) (.refl s)).faultLaw law⟩
    exact (s.busyPin_sameFaultSide false).trans
      (State.panelDo_sameFaultSide _ _ (PanelCtl.busyFalls_sameFailure _ _))
  | panelBusyRise =>
    refine ⟨_, rfl, (SameFaultSide.ite (.refl s) (.ite ?_ (s.busyPin_sameFaultSide true))).faultLaw law⟩
    exact (s.busyPin_sameFaultSide true).trans
      (State.panelDo_sameFaultSide _ _ (PanelCtl.busyRises_sameFailure _ _))
  | gapAnyExpiry =>
    exact ⟨_, rfl, State.panelDo_ite_faultLaw law _ fun _ => PanelCtl.tryChoice_sameFailure _ _⟩
  | gapSameExpiry g =>
    exact ⟨_, rfl, State.panelDo_ite_faultLaw law _ fun _ => PanelCtl.gapSame_sameFailure _ _ _⟩
  | windowEntryExpiry =>
    exact ⟨_, rfl, State.panelDo_ite_faultLaw law _
      fun _ => .trans (.refl _) (PanelCtl.tryChoice_sameFailure _ _)⟩
  | refreshTimeout => exact ⟨_, rfl, State.panelDo_updateFault_ite_faultLaw law _⟩
  | busyWatchExpiry => exact ⟨_, rfl, State.panelDo_updateFault_ite_faultLaw law _⟩
  | retryDeadline => exact ⟨_, rfl, State.panelDo_updateFault_ite_faultLaw law _⟩
  | rampTick =>
    exact ⟨_, rfl, State.panelDo_ite_faultLaw law _ fun _ => PanelCtl.ramp_sameFailure _ _⟩
  | blinkEdge => exact ⟨_, rfl, s.blinkEdges_sameFaultSide.faultLaw law⟩
  | responseDeadline p => exact ⟨_, rfl, (s.responseEnds_sameFaultSide p).faultLaw law⟩
  | abandonLampEdge => exact ⟨_, rfl, s.abandonEdges_sameFaultSide.faultLaw law⟩

/-- Every step keeps the fault line law: a tick moves the clock alone, and a command runs with the queue's rest. -/
theorem step_faultLaw {s t : State} (law : s.faultLaw) (next : step s = .next t) : t.faultLaw := by
  unfold step at next
  split at next
  · cases next
    exact s.tick_changes.sameFaultSide.faultLaw law
  · rename_i c rest _
    have taken : ({ s with pending := rest } : State).faultLaw := law
    obtain ⟨u, ran, kept⟩ := exec_faultLaw c taken
    cases ran.symm.trans next
    exact kept

/-- The condition of the fault line in the words of R181. -/
theorem State.faultCondition_iff (s : State) : s.faultCondition = true ↔
    s.start.lifecycle = .configFault ∨
      (s.panel.kind = .paper ∧ (s.panel.state = .faultWait ∨ s.panel.state = .dead)) ∨
      ∃ p, (s.ports.get p).inUse = true ∧ (s.ports.get p).state = .down := by
  have ports : (∃ p, (s.ports.get p).inUse = true ∧ (s.ports.get p).state = .down) ↔
      ((s.ports.get .a).inUse = true ∧ (s.ports.get .a).state = .down) ∨
        ((s.ports.get .b).inUse = true ∧ (s.ports.get .b).state = .down) := by
    constructor
    · rintro ⟨p, down⟩
      cases p
      · exact .inl down
      · exact .inr down
    · rintro (down | down)
      · exact ⟨.a, down⟩
      · exact ⟨.b, down⟩
  rw [ports, s.faultCondition_eq]
  simp only [PanelCtl.failed, Bool.or_eq_true, Bool.and_eq_true, decide_eq_true_eq, or_assoc]

/-- Settles O59: the law is kept by every step, and it says the fault line in the words of R181. -/
theorem faultLineStands : Obligations.FaultLineStands := by
  unfold Obligations.FaultLineStands
  intro s t law next
  have kept := step_faultLaw law next
  refine ⟨kept, ?_⟩
  have stands : t.ind.fault = t.faultCondition := kept.1
  rw [stands]
  exact t.faultCondition_iff

end Sys2Proof.Machine

/-! ### Works of the node: what a command is made of, and what every part of it keeps -/

namespace Sys2Proof.Machine

/-! ### Choices and lists, by core Lean's own lemmas -/

theorem ite_iff_congr {α : Type} {c d : Prop} [Decidable c] [Decidable d] {x y u v : α} (same : c ↔ d) (hx : x = u)
    (hy : y = v) : (if c then x else y) = if d then u else v :=
  ite_congr (propext same) (fun _ => hx) fun _ => hy

theorem append_congr {α : Type} {a b c d : List α} (front : a = c) (back : b = d) : a ++ b = c ++ d := by
  rw [front, back]

theorem filter_single {α : Type} (f : α → Bool) (a : α) : [a].filter f = bif f a then [a] else [] := by
  rw [List.filter_cons, List.filter_nil, Bool.cond_eq_ite]

theorem exists_mem_map_iff {α β : Type} {f : α → β} {l : List α} {P : β → Prop} :
    (∃ y ∈ l.map f, P y) ↔ ∃ x ∈ l, P (f x) := by
  constructor
  · rintro ⟨y, held, h⟩
    obtain ⟨x, mem, rfl⟩ := List.mem_map.mp held
    exact ⟨x, mem, h⟩
  · exact fun ⟨x, mem, h⟩ => ⟨f x, List.mem_map_of_mem mem, h⟩

/-- Elements of a list without repeated keys are told apart by their keys. -/
theorem eq_of_key_eq {α β : Type} {key : α → β} {l : List α} (distinct : l.Pairwise fun x y => key x ≠ key y) {x y : α}
    (hx : x ∈ l) (hy : y ∈ l) (same : key x = key y) : x = y := by
  induction l with
  | nil => exact nomatch hx
  | cons z zs ih =>
    obtain ⟨apart, rest⟩ := List.pairwise_cons.mp distinct
    rcases List.mem_cons.mp hx with rfl | hx'
    · rcases List.mem_cons.mp hy with rfl | hy'
      · rfl
      · exact absurd same (apart y hy')
    · rcases List.mem_cons.mp hy with rfl | hy'
      · exact absurd same.symm (apart x hx')
      · exact ih rest hx' hy'

/-! ### The parts (R34, R52, R121, R142, R158) -/

/-- The blocks a work may change in any way: no law of levels, pages, queues or the window list reads them. -/
def asideBlocks : List Block := [.bus, .time, .route, .prog, .cabin, .status, .pins]

/-- The counting entries of the window list are within W and W − 1 (R142). -/
def PanelCtl.windowBound (e : PanelEnv) (p : PanelCtl) : Prop :=
  (p.countingEntries e).length ≤ e.cfg.windowCount ∧
    ((p.countingEntries e).filter (fun w => !w.urgent)).length ≤ e.cfg.windowCount - 1

/-- What a work of the panel controller keeps: its kind and the bounds of the window list, and where `steady`
the level in use. -/
structure PanelCtl.Work (steady : Bool) (e : PanelEnv) (p q : PanelCtl) : Prop where
  kind : q.kind = p.kind
  level : steady = true → q.level = p.level
  window : p.windowBound e → q.windowBound e

/-- No normal-only set is ENABLED at an emergency level (R111). -/
def TriggerUnit.lawful (u : TriggerUnit) : Prop :=
  u.level.emergency = true → ∀ x ∈ u.sets, x.cfg.normalOnly = true → x.state ≠ .enabled

/-- Two start blocks of one lifecycle state, configuration copy and reset history. -/
def StartBlock.sameLife (b c : StartBlock) : Prop :=
  c.lifecycle = b.lifecycle ∧ c.config = b.config ∧ c.cause = b.cause ∧ c.startCount = b.startCount

/-- A port's own change within its queue law, silent where it was silent, in use as before. -/
structure PortCtl.Work (c d : PortCtl) : Prop where
  inUse : d.inUse = c.inUse
  queue : c.queueLaw → d.queueLaw
  silent : c.queue = [] ∧ c.inFlight = none → d.queue = [] ∧ d.inFlight = none

/-- A work between two lifecycle moves, put together from changes of single blocks, requests, and events of the
page selector, which end with the arbiter's page handed over. Where `steady`, no level in use and no muster
kind moves. -/
inductive Work (steady : Bool) : State → State → Prop
  | refl (s : State) : Work steady s s
  | trans {s t u : State} (first : Work steady s t) (second : Work steady t u) : Work steady s u
  | aside {s t : State} (h : OnlyChanges asideBlocks s t) : Work steady s t
  | start (s : State) (f : StartBlock → StartBlock) (h : s.start.sameLife (f s.start)) :
      Work steady s (s.startDo f)
  | port (s : State) (p : Port) (c : PortCtl) (h : (s.ports.get p).Work c) :
      Work steady s (s.putPort p c)
  | request (s : State) (p : Port) (cls : FrameClass) (key : QueueKey) (content : QueueContent) :
      Work steady s (s.request p cls key content)
  | alarm (s : State) (f : AlarmUnit → AlarmUnit)
      (h : steady = true → (f s.alarm).epoch = s.alarm.epoch ∧ (f s.alarm).level = s.alarm.level) :
      Work steady s (s.alarmDo f)
  | muster (s : State) (f : MusterSelector → MusterSelector)
      (h : steady = true → (f s.muster).kind = s.muster.kind) : Work steady s (s.musterDo f)
  | trig (s : State) (f : TriggerUnit → TriggerUnit)
      (level : steady = true → (f s.trig).level = s.trig.level)
      (lawful : s.trig.lawful → (f s.trig).lawful) : Work steady s (s.trigDo f)
  | panel (s : State) (f : PanelEnv → PanelCtl → PanelCtl)
      (h : s.panel.Work steady s.panelEnv (f s.panelEnv s.panel)) : Work steady s (s.panelDo f)
  | ind (s : State) (i : Indicator) (h : steady = true → i.level = s.ind.level) :
      Work steady s { s with ind := i }
  | page {s : State} (f : PageSelector → PageSelector)
      (level : steady = true → (f s.page).level = s.page.level) (positionSet : Bool) (cause : PageCause)
      {t : State} (told : t = s.pageDo f ∨ ∃ g : PanelEnv → PanelCtl → PanelCtl,
        t = (s.pageDo f).panelDo g ∧ s.panel.Work steady s.panelEnv (g s.panelEnv s.panel)) :
      Work steady s (t.finishPage positionSet cause)

section
variable {steady : Bool}

theorem Work.ite {s t u : State} {c : Prop} [Decidable c] (h : Work steady s t)
    (k : Work steady s u) : Work steady s (if c then t else u) := by
  split
  · exact h
  · exact k

theorem Work.foldl {α : Type} {f : State → α → State} (h : ∀ s x, Work steady s (f s x)) (l : List α)
    (s : State) : Work steady s (l.foldl f s) := by
  induction l generalizing s with
  | nil => exact .refl s
  | cons x xs ih => exact (h s x).trans (ih (f s x))

theorem OnlyChanges.work {a : List Block} {s t : State} (h : OnlyChanges a s t)
    (off : Block.within a asideBlocks = true := by rfl) : Work steady s t := .aside (h.widen off)

/-! ### The panel controller -/

theorem PanelCtl.Work.refl (e : PanelEnv) (p : PanelCtl) : p.Work steady e p :=
  ⟨rfl, fun _ => rfl, fun h => h⟩

theorem PanelCtl.Work.trans {e : PanelEnv} {p q r : PanelCtl} (h : p.Work steady e q)
    (k : q.Work steady e r) : p.Work steady e r :=
  ⟨k.kind.trans h.kind, fun b => (k.level b).trans (h.level b), fun w => k.window (h.window w)⟩

/-- A work that leaves the window list alone. -/
theorem PanelCtl.Work.of_window {e : PanelEnv} {p q : PanelCtl} (kind : q.kind = p.kind)
    (level : steady = true → q.level = p.level) (window : q.window = p.window) : p.Work steady e q :=
  ⟨kind, level, fun h => by rwa [windowBound, countingEntries, window]⟩

theorem PanelCtl.Work.same {e : PanelEnv} {p q : PanelCtl}
    (h : q.kind = p.kind ∧ q.level = p.level ∧ q.window = p.window) : p.Work steady e q :=
  .of_window h.1 (fun _ => h.2.1) h.2.2

/-- A work after changes outside kind, level and window list. -/
theorem PanelCtl.Work.before {e : PanelEnv} {p q r : PanelCtl} (k : q.Work steady e r)
    (h : q.kind = p.kind ∧ q.level = p.level ∧ q.window = p.window) : p.Work steady e r :=
  (Work.same h).trans k

/-- What counts of the entries that count. -/
theorem PanelCtl.countingEntries_prune (e : PanelEnv) (p : PanelCtl) :
    (p.pruneWindow e).countingEntries e = p.countingEntries e := by
  simp [pruneWindow, countingEntries]

theorem PanelCtl.pruneWindow_work (e : PanelEnv) (p : PanelCtl) : p.Work steady e (p.pruneWindow e) :=
  ⟨rfl, fun _ => rfl, fun h => by rwa [windowBound, countingEntries_prune]⟩

/-- The bound after a full refresh has entered the window list. -/
theorem PanelCtl.startFull_windowBound {e : PanelEnv} {p : PanelCtl} (bound : p.windowBound e)
    {urgent : Bool} (room : p.windowCount e < e.cfg.windowCount)
    (calm : urgent = false → p.windowCount e < e.cfg.windowCount - 1) :
    (p.startFull e urgent).windowBound e := by
  obtain ⟨-, few⟩ := bound
  have split : (p.startFull e urgent).countingEntries e =
      p.countingEntries e ++ [WindowEntry.mk e.now urgent].filter
        (fun w => decide (e.now < w.start + e.cfg.windowSeconds * 1000)) := by
    simp [startFull, countingEntries, List.filter_append]
  have one : ([WindowEntry.mk e.now urgent].filter
      (fun w => decide (e.now < w.start + e.cfg.windowSeconds * 1000))).length ≤ 1 :=
    List.length_filter_le _ _
  have nonUrgent : ((p.countingEntries e).filter (fun w => !w.urgent)).length ≤ p.windowCount e :=
    List.length_filter_le _ _
  refine ⟨?_, ?_⟩
  · rw [split, List.length_append]
    unfold windowCount at room
    omega
  · rw [split, List.filter_append, List.length_append]
    cases urgent with
    | true =>
      have none : ([WindowEntry.mk e.now true].filter
          (fun w => decide (e.now < w.start + e.cfg.windowSeconds * 1000))).filter
            (fun w => !w.urgent) = [] := by
        rw [List.filter_filter]
        simp
      rw [none]
      simpa using few
    | false =>
      have := calm rfl
      have := List.length_filter_le (fun w : WindowEntry => !w.urgent)
        ([WindowEntry.mk e.now false].filter
          (fun w => decide (e.now < w.start + e.cfg.windowSeconds * 1000)))
      omega

/-- A full refresh is chosen only where the window has room for it (R144). -/
theorem PanelCtl.choose_full_room {e : PanelEnv} {p : PanelCtl} {urgent : Bool}
    (h : p.choose e = some (.full urgent)) : p.windowCount e < e.cfg.windowCount ∧
      (urgent = false → p.windowCount e < e.cfg.windowCount - 1) := by
  have partials : p.choosePartial e ≠ some (.full urgent) := by
    unfold choosePartial
    split <;> simp
  unfold choose at h
  dsimp only at h
  split at h
  · split at h
    · rename_i room
      cases h
      exact ⟨room.2, by simp⟩
    · split at h
      · rename_i room
        cases h
        exact ⟨by omega, fun _ => room.2⟩
      · split at h
        · split at h
          · rename_i room
            cases h
            exact ⟨by omega, fun _ => room⟩
          · cases h
        · exact absurd h partials
  · split at h
    · rename_i room
      cases h
      exact ⟨room.1, by simp⟩
    · exact absurd h partials

theorem PanelCtl.tryChoice_work (e : PanelEnv) (p : PanelCtl) : p.Work steady e (p.tryChoice e) := by
  unfold tryChoice
  split
  · refine (p.pruneWindow_work e).trans ?_
    dsimp only
    split
    · exact .refl e _
    · rename_i chosen
      obtain ⟨room, calm⟩ := choose_full_room chosen
      exact ⟨rfl, fun _ => rfl, fun bound => startFull_windowBound bound room calm⟩
    · exact .same ⟨rfl, rfl, rfl⟩
  · exact .refl e p

theorem PanelCtl.tryLit_work (e : PanelEnv) (p : PanelCtl) : p.Work steady e (p.tryLit e) := by
  unfold tryLit beginLit
  split
  · split <;> exact .same ⟨rfl, rfl, rfl⟩
  · exact .refl e p

theorem PanelCtl.tryStart_work (e : PanelEnv) (p : PanelCtl) : p.Work steady e (p.tryStart e) := by
  unfold tryStart
  split
  · exact p.tryChoice_work e
  · exact p.tryLit_work e

theorem PanelCtl.takePageChange_work (e : PanelEnv) (fields : List FieldRecord) (urgent : Bool)
    (p : PanelCtl) : p.Work steady e (p.takePageChange e fields urgent) := by
  unfold takePageChange
  dsimp only
  split
  · exact .same ⟨rfl, rfl, rfl⟩
  · split
    · exact .before (tryChoice_work e _) ⟨rfl, rfl, rfl⟩
    · exact .before (tryLit_work e _) ⟨rfl, rfl, rfl⟩

theorem PanelCtl.takeField_work (e : PanelEnv) (h : HandedField) (p : PanelCtl) :
    p.Work steady e (p.takeField e h) := by
  unfold takeField
  dsimp only
  split
  · exact .same ⟨rfl, rfl, rfl⟩
  · split <;> exact .same ⟨rfl, rfl, rfl⟩

theorem PanelCtl.takeFieldChange_work (e : PanelEnv) (fields : List HandedField) (p : PanelCtl) :
    p.Work steady e (p.takeFieldChange e fields) := by
  refine .trans ?_ (tryStart_work e _)
  induction fields generalizing p with
  | nil => exact .refl e p
  | cons h fields ih => exact (p.takeField_work e h).trans (ih _)

theorem PanelCtl.takeUrgency_work (e : PanelEnv) (p : PanelCtl) : p.Work steady e (p.takeUrgency e) := by
  unfold takeUrgency
  split
  · exact .refl e p
  · exact .before (tryChoice_work e _) ⟨rfl, rfl, rfl⟩

theorem PanelCtl.retarget_work (e : PanelEnv) (p : PanelCtl) : p.Work steady e (p.retarget e) := by
  unfold retarget
  split <;> exact .same ⟨rfl, rfl, rfl⟩

theorem PanelCtl.takeQuiet_work (e : PanelEnv) (quiet : Bool) (p : PanelCtl) :
    p.Work steady e (p.takeQuiet e quiet) := by
  unfold takeQuiet
  dsimp only
  split
  · exact .before (tryChoice_work e _) ⟨rfl, rfl, rfl⟩
  · exact .before (retarget_work e _) ⟨rfl, rfl, rfl⟩

/-- The panel controller takes the level after, which alone is not steady. -/
theorem PanelCtl.takeAlarm_work (e : PanelEnv) (before after : Level) (p : PanelCtl) :
    p.Work false e (p.takeAlarm e before after) ∧ (p.takeAlarm e before after).level = after := by
  have leveled : p.Work false e { p with level := after } := .of_window rfl (fun b => nomatch b) rfl
  unfold takeAlarm
  dsimp only
  split
  · have tried := tryChoice_work (steady := true) e { p with level := after }
    exact ⟨leveled.trans (tryChoice_work e _), tried.level rfl⟩
  · generalize hq : (if (after.emergency && !before.emergency) = true then
      ({ p with level := after, luminance := 1023 } : PanelCtl) else { p with level := after }) = q
    have lit : p.Work false e q ∧ q.level = after := by
      subst hq
      split
      · exact ⟨.of_window rfl (fun b => nomatch b) rfl, rfl⟩
      · exact ⟨leveled, rfl⟩
    exact ⟨lit.1.trans (retarget_work e q), ((retarget_work (steady := true) e q).level rfl).trans lit.2⟩

theorem PanelCtl.blinkPhase_work (e : PanelEnv) (p : PanelCtl) : p.Work steady e (p.blinkPhase e) := by
  unfold blinkPhase
  split
  · exact .refl e p
  · dsimp only
    split
    · exact .refl e p
    · exact .before (tryLit_work e _) ⟨rfl, rfl, rfl⟩

theorem PanelCtl.ramp_work (e : PanelEnv) (p : PanelCtl) : p.Work steady e (p.ramp e) := by
  unfold ramp
  split <;> exact .same ⟨rfl, rfl, rfl⟩

theorem PanelCtl.endLoad_work (e : PanelEnv) (p : PanelCtl) : p.Work steady e (p.endLoad e) := by
  unfold endLoad
  split
  · exact .before (tryLit_work e _) ⟨rfl, rfl, rfl⟩
  · split
    · exact .before (tryChoice_work e _) ⟨rfl, rfl, rfl⟩
    · exact .same ⟨rfl, rfl, rfl⟩

theorem PanelCtl.busyFalls_work (e : PanelEnv) (p : PanelCtl) : p.Work steady e (p.busyFalls e) := by
  unfold busyFalls
  split
  · exact .before (tryChoice_work e (p.complete e)) ⟨rfl, rfl, rfl⟩
  · exact .same ⟨rfl, rfl, rfl⟩
  · exact .before (tryChoice_work e _) ⟨rfl, rfl, rfl⟩
  · exact .refl e p
  · exact .refl e p

theorem PanelCtl.busyRises_work (e : PanelEnv) (p : PanelCtl) : p.Work steady e (p.busyRises e) := by
  unfold busyRises
  split <;> exact .same ⟨rfl, rfl, rfl⟩

theorem PanelCtl.timeOut_work (e : PanelEnv) (urgent : Bool) (p : PanelCtl) :
    p.Work steady e (p.timeOut e urgent) := by
  unfold timeOut
  dsimp only
  split <;> exact .same ⟨rfl, rfl, rfl⟩

theorem PanelCtl.retry_work (e : PanelEnv) (p : PanelCtl) : p.Work steady e (p.retry e) :=
  .before (tryChoice_work e _) ⟨rfl, rfl, rfl⟩

theorem PanelCtl.enterConfigFault_work (e : PanelEnv) (p : PanelCtl) :
    p.Work steady e p.enterConfigFault := by
  unfold enterConfigFault
  split <;> exact .same ⟨rfl, rfl, rfl⟩

end

end Sys2Proof.Machine

/-! ### The works of the blocks, in the order of `Sys2Proof/Laws/Frames.lean` -/

namespace Sys2Proof.Machine

section
variable {steady : Bool}

/-! ### Bus (chapter 10) -/

theorem State.requestToken_work (s : State) (p : Port) (kind : TokenKind) :
    Work steady s (s.requestToken p kind) := .request s _ _ _ _

theorem State.requestOwn_work (s : State) (p : Port) (cls : FrameClass) (key : QueueKey)
    (payload : List Byte) : Work steady s (s.requestOwn p cls key payload) := .request s _ _ _ _

theorem State.relay_work (s : State) (p : Port) (cls : FrameClass) (f : RxFrame) (changed : Bool) :
    Work steady s (s.relay p cls f changed) :=
  .ite ((s.busDo_changes (fun b => { b with relayedCopies := bump b.relayedCopies })).work.trans
    (.request _ _ _ _ _)) (.refl s)

theorem PortCtl.Work.of_queue {c d : PortCtl} (inUse : d.inUse = c.inUse) (queue : d.queue = c.queue)
    (flight : d.inFlight = c.inFlight) : c.Work d :=
  ⟨inUse, fun law => queueLaw_of_eq law queue, fun h => ⟨queue.trans h.1, flight.trans h.2⟩⟩

theorem State.updateFault_work (s : State) : Work steady s s.updateFault := .ind s _ fun _ => rfl

theorem State.noteGood_work (s : State) (p : Port) : Work steady s (s.noteGood p) := by
  unfold State.noteGood
  dsimp only
  split
  · exact .port s p _ (.of_queue rfl rfl rfl)
  · refine .ite (.trans ?_ (State.updateFault_work _)) ?_ <;> exact .port s p _ (.of_queue rfl rfl rfl)

theorem State.noteBad_work (s : State) (p : Port) : Work steady s (s.noteBad p) := by
  unfold State.noteBad
  dsimp only
  split
  · exact .refl s
  · exact .port s p _ (.of_queue rfl rfl rfl)

/-! ### Page selector (chapter 8) -/

/-- An event of the page selector that changes its own state alone before its end. -/
theorem State.pageEvent_work (s : State) (f : PageSelector → PageSelector)
    (level : (f s.page).level = s.page.level) (positionSet : Bool) (cause : PageCause) :
    Work steady s ((s.pageDo f).finishPage positionSet cause) :=
  .page f (fun _ => level) positionSet cause (.inl rfl)

theorem State.finishPage_work (s : State) (positionSet : Bool) (cause : PageCause) :
    Work steady s (s.finishPage positionSet cause) := s.pageEvent_work id rfl positionSet cause

theorem State.pageNotice_work (s : State) (cause : PageCause) : Work steady s (s.pageNotice cause) :=
  s.finishPage_work false cause

theorem PageSelector.nextSpotlight_level (p : PageSelector) (l : List Nat) (u : Nat) :
    (p.nextSpotlight l u).level = p.level := by
  unfold nextSpotlight
  split <;> rfl

theorem PageSelector.followSpotlight_level (p : PageSelector) (l : List Nat) (u : Nat) :
    (p.followSpotlight l u).level = p.level := by
  unfold followSpotlight
  split
  · rfl
  · split
    · rfl
    · exact p.nextSpotlight_level l u

theorem PageSelector.followPages_level (p : PageSelector) (n u : Nat) :
    (p.followPages n u).level = p.level := by
  unfold followPages
  split
  · rfl
  · split <;> rfl

theorem State.pageTakesProgramme_work (s : State) : Work steady s s.pageTakesProgramme :=
  s.pageEvent_work _ ((PageSelector.followPages_level _ _ _).trans
    (PageSelector.followSpotlight_level _ _ _)) _ _

theorem State.pageDwellEnds_work (s : State) : Work steady s s.pageDwellEnds :=
  s.pageEvent_work _ rfl _ _

theorem State.refuseRequest_work (s : State) : Work steady s s.refuseRequest :=
  s.pageEvent_work _ rfl _ _

theorem State.jumpTo_work (s : State) (position : RotationPage) :
    Work steady s (s.jumpTo position) := by
  unfold State.jumpTo
  dsimp only
  split
  · exact s.pageEvent_work
      (fun p => { p.endSpotlight with rotation := position, dwell := some s.dwellFrom }) rfl _ _
  · exact s.pageEvent_work _ rfl _ _

theorem State.pageShow_work (s : State) (page : ShowPage) : Work steady s (s.pageShow page) := by
  unfold State.pageShow
  refine .ite s.refuseRequest_work ?_
  split
  · exact s.jumpTo_work _
  · exact .ite s.refuseRequest_work (s.jumpTo_work _)
  · split
    · exact s.refuseRequest_work
    · exact .ite (s.finishPage_work _ _) (s.pageEvent_work _ (PageSelector.nextSpotlight_level _ _ _) _ _)

/-- A change of the quiet state is one event: the selector's own change, and the value told where it changed. -/
theorem State.changeQuiet_work (s : State) (f : PageSelector → PageSelector)
    (level : (f s.page).level = s.page.level) : Work steady s (s.changeQuiet f) := by
  have told (g : PageSelector → PageSelector) (quiet : Bool) (h : (g s.page).level = s.page.level) :
      Work steady s (((s.pageDo g).panelDo (fun e p => p.takeQuiet e quiet)).finishPage false .other) :=
    .page g (fun _ => h) _ _ (.inr ⟨_, rfl, PanelCtl.takeQuiet_work _ quiet _⟩)
  unfold State.changeQuiet State.quietChanged
  dsimp only
  split
  · exact s.pageEvent_work f level _ _
  · split
    · exact told (fun p => { f p with rotation := .route, dwell := none }) true level
    · refine told (fun p => if (f p).selected.isRotation then
        { f p with dwell := some s.dwellFrom } else f p) false ?_
      dsimp only
      split <;> exact level

theorem State.pageQuietEnter_work (s : State) : Work steady s s.pageQuietEnter :=
  .ite s.refuseRequest_work (s.changeQuiet_work _ rfl)

theorem State.pageQuietLeave_work (s : State) : Work steady s s.pageQuietLeave :=
  .ite s.refuseRequest_work (s.changeQuiet_work _ (by split <;> rfl))

theorem State.pagePresence_work (s : State) : Work steady s s.pagePresence :=
  s.changeQuiet_work _ (by split <;> rfl)

theorem State.pagePresenceEnds_work (s : State) : Work steady s s.pagePresenceEnds :=
  s.changeQuiet_work _ rfl

/-! ### Muster selector (chapter 3) -/

theorem State.takeMuster_work (s : State) (m : MusterSelector)
    (kind : steady = true → m.kind = s.muster.kind) : Work steady s (s.takeMuster m) := by
  have taken : Work steady s (s.musterDo (fun _ => m)) := .muster s _ kind
  exact .ite taken ((taken.trans (State.pageNotice_work _ _)).trans
    (.panel _ _ (PanelCtl.takeUrgency_work _ _)))

theorem State.maintainPending_kind (s : State) (k : PointKind) (m : MusterSelector) (r : MusterRank) :
    (s.maintainPending k m r).kind = m.kind := by
  unfold State.maintainPending
  split
  · rfl
  · split
    · rfl
    · dsimp only
      split <;> rfl

theorem State.review_kind (s : State) : s.review.kind = s.muster.kind := by
  unfold State.review
  split
  · rfl
  · split
    · rfl
    · split
      · unfold State.reviewEligible
        dsimp only
        split
        · split
          · exact State.maintainPending_kind _ _ _ _
          · rfl
        · exact State.maintainPending_kind _ _ _ _
      · rfl

theorem State.musterReview_work (s : State) : Work steady s s.musterReview :=
  s.takeMuster_work _ fun _ => s.review_kind

/-! ### Trigger unit (chapter 7) -/

theorem enableSet_lawful {level : Level} {x : TriggerSet}
    (h : x.cfg.normalOnly = true → x.state ≠ .enabled) (emergency : level.emergency = true)
    (normalOnly : (enableSet level x).cfg.normalOnly = true) : (enableSet level x).state ≠ .enabled := by
  revert normalOnly
  unfold enableSet
  split
  · exact h
  · exact h
  · intro normalOnly
    change x.cfg.normalOnly = true at normalOnly
    simp [normalOnly, emergency]

theorem disableSet_state (x : TriggerSet) : (disableSet x).state ≠ .enabled := by simp [disableSet]

/-- A change of marked sets keeps the law where the change of one set does. -/
theorem TriggerUnit.mapMarked_lawful {u : TriggerUnit} {mask : Nat} {f : TriggerSet → TriggerSet}
    (law : u.lawful) (h : u.level.emergency = true → ∀ x, (x.cfg.normalOnly = true → x.state ≠ .enabled) →
      (f x).cfg.normalOnly = true → (f x).state ≠ .enabled) : (u.mapMarked mask f).lawful := by
  intro emergency x hx normalOnly
  obtain ⟨i, hi, rfl⟩ := List.mem_mapIdx.mp hx
  have old := law emergency u.sets[i] (List.getElem_mem hi)
  revert normalOnly
  split
  · exact h emergency _ old
  · exact old

theorem TriggerUnit.putSet_lawful {u : TriggerUnit} {n : Nat} {x : TriggerSet} (law : u.lawful)
    (h : x.state ≠ .enabled) : (u.putSet n x).lawful := by
  intro emergency y hy normalOnly
  rcases List.mem_or_eq_of_mem_set hy with old | rfl
  · exact law emergency y old normalOnly
  · exact h

/-- A change that leaves the sets and the level in use alone. -/
theorem Work.trig_same (s : State) (f : TriggerUnit → TriggerUnit) (level : (f s.trig).level = s.trig.level)
    (sets : (f s.trig).sets = s.trig.sets) : Work steady s (s.trigDo f) :=
  .trig s f (fun _ => level) fun law => by rwa [TriggerUnit.lawful, level, sets]

theorem State.performAction_work (s : State) (o : Occurrence) (n : Nat) (chained : Bool)
    (c : TriggerCfg) : Work steady s (s.performAction o n chained c) := by
  unfold State.performAction
  split
  · exact .refl s
  · exact s.pageShow_work _
  · exact .trig_same s _ rfl rfl
  · exact .trig_same s _ rfl rfl
  · exact .trig_same s _ rfl rfl
  · exact .panel s _ (.before (PanelCtl.retarget_work _ _) ⟨rfl, rfl, rfl⟩)
  · exact s.pageQuietEnter_work
  · exact s.pageQuietLeave_work
  · exact .trig s _ (fun _ => rfl) fun law => TriggerUnit.mapMarked_lawful law
      fun emergency x old => enableSet_lawful old emergency
  · exact .trig s _ (fun _ => rfl) fun law => TriggerUnit.mapMarked_lawful law
      fun _ x _ _ => disableSet_state x

theorem State.actAndOnce_work (s : State) (o : Occurrence) (n : Nat) (chained : Bool)
    (c : TriggerCfg) : Work steady s (s.actAndOnce o n chained c) := by
  refine (s.performAction_work o n chained c).trans (.trig _ _ (fun _ => ?_) fun law => ?_)
  · split <;> rfl
  · dsimp only
    split
    · exact law
    · exact TriggerUnit.putSet_lawful (u := { State.trig _ with activations := _ }) law (by simp)

theorem Work.cascadeFoldl {s : State} {f : Cascade → Nat → Cascade}
    (h : ∀ k m, Work steady k.state (f k m).state) (l : List Nat) (k : Cascade)
    (hk : Work steady s k.state) : Work steady s (l.foldl f k).state := by
  induction l generalizing k with
  | nil => exact hk
  | cons x xs ih => exact ih (f k x) (hk.trans (h k x))

theorem activate_work (depth : Nat) (o : Occurrence) (n : Nat) (chained : Bool) (k : Cascade) :
    Work steady k.state (activate depth o n chained k).state := by
  induction depth generalizing n chained k with
  | zero => exact .refl _
  | succ d ih =>
    refine Work.cascadeFoldl ?_ _ _ (State.actAndOnce_work _ _ _ _ _)
    intro k m
    split
    · exact ih m true k
    · exact .refl _

theorem State.cascade_work (s : State) (o : Occurrence) : Work steady s (s.cascade o) := by
  refine Work.cascadeFoldl (fun k n => ?_) _ _ (.refl s)
  unfold cascadeTurn
  split
  · exact activate_work _ _ _ _ _
  · exact .refl _

theorem State.cascades_work (s : State) (os : List Occurrence) : Work steady s (s.cascades os) :=
  Work.foldl (fun s o => s.cascade_work o) os s

theorem State.timerTicks_work (s : State) (n : Nat) : Work steady s (s.timerTicks n) :=
  .ite (.trig_same s _ rfl rfl) (.refl s)

theorem State.timerExpires_work (s : State) (n : Nat) : Work steady s (s.timerExpires n) := by
  refine .ite (.trans ?_ (State.cascade_work _ _)) (.refl s)
  refine .trig_same s _ ?_ ?_ <;> split <;> rfl

/-! ### Programme store (chapter 4) -/

theorem State.progDo_work (s : State) (f : ProgrammeStore → ProgrammeStore) :
    Work steady s (s.progDo f) := (s.progDo_changes f).work

theorem State.detectLeads_work (s : State) (minute : Nat) : Work steady s (s.detectLeads minute) :=
  (s.progDo_work _).trans (State.cascades_work _ _)

/-- An expiry run where ship time is known. -/
theorem State.expireKnown_work (s : State) (minute : Nat) : Work steady s
    (if s.time.state.known then s.progDo (fun p => p.expire minute) else s) :=
  .ite (s.progDo_work _) (.refl s)

theorem State.progTakesMinute_work (s : State) (minute : Nat) :
    Work steady s (s.progTakesMinute minute) :=
  ((s.expireKnown_work minute).trans (.ite (State.detectLeads_work _ _) (.refl _))).trans
    (State.pageTakesProgramme_work _)

theorem State.progTakesStep_work (s : State) (kind : StepKind) (crossed : List Nat) (minute : Nat) :
    Work steady s (s.progTakesStep kind crossed minute) := by
  refine Work.trans ?_ (State.pageTakesProgramme_work _)
  cases kind
  case first => exact s.expireKnown_work minute
  case forwardShort =>
    exact .trans (.ite (Work.foldl (fun s m => s.detectLeads_work m) _ _) (.refl s))
      (State.expireKnown_work _ minute)
  case forwardLong => exact s.expireKnown_work minute
  case backward => exact .refl s

theorem State.pageSpotlightEnds_work (s : State) : Work steady s s.pageSpotlightEnds := by
  unfold State.pageSpotlightEnds
  refine Work.trans ?_ (State.pageEvent_work _ _ (PageSelector.nextSpotlight_level _ _ _) _ _)
  split
  · exact .ite ((s.progDo_work _).trans (State.pageTakesProgramme_work _)) (.refl s)
  · exact .refl s

theorem State.takeItemFrame_work (s : State) (p : ItemPayload) : Work steady s (s.takeItemFrame p).1 := by
  have clamp : Work steady s
      (if p.clamps then s.progDo (fun q => { q with clampedItems := bump q.clampedItems }) else s) :=
    .ite (s.progDo_work _) (.refl s)
  unfold State.takeItemFrame
  by_cases running : s.running = true
  · rw [if_pos running]
    dsimp only
    split
    · exact (clamp.trans (State.progDo_work _ _)).trans (State.pageTakesProgramme_work _)
    · dsimp only
      exact clamp.trans (State.progDo_work _ _)
  · rw [if_neg running]
    exact .refl s

theorem State.takeWithdrawFrame_work (s : State) (w : Tombstone) :
    Work steady s (s.takeWithdrawFrame w).1 := by
  unfold State.takeWithdrawFrame
  split
  · exact .ite ((s.progDo_work _).trans (State.pageTakesProgramme_work _)) (s.progDo_work _)
  · exact .refl s

/-! ### Ship time unit (chapter 6) -/

theorem State.timeDo_work (s : State) (f : TimeUnit → TimeUnit) : Work steady s (s.timeDo f) :=
  (s.timeDo_changes f).work

theorem State.timeNotice_work (s : State) : Work steady s s.timeNotice :=
  .ite (s.pageNotice_work _) (.refl s)

theorem State.announceMinute_work (s : State) (minute : Nat) : Work steady s (s.announceMinute minute) := by
  refine (s.timeDo_work (fun u => { u with notifiedMinute := minute })).trans (.ite ?_ (.refl _))
  exact ((State.progTakesMinute_work _ minute).trans (.ite (State.cascade_work _ _) (.refl _))).trans
    (State.pageNotice_work _ _)

theorem State.reachMinute_work (s : State) : Work steady s s.reachMinute :=
  .ite (s.announceMinute_work _) (.refl s)

theorem State.announceStep_work (s : State) (kind : StepKind) : Work steady s (s.announceStep kind) := by
  refine (s.timeDo_work (fun u =>
    { u with notifiedMinute := notifiedAfter kind u.notifiedMinute s.programmeMinute })).trans
    (.ite ?_ (.refl _))
  exact ((State.progTakesStep_work _ _ _ _).trans (State.cascades_work _ _)).trans
    (State.pageNotice_work _ _)

theorem State.slewBeacon_work (s : State) (r : Int) : Work steady s (s.slewBeacon r) :=
  .ite (s.timeDo_work _) ((s.timeDo_work _).trans (State.timeNotice_work _))

theorem State.stepBeacon_work (s : State) (r : Int) : Work steady s (s.stepBeacon r) := by
  unfold State.stepBeacon
  dsimp only
  split
  · exact s.timeDo_work _
  · exact .ite ((s.timeDo_work _).trans (State.announceStep_work _ _)) (s.timeDo_work _)

theorem State.takeBeacon_work (s : State) (sender : Nat) (b : BeaconPayload) :
    Work steady s (s.takeBeacon sender b) := by
  have discipline (t : State) (r : Int) : Work steady t (t.discipline r) :=
    .ite ((t.timeDo_work _).trans (State.announceStep_work _ _))
      (.ite (t.slewBeacon_work r) (t.stepBeacon_work r))
  unfold State.takeBeacon
  exact .ite (.ite (s.timeDo_work _) (.ite ((s.timeDo_work _).trans (discipline _ _)) (s.timeDo_work _)))
    (.refl s)

theorem State.expireSource_work (s : State) (sender : Nat) : Work steady s (s.expireSource sender) := by
  unfold State.expireSource
  split
  · exact .refl s
  · exact .ite (.ite (s.timeDo_work _) ((s.timeDo_work _).trans (State.timeNotice_work _))) (.refl s)

theorem State.slewTicks_work (s : State) : Work steady s s.slewTicks :=
  .ite (.ite ((s.timeDo_work _).trans (State.reachMinute_work _)) (s.timeDo_work _)) (.refl s)

theorem State.becomeStale_work (s : State) : Work steady s s.becomeStale :=
  .ite ((s.timeDo_work _).trans (State.timeNotice_work _)) (.refl s)

theorem State.beaconDue_work (s : State) : Work steady s s.beaconDue := by
  unfold State.beaconDue
  refine .ite (Work.trans (.ite ?_ (.refl s)) (State.timeDo_work _ _)) (.refl s)
  exact Work.foldl (fun t p => .request t p _ _ _) _ _

/-! ### Route engine (chapter 1) -/

theorem State.routeDo_work (s : State) (f : RouteEngine → RouteEngine) : Work steady s (s.routeDo f) :=
  (s.routeDo_changes f).work

theorem State.requestTriggered_work (s : State) (p : Port) : Work steady s (s.requestTriggered p) :=
  (s.requestToken_work p _).trans (State.routeDo_work _ _)

theorem State.markBecameSet_work (s : State) (p : Port) : Work steady s (s.markBecameSet p) := by
  unfold State.markBecameSet
  refine .ite (.refl s) ?_
  split
  · exact s.requestTriggered_work p
  · refine .ite ?_ (s.requestTriggered_work p)
    split
    · exact .refl s
    · exact s.routeDo_work _

theorem State.storeEntry_work (s : State) (before after : RouteEntry) :
    Work steady s (s.storeEntry before after) :=
  .ite ((s.routeDo_work _).trans (Work.foldl (fun t p => t.markBecameSet_work p) _ _)) (s.routeDo_work _)

theorem State.reevaluate_work (s : State) (dest : Nat) : Work steady s (s.reevaluate dest) := by
  unfold State.reevaluate
  split
  · exact .refl s
  · exact (s.countHoldDown_changes _ _).work.trans (State.storeEntry_work _ _ _)

theorem State.routeNotices_work (s : State) (before : List RouteEntry) (removed : List Nat) :
    Work steady s (s.routeNotices before removed) := by
  have told (os : List Occurrence) : Work steady s (s.musterReview.cascades os) :=
    s.musterReview_work.trans (State.cascades_work _ _)
  unfold State.routeNotices
  refine .ite (.ite (.refl s) (told _)) ?_
  exact Work.trans (.ite (.refl s) (told _)) (State.pageNotice_work _ _)

theorem State.reevaluateAllEvent_work (s : State) : Work steady s s.reevaluateAllEvent :=
  (Work.foldl (fun t d => t.reevaluate_work d) _ _).trans (State.routeNotices_work _ _ _)

theorem State.routeEntersListening_work (s : State) : Work steady s s.routeEntersListening :=
  (s.routeDo_work _).trans (State.reevaluateAllEvent_work _)

theorem State.createEntry_work (s : State) (slots : List Nat) (a : AdvertEntry) (kind : DestKind) :
    Work steady s (s.createEntry slots a kind) := (s.routeDo_work _).trans (State.reevaluate_work _ _)

theorem AdvertWork.create_work (w : AdvertWork) (slots : List Nat) (a : AdvertEntry) (kind : DestKind) :
    Work steady w.state (w.create slots a kind).state := by
  unfold AdvertWork.create
  split
  · exact w.state.createEntry_work _ _ _
  · split
    · dsimp only
      exact w.state.routeDo_work _
    · exact (w.state.routeDo_work _).trans (State.createEntry_work _ _ _ _)

theorem AdvertWork.take_work (slots : List Nat) (w : AdvertWork) (a : AdvertEntry) :
    Work steady w.state (w.take slots a).state := by
  unfold AdvertWork.take
  split
  · dsimp only
    exact w.state.routeDo_work _
  · split
    · exact (w.state.routeDo_work _).trans (State.reevaluate_work _ _)
    · split
      · exact .refl _
      · split
        · exact w.create_work _ _ _
        · exact .refl _

theorem AdvertWork.takeAll_work (slots : List Nat) (entries : List AdvertEntry) (w : AdvertWork) :
    Work steady w.state (entries.foldl (AdvertWork.take slots) w).state := by
  induction entries generalizing w with
  | nil => exact .refl _
  | cons a as ih => exact (w.take_work slots a).trans (ih _)

theorem State.takeAdvert_work (s : State) (p : Port) (sender : Nat) (entries : List AdvertEntry) :
    Work steady s (s.takeAdvert p sender entries) := by
  unfold State.takeAdvert
  split
  · split
    · exact s.routeDo_work _
    · exact (AdvertWork.takeAll_work _ entries ⟨s, []⟩).trans (State.routeNotices_work _ _ _)
  · exact .refl s

theorem State.expireCell_work (s : State) (dest slot : Nat) : Work steady s (s.expireCell dest slot) := by
  unfold State.expireCell
  split
  · exact .refl s
  · split
    · exact .refl s
    · exact .ite (((s.routeDo_work _).trans (State.reevaluate_work _ _)).trans
        (State.routeNotices_work _ _ _)) (.refl s)

theorem State.endHoldDown_work (s : State) (dest : Nat) : Work steady s (s.endHoldDown dest) := by
  unfold State.endHoldDown
  split
  · exact .refl s
  · split
    · exact .refl s
    · exact .ite ((s.storeEntry_work _ _).trans (State.routeNotices_work _ _ _)) (.refl s)

theorem State.flushEntry_work (s : State) (dest : Nat) : Work steady s (s.flushEntry dest) := by
  unfold State.flushEntry
  split
  · exact .refl s
  · exact .ite ((s.routeDo_work _).trans (State.routeNotices_work _ _ _)) (.refl s)

theorem State.periodicFull_work (s : State) : Work steady s s.periodicFull :=
  .ite ((Work.foldl (fun t p => t.requestToken_work p _) _ s).trans (State.routeDo_work _ _)) (.refl s)

theorem State.gapEnds_work (s : State) (p : Port) : Work steady s (s.gapEnds p) :=
  .ite (.ite ((s.routeDo_work _).trans (State.requestTriggered_work _ _)) (s.routeDo_work _)) (.refl s)




/-! ### The line side of a port (chapter 10) -/

/-- A start takes part of a queue that holds an entry. -/
theorem State.launch_work (s : State) (p : Port) {e : QueueEntry} {rest : List QueueEntry}
    (part : (e :: rest).Sublist (s.ports.get p).queue) {q : List QueueEntry}
    (law : PortCtl.queueLaw { s.ports.get p with queue := e :: rest } →
      PortCtl.queueLaw { s.ports.get p with queue := q }) (f : InFlight) :
    Work steady s (s.launch p q f) :=
  .port s p _ ⟨rfl, fun whole => law (PortCtl.queueLaw_of_sublist whole part),
    fun ⟨empty, _⟩ => absurd (empty ▸ part) (by simp)⟩

/-- The rest of a queue is lawful, and so is the queue with another content at its head. -/
theorem PortCtl.queueLaw_rest {c : PortCtl} {e : QueueEntry} {rest : List QueueEntry}
    (law : PortCtl.queueLaw { c with queue := e :: rest }) : PortCtl.queueLaw { c with queue := rest } :=
  queueLaw_of_sublist law (List.sublist_cons_self e rest)

theorem PortCtl.queueLaw_content {c : PortCtl} {e : QueueEntry} {rest : List QueueEntry}
    (content : QueueContent) (law : PortCtl.queueLaw { c with queue := e :: rest }) :
    PortCtl.queueLaw { c with queue := { e with content := content } :: rest } := by
  simpa only [PortCtl.queueLaw, List.pairwise_cons, List.length_cons, QueueEntry.sameKey,
    QueueEntry.before] using law

theorem State.launchToken_work (s : State) (p : Port) {e : QueueEntry} (kind : TokenKind)
    {rest : List QueueEntry} (part : (e :: rest).Sublist (s.ports.get p).queue)
    (carried : List RouteEntry) : Work steady s (s.launchToken p e kind rest carried) := by
  unfold State.launchToken
  dsimp only
  refine Work.trans ?_ (State.launch_work _ p (e := e) (rest := rest) ?_ ?_ _)
  · exact s.routeDo_work _
  · exact part
  split
  · exact PortCtl.queueLaw_content _
  · exact PortCtl.queueLaw_rest

theorem State.startHead_work (s : State) (p : Port) (q : List QueueEntry)
    (part : q.Sublist (s.ports.get p).queue) : Work steady s (s.startHead p q) := by
  induction q with
  | nil => exact .port s p _ ⟨rfl, fun _ => PortCtl.queueLaw_nil rfl, fun h => ⟨rfl, h.2⟩⟩
  | cons e rest ih =>
    unfold State.startHead
    split
    · exact s.launch_work p part PortCtl.queueLaw_rest _
    · exact s.launch_work p part PortCtl.queueLaw_rest _
    · split
      · exact ih ((List.sublist_cons_self e rest).trans part)
      · exact s.launchToken_work p _ part _

theorem State.startTransmission_work (s : State) (p : Port) : Work steady s (s.startTransmission p) :=
  .ite (s.startHead_work p _ (List.Sublist.refl _)) (.refl s)

theorem State.tellSent_work (s : State) (p : Port) (f : InFlight) : Work steady s (s.tellSent p f) :=
  .ite (s.routeDo_work _) (.refl s)

theorem State.tellUnsent_work (s : State) (p : Port) (f : InFlight) : Work steady s (s.tellUnsent p f) :=
  .ite (s.routeDo_work _) (.refl s)

theorem State.frameSent_work (s : State) (p : Port) : Work steady s (s.frameSent p) := by
  unfold State.frameSent
  split
  · exact .refl s
  · refine .trans ?_ (State.tellSent_work _ _ _)
    exact .port s p _ ⟨rfl, fun law => PortCtl.queueLaw_of_eq law rfl, fun h => ⟨h.1, rfl⟩⟩

theorem PortCtl.takeBack_queueLaw {c d : PortCtl} (law : c.queueLaw) (f : InFlight)
    (same : d.queue = c.queue := by exact rfl) : (d.takeBack f).queueLaw :=
  returnFlight_queueLaw (c := { d with inFlight := none }) (queueLaw_of_eq law same) f

theorem PortCtl.raiseFaultRun_queueLaw {c : PortCtl} (law : c.queueLaw) : c.raiseFaultRun.queueLaw := by
  unfold raiseFaultRun
  split
  · exact queueLaw_nil rfl
  · exact queueLaw_of_eq law rfl

theorem State.arbitrationWasLost_work (s : State) (p : Port) :
    Work steady s (s.arbitrationWasLost p) := by
  unfold State.arbitrationWasLost
  split
  · exact .refl s
  · rename_i f flies
    refine .trans ?_ (State.tellUnsent_work _ _ _)
    exact .port s p _ ⟨(PortCtl.takeBack_line _ f).1,
      fun law => PortCtl.takeBack_queueLaw law f,
      fun h => absurd (flies ▸ h.2) nofun⟩

theorem State.transmitFaulted_work (s : State) (p : Port) : Work steady s (s.transmitFaulted p) := by
  unfold State.transmitFaulted
  split
  · exact .refl s
  · rename_i f flies
    refine .trans (.trans ?_ (State.tellUnsent_work _ _ _)) (State.updateFault_work _)
    exact .port s p _ ⟨(PortCtl.raiseFaultRun_inUse _).trans (PortCtl.takeBack_line _ f).1,
      fun law => PortCtl.raiseFaultRun_queueLaw (PortCtl.takeBack_queueLaw law f),
      fun h => absurd (flies ▸ h.2) nofun⟩

/-! ### Cabin unit (chapter 5) -/

theorem State.cabinDo_work (s : State) (f : CabinUnit → CabinUnit) : Work steady s (s.cabinDo f) :=
  (s.cabinDo_changes f).work

theorem State.serviceChange_work (s : State) (service : ServiceState) (request : Nat) :
    Work steady s (s.serviceChange service request) :=
  ((s.cabinDo_work _).trans (State.requestOwn_work _ _ _ _ _)).trans (State.pageNotice_work _ _)

theorem State.serviceButton_work (s : State) (b : ServiceButton) : Work steady s (s.serviceButton b) :=
  .ite (s.cabinDo_work _) (s.serviceChange_work _ _)

theorem State.sweepChange_work (s : State) (sweep : SweepState) : Work steady s (s.sweepChange sweep) :=
  ((s.cabinDo_work _).trans (State.requestOwn_work _ _ _ _ _)).trans (State.pageNotice_work _ _)

theorem State.sweepEdge_work (s : State) (x : SweepEdge) : Work steady s (s.sweepEdge x) := by
  unfold State.sweepEdge
  split
  · exact s.sweepChange_work _
  · exact .refl s

theorem State.takeTally_work (s : State) (before after : List TallyEntry) :
    Work steady s (s.takeTally before after) :=
  .ite (s.cabinDo_work _) ((s.cabinDo_work _).trans (State.pageNotice_work _ _))

theorem State.tallyAll_work (s : State) (sweep : SweepState) : Work steady s (s.tallyAll sweep) := by
  unfold State.tallyAll
  split
  · exact .refl s
  · exact s.takeTally_work _ _

theorem State.takeSweep_work (s : State) (p : SweepPayload) : Work steady s (s.takeSweep p) := by
  unfold State.takeSweep
  refine .ite ?_ (.refl s)
  split
  · exact .refl s
  · exact .ite (s.takeTally_work _ _) (.refl s)

theorem State.cabinTakesAlarm_work (s : State) (event : SweepEvent) :
    Work steady s (s.cabinTakesAlarm event) := by
  unfold State.cabinTakesAlarm
  split
  · exact .refl s
  · exact .ite (Work.trans (.ite (.refl s) (s.serviceChange_work _ _)) (State.sweepChange_work _ _))
      (s.tallyAll_work _)
  · exact .ite (.ite (.refl s) (s.sweepChange_work _)) (s.tallyAll_work _)

theorem State.countedEdge_work (s : State) (n : Nat) (f : LineFunction) :
    Work steady s (s.countedEdge n f) := by
  unfold State.countedEdge
  split
  · exact .refl s
  · exact .ite (s.sweepEdge_work _) (.refl s)
  · exact .ite (s.serviceButton_work _) (.refl s)
  · exact .ite (s.serviceButton_work _) (.refl s)
  · exact .ite (s.sweepEdge_work _) (.refl s)
  · exact .ite (s.sweepEdge_work _) (.refl s)
  · exact (s.cascade_work _).trans (State.pagePresence_work _)
  · exact s.cascade_work _

theorem State.debounceEnds_work (s : State) (n : Nat) : Work steady s (s.debounceEnds n) := by
  unfold State.debounceEnds
  exact .ite (.ite (s.cabinDo_work _) (.ite ((s.cabinDo_work _).trans (State.countedEdge_work _ _ _))
    (s.cabinDo_work _))) (.refl s)

theorem State.takeCabin_work (s : State) (p : CabinPayload) : Work steady s (s.takeCabin p) := by
  have info : Work steady s (s.takeCabinInfo p) :=
    .ite ((s.cabinDo_work _).trans (State.pageNotice_work _ _)) (.refl s)
  unfold State.takeCabin
  refine .ite ?_ (.refl s)
  split
  · exact info.trans (.ite (State.serviceChange_work _ _ _) (State.cabinDo_work _ _))
  · exact info

theorem State.cabinReport_work (s : State) : Work steady s s.cabinReport :=
  .ite (Work.ite (c := s.queueService.cabin.sweep = .idle) (s.requestOwn_work _ _ _ _)
    ((s.requestOwn_work _ _ _ _).trans (State.requestOwn_work _ _ _ _ _))) (.refl s)

/-! ### Alarm state unit (chapter 2), where the held level stands -/

theorem Work.schedules (s : State) (v : PerPort (Option Schedule)) :
    Work steady s { s with start := { s.start with schedules := v } } :=
  .start s (fun b => { b with schedules := v }) ⟨rfl, rfl, rfl, rfl⟩

theorem State.mapSchedules_work (s : State) (f : Schedule → Schedule) :
    Work steady s (s.mapSchedules f) := .schedules s _

/-- A change of the lists and counters of the alarm state unit. -/
theorem Work.alarm_same {s : State} {f : AlarmUnit → AlarmUnit}
    (h : (f s.alarm).epoch = s.alarm.epoch ∧ (f s.alarm).level = s.alarm.level := by
      exact ⟨rfl, rfl⟩) : Work steady s (s.alarmDo f) := .alarm s f fun _ => h

theorem Work.alarmThen {s t : State} {f : AlarmUnit → AlarmUnit} (rest : Work steady (s.alarmDo f) t)
    (h : (f s.alarm).epoch = s.alarm.epoch ∧ (f s.alarm).level = s.alarm.level := by
      exact ⟨rfl, rfl⟩) : Work steady s t := (Work.alarm_same h).trans rest

theorem State.heardOn_work (s : State) (p : Port) (f : Schedule → Schedule) :
    Work steady s (s.heardOn p f) :=
  .ite (.schedules s _) (.refl s)

theorem State.hearAlarm_work (s : State) (p : Port) (a : AlarmPayload) :
    Work steady s (s.hearAlarm p a) := .ite (s.heardOn_work _ _) (.refl s)

theorem State.zoneChanged_work (s : State) : Work steady s s.zoneChanged :=
  s.reevaluateAllEvent_work.trans (State.musterReview_work _)

theorem State.putReports_work (s : State) (key : Nat × Nat) (t : List ZoneReport) :
    Work steady s (s.putReports key t) :=
  .alarmThen (State.mapSchedules_work _ _)

theorem State.storeOverFull_work (s : State) (r : ZoneReport) : Work steady s (s.storeOverFull r).1 := by
  unfold State.storeOverFull
  split
  · dsimp only
    exact .alarm_same
  · dsimp only
    exact (s.putReports_work _ _).trans (.alarmThen (State.zoneChanged_work _))

theorem State.takeZoneFrame_work (s : State) (origin : Nat) (p : ZonePayload) :
    Work steady s (s.takeZoneFrame origin p).1 := by
  unfold State.takeZoneFrame
  split
  · dsimp only
    split
    · split
      · exact (s.putReports_work _ _).trans (State.zoneChanged_work _)
      · exact .refl s
    · split
      · exact .alarmThen (State.zoneChanged_work _)
      · exact s.storeOverFull_work _
  · exact .refl s

theorem State.hearZone_work (s : State) (p : Port) (origin : Nat) (z : ZonePayload) :
    Work steady s (s.hearZone p origin z) := by
  unfold State.hearZone
  split
  · exact .ite (s.heardOn_work _ _) (.refl s)
  · exact .refl s

theorem State.takeReassignFrame_work (s : State) (origin : Nat) (p : ReassignPayload) :
    Work steady s (s.takeReassignFrame origin p).1 := by
  have accept : Work steady s (s.acceptReassign origin p) :=
    .alarmThen ((State.mapSchedules_work _ _).trans (.ite (State.musterReview_work _) (.refl _)))
  unfold State.takeReassignFrame
  split
  · split
    · split
      · exact accept
      · split
        · exact accept
        · exact .refl s
    · dsimp only
      exact .alarm_same
  · exact .refl s

theorem State.hearReassign_work (s : State) (p : Port) (r : ReassignPayload) :
    Work steady s (s.hearReassign p r) := by
  unfold State.hearReassign
  split
  · exact .ite (s.heardOn_work _ _) (.refl s)
  · exact .refl s

/-! ### Solicits, indicator edges and the status responder (chapters 11 and 12) -/

theorem State.takeSolicit_work (s : State) (p : Port) : Work steady s (s.takeSolicit p) := by
  unfold State.takeSolicit
  refine .ite ?_ (.refl s)
  split
  · exact .refl s
  · exact .start s _ ⟨rfl, rfl, rfl, rfl⟩

theorem State.respond_work (s : State) (p : Port) (marked : Bool) (cls : FrameClass) (key : QueueKey)
    (origin : Nat) (payload : List Byte) :
    Work steady s (s.respond p marked cls key origin payload) :=
  .ite (.start s _ ⟨rfl, rfl, rfl, rfl⟩) (.request s _ _ _ _)

theorem State.responseEnds_work (s : State) (p : Port) : Work steady s (s.responseEnds p) := by
  unfold State.responseEnds
  split
  · exact .refl s
  · refine .ite ?_ (.refl s)
    refine Work.trans ?_ (State.requestToken_work _ _ _)
    refine Work.trans ?_ (Work.foldl (fun t r => t.respond_work _ _ _ _ _ _) _ _)
    refine Work.trans ?_ (Work.foldl (fun t r => t.respond_work _ _ _ _ _ _) _ _)
    refine .trans (.schedules s (s.start.schedules.put p none)) ?_
    unfold State.respondAlarm
    split
    · exact State.respond_work _ _ _ _ _ _ _
    · exact .refl _

theorem State.blinkEdges_work (s : State) : Work steady s s.blinkEdges := by
  refine .ite (.refl s) (.trans ?_ (.panel _ _ (PanelCtl.blinkPhase_work _ _)))
  exact .ind s _ fun _ => rfl

theorem State.takeQuery_work (s : State) (p : Port) (q : QueryPayload) :
    Work steady s (s.takeQuery p q) := by
  have counted (t : State) : Work steady t
      { t with status := { t.status with queriesAnswered := bump t.status.queriesAnswered } } :=
    .aside (by intro b hb; cases b <;> first | rfl | exact absurd (by decide) hb)
  have read : Work steady s (s.readsWindow q.item) :=
    .ite (.panel s _ (PanelCtl.pruneWindow_work _ _)) (.refl s)
  unfold State.takeQuery
  exact .ite ((read.trans (State.requestOwn_work _ _ _ _ _)).trans (counted _)) (.refl s)

/-! ### Received frames (R155, R156) -/

theorem State.countReceived_work (s : State) (p : Port) : Work steady s (s.countReceived p) :=
  .port s p _ (.of_queue rfl rfl rfl)

/-- What the owning block makes of a frame; an ALARM frame alone may move levels. -/
theorem classHandler_work {p : Port} {cls : FrameClass} {f : RxFrame} {h : State → State}
    (hh : classHandler p cls f = some h) (other : cls ≠ .alarm) (s : State) : Work steady s (h s) := by
  cases cls <;> simp only [classHandler, Option.map_eq_some_iff] at hh
  case alarm => exact absurd rfl other
  case zone =>
    obtain ⟨z, -, rfl⟩ := hh
    exact ((s.takeZoneFrame_work _ _).trans (State.hearZone_work _ _ _ _)).trans
      (State.relay_work _ _ _ _ _)
  case reassign =>
    obtain ⟨r, -, rfl⟩ := hh
    exact ((s.takeReassignFrame_work _ _).trans (State.hearReassign_work _ _ _)).trans
      (State.relay_work _ _ _ _ _)
  case sweep =>
    obtain ⟨w, -, rfl⟩ := hh
    exact s.takeSweep_work _
  case advert =>
    obtain ⟨entries, -, rfl⟩ := hh
    exact s.takeAdvert_work _ _ _
  case beacon =>
    obtain ⟨b, -, rfl⟩ := hh
    exact s.takeBeacon_work _ _
  case solicit =>
    split at hh
    · cases hh
      exact s.takeSolicit_work _
    · cases hh
  case service =>
    split at hh
    · cases hh
      exact .refl s
    · cases hh
  case cabin =>
    obtain ⟨c, -, rfl⟩ := hh
    exact s.takeCabin_work _
  case status =>
    split at hh
    · cases hh
      exact .refl s
    · cases hh
  case query =>
    obtain ⟨q, -, rfl⟩ := hh
    exact s.takeQuery_work _ _
  case item =>
    obtain ⟨i, -, rfl⟩ := hh
    exact (s.takeItemFrame_work _).trans (State.relay_work _ _ _ _ _)
  case withdraw =>
    obtain ⟨w, -, rfl⟩ := hh
    exact (s.takeWithdrawFrame_work _).trans (State.relay_work _ _ _ _ _)

end

end Sys2Proof.Machine

/-! ### What every work keeps -/

namespace Sys2Proof.Machine

/-! ### The end of a page selector event -/

theorem State.handOver_panel_work {steady : Bool} (s : State) (cause : PageCause) :
    s.panel.Work steady s.panelEnv (s.handOver cause).panel := by
  unfold State.handOver
  dsimp only
  split
  · exact PanelCtl.takePageChange_work _ _ _ _
  · split
    · exact PanelCtl.takePageChange_work _ _ _ _
    · split
      · exact .refl _ _
      · exact PanelCtl.takeFieldChange_work _ _ _

theorem State.finishPage_panel_work {steady : Bool} (s : State) (positionSet : Bool) (cause : PageCause) :
    s.panel.Work steady s.panelEnv (s.finishPage positionSet cause).panel :=
  State.handOver_panel_work (s.pageDo (fun p => p.select s.arbiter s.dwellFrom positionSet)) cause

theorem PageSelector.select_level (p : PageSelector) (chosen : Page) (u : Nat) (set : Bool) :
    (p.select chosen u set).level = p.level := by
  unfold select
  split
  · split <;> rfl
  · rfl

theorem State.finishPage_level (s : State) (positionSet : Bool) (cause : PageCause) :
    (s.finishPage positionSet cause).page.level = s.page.level := by
  unfold State.finishPage
  obtain ⟨n, handed⟩ := State.handOver_page
    (s.pageDo (fun p => p.select s.arbiter s.dwellFrom positionSet)) cause
  rw [handed]
  exact s.page.select_level _ _ _

/-- What one event of the page selector leaves alone, and what it keeps of the panel controller. -/
theorem State.pageEvent_keeps {steady : Bool} {s t : State} {f : PageSelector → PageSelector}
    (level : steady = true → (f s.page).level = s.page.level) (positionSet : Bool) (cause : PageCause)
    (told : t = s.pageDo f ∨ ∃ g : PanelEnv → PanelCtl → PanelCtl,
      t = (s.pageDo f).panelDo g ∧ s.panel.Work steady s.panelEnv (g s.panelEnv s.panel)) :
    OnlyChanges [.page, .panel] s (t.finishPage positionSet cause) ∧
      s.panel.Work steady s.panelEnv (t.finishPage positionSet cause).panel ∧
      (steady = true → (t.finishPage positionSet cause).page.level = s.page.level) := by
  have ends := t.finishPage_changes positionSet cause
  have panel := t.finishPage_panel_work (steady := steady) positionSet cause
  have keeps := t.finishPage_level positionSet cause
  rcases told with rfl | ⟨g, rfl, worked⟩
  · exact ⟨(s.pageDo_changes f).andThen ends, panel, fun b => keeps.trans (level b)⟩
  · exact ⟨((s.pageDo_changes f).andThen (State.panelDo_changes _ g) (c := [.page, .panel])).trans ends,
      worked.trans panel, fun b => keeps.trans (level b)⟩

/-! ### Clock, commands, lifecycle and panel kind (R95, R169, R173) -/

theorem StartBlock.sameLife.refl (b : StartBlock) : b.sameLife b := ⟨rfl, rfl, rfl, rfl⟩

theorem StartBlock.sameLife.trans {a b c : StartBlock} (h : a.sameLife b) (k : b.sameLife c) :
    a.sameLife c := by
  obtain ⟨life, config, cause, count⟩ := h
  obtain ⟨life', config', cause', count'⟩ := k
  exact ⟨life'.trans life, config'.trans config, cause'.trans cause, count'.trans count⟩

/-- Two states of one node clock, queue of commands, reset history, lifecycle state, configuration and panel
kind. -/
structure SameStanding (s t : State) : Prop where
  clock : t.clock = s.clock
  pending : t.pending = s.pending
  life : s.start.sameLife t.start
  kind : t.panel.kind = s.panel.kind

theorem SameStanding.trans {s t u : State} (h : SameStanding s t) (k : SameStanding t u) :
    SameStanding s u :=
  ⟨k.clock.trans h.clock, k.pending.trans h.pending, h.life.trans k.life, k.kind.trans h.kind⟩

/-- A change outside the clock, the commands, the start block and the panel. -/
theorem OnlyChanges.sameStanding {a : List Block} {s t : State} (h : OnlyChanges a s t)
    (off : Block.within a [.ports, .bus, .time, .alarm, .route, .muster, .prog, .cabin, .trig, .page, .ind,
      .status, .pins] = true := by rfl) : SameStanding s t := by
  have wide := h.widen off
  have start : t.start = s.start := wide .start (by decide)
  have panel : t.panel = s.panel := wide .panel (by decide)
  exact ⟨wide .clock (by decide), wide .pending (by decide), start ▸ .refl _, by rw [panel]⟩

theorem SameStanding.lifecycle {s t : State} (h : SameStanding s t) :
    t.start.lifecycle = s.start.lifecycle := h.life.1

theorem SameStanding.cfg {s t : State} (h : SameStanding s t) : t.cfg = s.cfg := by
  simp only [State.cfg, h.life.2.1]

theorem SameStanding.running {s t : State} (h : SameStanding s t) : t.running = s.running := by
  simp only [State.running, h.lifecycle]

section
variable {steady : Bool} {s t : State}

theorem Work.sameStanding (h : Work steady s t) : SameStanding s t := by
  induction h with
  | refl s => exact (OnlyChanges.refl [] s).sameStanding
  | trans _ _ first second => exact first.trans second
  | aside h => exact h.sameStanding
  | start s f h => exact ⟨rfl, rfl, h, rfl⟩
  | port s p c _ => exact (s.putPort_changes p c).sameStanding
  | request s p cls key content => exact (s.request_changes p cls key content).sameStanding
  | alarm s f _ => exact (s.alarmDo_changes f).sameStanding
  | muster s f _ => exact (s.musterDo_changes f).sameStanding
  | trig s f _ _ => exact (s.trigDo_changes f).sameStanding
  | panel s f h => exact ⟨rfl, rfl, .refl _, h.kind⟩
  | ind s i _ => exact ⟨rfl, rfl, .refl _, rfl⟩
  | page f level set cause told =>
    obtain ⟨only, panel, -⟩ := State.pageEvent_keeps level set cause told
    have start := only .start (by decide)
    exact ⟨only .clock (by decide), only .pending (by decide), start ▸ .refl _, panel.kind⟩

/-! ### Queues and silence (R152, R153, R158) -/

theorem Work.ports_of_same {s t : State} (h : t.ports = s.ports) (p : Port) :
    (s.ports.get p).Work (t.ports.get p) := by
  rw [h]
  exact .of_queue rfl rfl rfl

theorem PortCtl.Work.trans {c d e : PortCtl} (h : c.Work d) (k : d.Work e) : c.Work e :=
  ⟨k.inUse.trans h.inUse, fun law => k.queue (h.queue law), fun quiet => k.silent (h.silent quiet)⟩

/-- A port's work beside another port that stands as it was. -/
theorem PerPort.put_work {v : PerPort PortCtl} {p : Port} {c : PortCtl} (h : (v.get p).Work c) (q : Port) :
    (v.get q).Work ((v.put p c).get q) := by
  by_cases same : q = p
  · rw [same, PerPort.get_put_same]
    exact h
  · rw [PerPort.get_put_other _ _ _ _ same]
    exact .of_queue rfl rfl rfl

theorem Work.queueLaw_get (h : Work steady s t) (p : Port) :
    (t.ports.get p).inUse = (s.ports.get p).inUse ∧
      ((s.ports.get p).queueLaw → (t.ports.get p).queueLaw) := by
  have of_work {u v : State} (w : (u.ports.get p).Work (v.ports.get p)) :
      (v.ports.get p).inUse = (u.ports.get p).inUse ∧
        ((u.ports.get p).queueLaw → (v.ports.get p).queueLaw) := ⟨w.inUse, w.queue⟩
  induction h with
  | refl s => exact ⟨rfl, fun law => law⟩
  | trans _ _ first second => exact ⟨second.1.trans first.1, fun law => second.2 (first.2 law)⟩
  | aside h => exact of_work (ports_of_same (h .ports (by decide)) p)
  | start | alarm | muster | trig | panel | ind => exact ⟨rfl, fun law => law⟩
  | port s q c h => exact of_work (PerPort.put_work h p)
  | request s q cls key content =>
    have line := s.request_sameFaultSide q cls key content
    refine ⟨(line.ports p).1, fun law => ?_⟩
    rcases s.request_cases q cls key content with ⟨-, e⟩ | ⟨-, -, -, e⟩ | ⟨-, -, -, e⟩ <;> rw [e]
    · exact law
    · refine (PerPort.put_work (v := s.ports) ?_ p).queue law
      exact .of_queue rfl rfl rfl
    · by_cases same : p = q
      · subst same
        rw [State.putPort_ports, PerPort.get_put_same]
        exact PortCtl.join_queueLaw law cls key content
      · rwa [State.putPort_ports, PerPort.get_put_other _ _ _ _ same]
  | page f level set cause told =>
    obtain ⟨only, -, -⟩ := State.pageEvent_keeps level set cause told
    exact of_work (ports_of_same (only .ports (by decide)) p)

/-- Outside OPERATING no request is taken, and a port's own work keeps its silence. -/
theorem Work.silent_get (h : Work steady s t) (off : s.start.lifecycle ≠ .operating) (p : Port)
    (quiet : (s.ports.get p).queue = [] ∧ (s.ports.get p).inFlight = none) :
    (t.ports.get p).queue = [] ∧ (t.ports.get p).inFlight = none := by
  induction h with
  | refl s => exact quiet
  | trans first _ ih ih' => exact ih' (first.sameStanding.lifecycle ▸ off) (ih off quiet)
  | aside h => exact (ports_of_same (h .ports (by decide)) p).silent quiet
  | start | alarm | muster | trig | panel | ind => exact quiet
  | port s q c h => exact (PerPort.put_work h p).silent quiet
  | request s q cls key content => rwa [State.request_of_off cls key content (.inr off)]
  | page f level set cause told =>
    obtain ⟨only, -, -⟩ := State.pageEvent_keeps level set cause told
    exact (ports_of_same (only .ports (by decide)) p).silent quiet

theorem Work.queueLaw (h : Work steady s t) (law : s.queueLaw) : t.queueLaw :=
  ⟨(h.queueLaw_get .a).2 law.1, (h.queueLaw_get .b).2 law.2⟩

theorem Work.silenceLaw (h : Work steady s t) (law : s.silenceLaw) : t.silenceLaw := by
  intro off
  have off : s.start.lifecycle ≠ .operating := h.sameStanding.lifecycle ▸ off
  obtain ⟨queueA, queueB, flightA, flightB⟩ := law off
  obtain ⟨queueA, flightA⟩ := h.silent_get off .a ⟨queueA, flightA⟩
  obtain ⟨queueB, flightB⟩ := h.silent_get off .b ⟨queueB, flightB⟩
  exact ⟨queueA, queueB, flightA, flightB⟩

/-! ### The window list (R142) -/

theorem PanelCtl.windowBound_congr {d e : PanelEnv} {p q : PanelCtl} (cfg : d.cfg = e.cfg)
    (now : d.now = e.now) (window : p.window = q.window) (bound : p.windowBound d) : q.windowBound e := by
  rwa [windowBound, countingEntries, ← cfg, ← now, ← window]

theorem SameStanding.windowBound {s t : State} (h : SameStanding s t) {p : PanelCtl}
    (bound : p.windowBound s.panelEnv) : p.windowBound t.panelEnv :=
  PanelCtl.windowBound_congr (by simp [State.panelEnv, State.panelCfg, h.cfg]) h.clock.symm rfl bound

theorem Work.windowBound (h : Work steady s t) (bound : s.panel.windowBound s.panelEnv) :
    t.panel.windowBound t.panelEnv := by
  have standing := h.sameStanding
  have same {u v : State} (k : SameStanding u v) (panel : v.panel = u.panel)
      (b : u.panel.windowBound u.panelEnv) : v.panel.windowBound v.panelEnv := k.windowBound (panel ▸ b)
  induction h with
  | refl s => exact bound
  | trans first second ih ih' =>
    exact ih' (ih bound first.sameStanding) second.sameStanding
  | aside h => exact same standing (h .panel (by decide)) bound
  | request s p cls key content =>
    exact same standing (s.request_changes p cls key content .panel (by decide)) bound
  | start | port | alarm | muster | trig | ind => exact same standing rfl bound
  | panel s f h => exact standing.windowBound (h.window bound)
  | page f level set cause told =>
    obtain ⟨-, panel, -⟩ := State.pageEvent_keeps level set cause told
    exact standing.windowBound (panel.window bound)

/-! ### Normal-only sets and the arbiter's page (R111, R121) -/

theorem Work.trig_lawful (h : Work steady s t) (law : s.trig.lawful) : t.trig.lawful := by
  induction h with
  | refl s => exact law
  | trans _ _ ih ih' => exact ih' (ih law)
  | aside h => exact (h .trig (by decide) : _ = _) ▸ law
  | request s p cls key content => exact (s.request_changes p cls key content .trig (by decide) : _ = _) ▸ law
  | start | port | alarm | muster | panel | ind => exact law
  | trig s f _ lawful => exact lawful law
  | page f level set cause told =>
    obtain ⟨only, -, -⟩ := State.pageEvent_keeps level set cause told
    exact (only .trig (by decide) : _ = _) ▸ law

/-- The arbiter reads the lifecycle, the role and the page selector. -/
theorem State.pageLaw_congr {s t : State} (page : t.page = s.page) (running : t.running = s.running)
    (cfg : t.cfg = s.cfg) (law : s.pageLaw) : t.pageLaw := by
  have arbiter : t.arbiter = s.arbiter := by simp only [State.arbiter, page, running, cfg]
  rwa [State.pageLaw, page, arbiter]

theorem Work.pageLaw (h : Work steady s t) (law : s.pageLaw) : t.pageLaw := by
  have standing := h.sameStanding
  have same {u v : State} (k : SameStanding u v) (page : v.page = u.page) (l : u.pageLaw) : v.pageLaw :=
    State.pageLaw_congr page k.running k.cfg l
  induction h with
  | refl s => exact law
  | trans first second ih ih' => exact ih' (ih law first.sameStanding) second.sameStanding
  | aside h => exact same standing (h .page (by decide)) law
  | request s p cls key content =>
    exact same standing (s.request_changes p cls key content .page (by decide)) law
  | start | port | alarm | muster | trig | panel | ind => exact same standing rfl law
  | page f level set cause told => exact (State.finishPage_shown _ set cause).1

/-! ### Levels in use (R29, R47) -/

/-- Two states that agree on the alarm record, every level in use and the muster kind. -/
structure SameLevels (s t : State) : Prop where
  epoch : t.alarm.epoch = s.alarm.epoch
  alarm : t.alarm.level = s.alarm.level
  page : t.page.level = s.page.level
  panel : t.panel.level = s.panel.level
  trig : t.trig.level = s.trig.level
  ind : t.ind.level = s.ind.level
  muster : t.muster.kind = s.muster.kind

theorem SameLevels.refl (s : State) : SameLevels s s := ⟨rfl, rfl, rfl, rfl, rfl, rfl, rfl⟩

theorem SameLevels.trans {s t u : State} (h : SameLevels s t) (k : SameLevels t u) : SameLevels s u :=
  ⟨k.epoch.trans h.epoch, k.alarm.trans h.alarm, k.page.trans h.page, k.panel.trans h.panel,
    k.trig.trans h.trig, k.ind.trans h.ind, k.muster.trans h.muster⟩

/-- A change outside the blocks that hold a level. -/
theorem OnlyChanges.sameLevels {a : List Block} {s t : State} (h : OnlyChanges a s t)
    (off : Block.within a [.clock, .start, .ports, .bus, .time, .route, .prog, .cabin, .status, .pins,
      .pending] = true := by rfl) : SameLevels s t := by
  have wide := h.widen off
  have alarm : t.alarm = s.alarm := wide .alarm (by decide)
  have page : t.page = s.page := wide .page (by decide)
  have panel : t.panel = s.panel := wide .panel (by decide)
  have trig : t.trig = s.trig := wide .trig (by decide)
  have ind : t.ind = s.ind := wide .ind (by decide)
  have muster : t.muster = s.muster := wide .muster (by decide)
  exact ⟨by rw [alarm], by rw [alarm], by rw [page], by rw [panel], by rw [trig], by rw [ind], by rw [muster]⟩

theorem Work.sameLevels (h : Work true s t) : SameLevels s t := by
  induction h with
  | refl s => exact .refl s
  | trans _ _ first second => exact first.trans second
  | aside h => exact h.sameLevels
  | start s f _ => exact (s.startDo_changes f).sameLevels
  | port s p c _ => exact (s.putPort_changes p c).sameLevels
  | request s p cls key content => exact (s.request_changes p cls key content).sameLevels
  | alarm s f h => exact ⟨(h rfl).1, (h rfl).2, rfl, rfl, rfl, rfl, rfl⟩
  | muster s f h => exact ⟨rfl, rfl, rfl, rfl, rfl, rfl, h rfl⟩
  | trig s f level _ => exact ⟨rfl, rfl, rfl, rfl, level rfl, rfl, rfl⟩
  | panel s f h => exact ⟨rfl, rfl, rfl, h.level rfl, rfl, rfl, rfl⟩
  | ind s i h => exact ⟨rfl, rfl, rfl, rfl, rfl, h rfl, rfl⟩
  | page f level set cause told =>
    obtain ⟨only, panel, keeps⟩ := State.pageEvent_keeps level set cause told
    have alarm := only .alarm (by decide)
    have trig := only .trig (by decide)
    have ind := only .ind (by decide)
    have muster := only .muster (by decide)
    simp only [State.sameAt] at alarm trig ind muster
    exact ⟨by rw [alarm], by rw [alarm], keeps rfl, panel.level rfl, by rw [trig], by rw [ind],
      by rw [muster]⟩

end

end Sys2Proof.Machine

/-! ### Alarm changes: every level in use follows the held level (R34) -/

namespace Sys2Proof.Machine

section
variable {steady : Bool}

theorem State.takeMuster_rest (s : State) (m : MusterSelector) :
    Work steady (s.musterDo fun _ => m) (s.takeMuster m) := by
  unfold State.takeMuster
  exact .ite (.refl _) ((State.pageNotice_work _ _).trans
    (.panel _ _ (PanelCtl.takeUrgency_work _ _)))

theorem State.freshSelection_kind (s : State) (after : Level) :
    (s.freshSelection after).kind = musterKindFor after := by
  cases after <;> rfl

theorem suspendSet_lawful {after : Level} (emergency : after.emergency = true) (x : TriggerSet) :
    (suspendSet after x).cfg.normalOnly = true → (suspendSet after x).state ≠ .enabled := by
  unfold suspendSet
  rw [if_pos emergency]
  split
  · exact fun _ on => nomatch on
  · rename_i kept
    exact fun normalOnly enabled => kept ⟨enabled, normalOnly⟩

/-- The trigger unit's level, counters and sets of an alarm notice (R111 step 1). -/
def TriggerUnit.suspends (after : Level) (u : TriggerUnit) : TriggerUnit :=
  { u with
    level := after
    suspensions := bumpBy u.suspensions (suspensionCount after u.sets)
    sets := u.sets.map (suspendSet after) }

theorem TriggerUnit.suspends_lawful (after : Level) (u : TriggerUnit) : (u.suspends after).lawful := by
  intro emergency x hx
  obtain ⟨y, -, rfl⟩ := List.mem_map.mp hx
  exact suspendSet_lawful emergency y

theorem State.triggerTakesAlarm_rest (s : State) (before after : Level) :
    Work steady (s.trigDo (TriggerUnit.suspends after)) (s.triggerTakesAlarm before after) := by
  unfold State.triggerTakesAlarm
  exact .ite (.refl _) (State.cascade_work _ _)

theorem State.musterTakesAlarm_work (s : State) (after : Level) :
    Work false s (s.musterTakesAlarm after) :=
  (Work.muster s _ (by simp)).trans (s.takeMuster_rest _)

theorem State.triggerTakesAlarm_work (s : State) (before after : Level) :
    Work false s (s.triggerTakesAlarm before after) :=
  (Work.trig s _ (by simp) fun _ => TriggerUnit.suspends_lawful after _).trans
    (s.triggerTakesAlarm_rest before after)

theorem State.indicatorTakes_work (s : State) (level : Level) : Work false s (s.indicatorTakes level) :=
  .ind s _ (by simp)

theorem State.pageTakesAlarm_work (s : State) (after : Level) : Work false s (s.pageTakesAlarm after) :=
  .page _ (by simp) false .alarm (.inl rfl)

theorem State.alarmNotice_work (s : State) (before after : Level) (event : SweepEvent) :
    Work false s (s.alarmNotice before after event) := by
  have told (u : State) : Work false u ((u.indicatorTakes after).pageTakesAlarm after) :=
    (u.indicatorTakes_work after).trans (State.pageTakesAlarm_work _ after)
  have running (u : State) : Work false u ((((((u.cabinTakesAlarm event).musterTakesAlarm
      after).triggerTakesAlarm before after).panelDo
      (fun e p => p.takeAlarm e before after)).indicatorTakes after).pageTakesAlarm after) :=
    ((((State.cabinTakesAlarm_work u event).trans (State.musterTakesAlarm_work _ _)).trans
      (State.triggerTakesAlarm_work _ _ _)).trans
      (.panel _ _ (PanelCtl.takeAlarm_work _ _ _ _).1)).trans (told _)
  have evaluated : Work false s (if before.emergency = after.emergency then s else s.reevaluateAllEvent) :=
    .ite (.refl s) s.reevaluateAllEvent_work
  unfold State.alarmNotice
  split
  · exact .refl s
  · exact told s
  · exact evaluated.trans (running _)
  · exact evaluated.trans (running _)

/-- The held record after a change (R31, R35). -/
def AlarmUnit.changed (u : AlarmUnit) (origin : Nat) (p : AlarmPayload) (now : Nat) (newEpoch : Bool) :
    AlarmUnit :=
  { u with
    epoch := some p.epoch
    level := p.level
    origin := origin
    changedAt := some now
    reassignments := if newEpoch then [] else u.reassignments }

theorem State.changeAlarm_rest (s : State) (origin : Nat) (p : AlarmPayload) (newEpoch : Bool) :
    Work steady (s.alarmDo fun u => u.changed origin p s.clock newEpoch) (s.changeAlarm origin p newEpoch) :=
  State.mapSchedules_work _ _

theorem State.acceptAlarm_work (s : State) (origin : Nat) (p : AlarmPayload) (newEpoch : Bool) :
    Work false s (s.acceptAlarm origin p newEpoch) :=
  ((Work.alarm s _ (by simp)).trans (s.changeAlarm_rest origin p newEpoch)).trans
    (State.alarmNotice_work _ _ _ _)

/-- What an ALARM frame does at a node outside LOADING, by its verdict (R31). -/
theorem State.takeAlarmFrame_cases (s : State) (origin : Nat) (p : AlarmPayload) :
    OnlyChanges [.alarm] s (s.takeAlarmFrame origin p).1 ∧
        (∃ n, (s.takeAlarmFrame origin p).1.alarm = { s.alarm with olderAlarmFrames := n }) ∨
      s.start.lifecycle ≠ .loading ∧ ∃ newEpoch,
        (s.alarm.verdict p = if newEpoch then .newEpoch else .levelRose) ∧
        s.takeAlarmFrame origin p = (s.acceptAlarm origin p newEpoch, true) := by
  unfold State.takeAlarmFrame
  split
  · exact .inl ⟨.refl _ s, s.alarm.olderAlarmFrames, rfl⟩
  · rename_i loaded
    split
    · rename_i v
      exact .inr ⟨loaded, true, v, rfl⟩
    · rename_i v
      exact .inr ⟨loaded, false, v, rfl⟩
    · exact .inl ⟨.refl _ s, s.alarm.olderAlarmFrames, rfl⟩
    · exact .inl ⟨s.alarmDo_changes _, bump s.alarm.olderAlarmFrames, rfl⟩

theorem Work.of_alarm {s t : State} (only : OnlyChanges [.alarm] s t) (alarm : t.alarm.epoch = s.alarm.epoch ∧
    t.alarm.level = s.alarm.level) : Work steady s t := by
  have same : t = s.alarmDo fun _ => t.alarm := by
    have clock : t.clock = s.clock := only .clock (by decide)
    have start : t.start = s.start := only .start (by decide)
    have ports : t.ports = s.ports := only .ports (by decide)
    have bus : t.bus = s.bus := only .bus (by decide)
    have time : t.time = s.time := only .time (by decide)
    have route : t.route = s.route := only .route (by decide)
    have muster : t.muster = s.muster := only .muster (by decide)
    have prog : t.prog = s.prog := only .prog (by decide)
    have cabin : t.cabin = s.cabin := only .cabin (by decide)
    have trig : t.trig = s.trig := only .trig (by decide)
    have page : t.page = s.page := only .page (by decide)
    have panel : t.panel = s.panel := only .panel (by decide)
    have ind : t.ind = s.ind := only .ind (by decide)
    have status : t.status = s.status := only .status (by decide)
    have pins : t.pins = s.pins := only .pins (by decide)
    have pending : t.pending = s.pending := only .pending (by decide)
    cases s
    cases t
    simp only at *
    subst_vars
    rfl
  rw [same]
  exact .alarm s _ fun _ => alarm

theorem State.takeAlarmFrame_work (s : State) (origin : Nat) (p : AlarmPayload) :
    Work false s (s.takeAlarmFrame origin p).1 := by
  rcases s.takeAlarmFrame_cases origin p with ⟨only, n, kept⟩ | ⟨-, newEpoch, -, taken⟩
  · exact .of_alarm only (by rw [kept]; exact ⟨rfl, rfl⟩)
  · rw [taken]
    exact s.acceptAlarm_work origin p newEpoch

/-- What the owning block makes of any frame is a work. -/
theorem classHandler_work_any {p : Port} {cls : FrameClass} {f : RxFrame} {h : State → State}
    (hh : classHandler p cls f = some h) (s : State) : Work false s (h s) := by
  by_cases other : cls = .alarm
  · subst other
    simp only [classHandler, Option.map_eq_some_iff] at hh
    obtain ⟨a, -, rfl⟩ := hh
    exact ((s.takeAlarmFrame_work _ _).trans (State.hearAlarm_work _ _ _)).trans
      (State.relay_work _ _ _ _ _)
  · exact classHandler_work hh other s

/-! ### Received frames and octets (R155) -/

theorem State.lengthError_work (s : State) (p : Port) : Work steady s (s.lengthError p) :=
  (s.busDo_changes _).work.trans (State.noteBad_work _ p)

theorem State.checkError_work (s : State) (p : Port) : Work steady s (s.checkError p) :=
  (s.busDo_changes _).work.trans (State.noteBad_work _ p)

theorem State.unknownClass_work (s : State) (p : Port) : Work steady s (s.unknownClass p) :=
  (s.busDo_changes _).work.trans (State.noteGood_work _ p)

end

/-- What a frame does before its owning block has it: counters, and the state of a port that was DOWN. -/
abbrev Tested (s t : State) : Prop := Work true s t ∧ OnlyChanges [.ports, .bus, .ind] s t

/-- A frame on a port is tested alone, or passes the tests and is handed to its owning block. -/
theorem State.receiveFrame_cases (s : State) (p : Port) (cls : FrameClass) (f : RxFrame) :
    Tested s (s.receiveFrame p cls f) ∨
      ∃ u h, Tested s u ∧ classHandler p cls f = some h ∧ s.receiveFrame p cls f = h u := by
  have good : Tested s (s.noteGood p) := ⟨s.noteGood_work p, (s.noteGood_changes p).widen⟩
  have bad (u : State) (tested : Tested s u) : Tested s u.malformed :=
    ⟨tested.1.trans (u.busDo_changes _).work, tested.2.trans (u.busDo_changes _).widen⟩
  have counted : Tested s ((s.noteGood p).countReceived p) :=
    ⟨good.1.trans (State.countReceived_work _ p), good.2.trans (State.countReceived_changes _ p).widen⟩
  unfold State.receiveFrame State.takeFrame
  split
  · exact .inl ⟨.refl s, .refl _ s⟩
  · split
    · exact .inl ⟨s.lengthError_work p, (s.lengthError_changes p).widen⟩
    · split
      · exact .inl good
      · split
        · split
          · rename_i h hh
            exact .inr ⟨_, h, counted, hh, rfl⟩
          · exact .inl (bad _ good)
        · exact .inl (bad _ good)

/-- Octets on a port fail a test of the line, or stand for a frame. -/
theorem State.receiveOctets_cases (s : State) (p : Port) (octets : List Byte) :
    Tested s (s.receiveOctets p octets) ∨
      ∃ cls f, s.receiveOctets p octets = s.receiveFrame p cls f := by
  unfold State.receiveOctets
  split
  · exact .inl ⟨.refl s, .refl _ s⟩
  · split
    · exact .inl ⟨s.lengthError_work p, (s.lengthError_changes p).widen⟩
    · exact .inl ⟨s.checkError_work p, ((s.busDo_changes _).andThen (State.noteBad_changes _ p))⟩
    · exact .inl ⟨s.unknownClass_work p, ((s.busDo_changes _).andThen (State.noteGood_changes _ p))⟩
    · rename_i cls f _
      exact .inr ⟨cls, f, rfl⟩

end Sys2Proof.Machine

/-! ### Lifecycle moves, and the commands of the table one by one -/

namespace Sys2Proof.Machine

/-! ### Levels of an alarm notice (R34, R47) -/

/-- The page selector's own part of an alarm notice (R120, R124). -/
def PageSelector.takesLevel (after : Level) (p : PageSelector) : PageSelector :=
  if after.emergency then { p with level := after }.endSpotlight else { p with level := after }

theorem PageSelector.takesLevel_level (after : Level) (p : PageSelector) :
    (p.takesLevel after).level = after := by
  unfold takesLevel
  split <;> rfl

theorem State.pageTakesAlarm_rest {steady : Bool} (s : State) (after : Level) :
    Work steady (s.pageDo (PageSelector.takesLevel after)) (s.pageTakesAlarm after) :=
  State.finishPage_work _ _ _

/-- The alarm notice at the indicator unit and the page selector moves their levels alone. -/
theorem State.indicatorPage_levels (s : State) (after : Level) :
    let t := (s.indicatorTakes after).pageTakesAlarm after
    t.page.level = after ∧ t.ind.level = after ∧ t.alarm = s.alarm ∧ t.panel.level = s.panel.level ∧
      t.trig.level = s.trig.level ∧ t.muster.kind = s.muster.kind := by
  have rest := ((s.indicatorTakes after).pageTakesAlarm_rest after (steady := true)).sameLevels
  have alarm : ((s.indicatorTakes after).pageTakesAlarm after).alarm = s.alarm :=
    ((State.indicatorTakes_changes s after).andThen (State.pageTakesAlarm_changes _ after)
      (c := [.ind, .page, .panel])) .alarm (by decide)
  exact ⟨rest.page.trans (PageSelector.takesLevel_level after _), rest.ind, alarm, rest.panel, rest.trig,
    rest.muster⟩

/-- At a running node every block has the new level in use after the notice, and the muster kind is the one it
calls for. -/
theorem State.alarmNotice_levels {s : State} (running : s.running = true) (before after : Level)
    (event : SweepEvent) :
    let t := s.alarmNotice before after event
    t.page.level = after ∧ t.ind.level = after ∧ t.panel.level = after ∧ t.trig.level = after ∧
      t.muster.kind = musterKindFor after := by
  have chain (u : State) :
      let t := (((((u.cabinTakesAlarm event).musterTakesAlarm after).triggerTakesAlarm before after).panelDo
        (fun e p => p.takeAlarm e before after)).indicatorTakes after).pageTakesAlarm after
      t.page.level = after ∧ t.ind.level = after ∧ t.panel.level = after ∧ t.trig.level = after ∧
        t.muster.kind = musterKindFor after := by
    generalize u.cabinTakesAlarm event = c
    have selected := (c.takeMuster_rest (c.freshSelection after) (steady := true)).sameLevels
    have suspended :=
      ((c.musterTakesAlarm after).triggerTakesAlarm_rest before after (steady := true)).sameLevels
    generalize hd : ((c.musterTakesAlarm after).triggerTakesAlarm before after) = d at suspended
    obtain ⟨page, ind, -, panel, trig, muster⟩ :=
      (d.panelDo (fun e p => p.takeAlarm e before after)).indicatorPage_levels after
    exact ⟨page, ind, panel.trans (PanelCtl.takeAlarm_work _ _ _ _).2, trig.trans suspended.trig,
      muster.trans (suspended.muster.trans (selected.muster.trans (c.freshSelection_kind after)))⟩
  unfold State.alarmNotice
  split
  · rename_i loading
    rw [State.running, loading] at running
    exact nomatch running
  · rename_i fault
    rw [State.running, fault] at running
    exact nomatch running
  · exact chain _
  · exact chain _

/-! ### Lifecycle moves (R170 to R173) -/

/-- The start block on entry to LISTENING (R172, R173). -/
def StartBlock.listens (config : ConfigCopy) (clamps clock : Nat) (b : StartBlock) : StartBlock :=
  { b with
    lifecycle := .listening
    config := some config
    configGood := some true
    clamped := b.clamped || decide (0 < clamps)
    clamps := bumpBy b.clamps clamps
    listenDeadline := some (clock + config.listenPeriod * 1000) }

/-- The start block on entry to CONFIG_FAULT (R171). -/
def StartBlock.faults (checkGood : Bool) (b : StartBlock) : StartBlock :=
  { b with lifecycle := .configFault, configGood := some checkGood }

/-- The start block on entry to OPERATING (R173). -/
def StartBlock.operates (b : StartBlock) : StartBlock :=
  { b with lifecycle := .operating, listenDeadline := none }

/-- A state whose ports differ in their use and bit rate alone. -/
structure PortsUsed (s t : State) : Prop where
  only : OnlyChanges [.ports] s t
  queue : ∀ p, (t.ports.get p).queue = (s.ports.get p).queue
  inFlight : ∀ p, (t.ports.get p).inFlight = (s.ports.get p).inFlight

theorem State.usePort_used (s : State) (p : Port) (rate : BitRate) : PortsUsed s (s.usePort p rate) := by
  refine ⟨s.putPort_changes p _, fun q => ?_, fun q => ?_⟩ <;> cases p <;> cases q <;> rfl

theorem PortsUsed.trans {s t u : State} (h : PortsUsed s t) (k : PortsUsed t u) : PortsUsed s u :=
  ⟨h.only.trans k.only, fun p => (k.queue p).trans (h.queue p), fun p => (k.inFlight p).trans (h.inFlight p)⟩

theorem State.portsEnterListening_used (s : State) : PortsUsed s s.portsEnterListening := by
  unfold State.portsEnterListening
  dsimp only
  split
  · exact (s.usePort_used .a _).trans (State.usePort_used _ .b _)
  · exact s.usePort_used .a _

theorem State.cabinEntersListening_work {steady : Bool} (s : State) : Work steady s s.cabinEntersListening :=
  s.cabinDo_work _

theorem PanelCtl.enterListening_work {steady : Bool} (e : PanelEnv) (p : PanelCtl) :
    p.Work steady e (p.enterListening e) := .before (PanelCtl.retarget_work _ _) ⟨rfl, rfl, rfl⟩

/-- Entry to LISTENING as works around the ports' use and the trigger sets. -/
theorem State.entersListening_parts (s : State) (config : ConfigCopy) (clamps : Nat) :
    ∃ u v, PortsUsed (s.startDo (StartBlock.listens config clamps s.clock)) u ∧ Work true u v ∧
      Work true v.triggerEntersListening (s.entersListening config clamps) ∧
      (s.entersListening config clamps).shown := by
  refine ⟨_, _, State.portsEnterListening_used _, (State.routeEntersListening_work _).trans
    (State.cabinEntersListening_work _), ?_, ?_⟩
  · exact (Work.panel _ _ (PanelCtl.enterListening_work _ _)).trans
      (.page _ (fun _ => rfl) false .other (.inl rfl))
  · exact State.finishPage_shown _ _ _

theorem State.updateFault_pageLaw {s : State} (law : s.pageLaw) : s.updateFault.pageLaw :=
  s.updateFault_work (steady := true) |>.pageLaw law

theorem State.entersConfigFault_parts (s : State) (image : List Byte) (checkGood : Bool) :
    ∃ u, PortsUsed (s.startDo (StartBlock.faults checkGood)) u ∧
      Work true u (s.entersConfigFault image checkGood) ∧ (s.entersConfigFault image checkGood).pageLaw := by
  refine ⟨_, State.usePort_used _ .a (faultBitRate image), ?_, ?_⟩
  · exact ((Work.panel _ _ (PanelCtl.enterConfigFault_work _ _)).trans (State.finishPage_work _ _ _)).trans
      (State.updateFault_work _)
  · exact State.updateFault_pageLaw (State.finishPage_shown _ _ _).1

/-- The image read ends without effect, in LISTENING, or in CONFIG_FAULT (R170, R171, R173). -/
theorem State.imageReadEnds_cases (s : State) (image : List Byte) :
    s.imageReadEnds image = s ∨
      s.start.lifecycle = .loading ∧
        ((∃ config clamps, readImage (image.take imageLength) = .good config clamps ∧
            s.imageReadEnds image = s.entersListening config clamps) ∨
          ∃ checkGood, s.imageReadEnds image = s.entersConfigFault image checkGood) := by
  unfold State.imageReadEnds
  split
  · rename_i reads
    refine .inr ⟨reads.1, ?_⟩
    split
    · exact .inr ⟨false, rfl⟩
    · exact .inr ⟨true, rfl⟩
    · rename_i config clamps good
      exact .inl ⟨config, clamps, good, rfl⟩
  · exact .inl rfl

/-- The listen period ends without effect, or in OPERATING (R173). -/
theorem State.listenEnds_cases (s : State) :
    s.listenEnds = s ∨
      s.start.lifecycle = .listening ∧ Work true (s.startDo StartBlock.operates) s.listenEnds := by
  unfold State.listenEnds
  split
  · rename_i ends
    refine .inr ⟨ends.1, ?_⟩
    have solicits := Work.foldl (steady := true) (fun t p => State.requestOwn_work t p .solicit .whole [])
    have tokens := Work.foldl (steady := true) (fun t p => State.requestToken_work t p (.full 1))
    exact ((((solicits _ _).trans (tokens _ _)).trans (State.cabinReport_work _)).trans
      (State.routeDo_work _ _)).trans (State.timeDo_work _ _)
  · exact .inl rfl

/-! ### Every command but a reset -/

/-- The blocks a command other than a reset, a frame, CONFIG_READ_END and LISTEN_PERIOD_END may change. -/
def commandBlocks : Instr → List Block
  | .powerOn _ | .lineReset _ _ | .configReadEnd _ | .listenPeriodEnd => []
  | .alarmFrame .. | .zoneFrame .. | .reassignFrame .. | .sweepFrame .. | .advertFrame ..
  | .beaconFrame .. | .solicitFrame .. | .serviceFrame .. | .cabinFrame .. | .statusFrame ..
  | .queryFrame .. | .itemFrame .. | .withdrawFrame .. | .frameReceiveError .. => [.ports, .bus, .ind]
  | .transmissionStart _ | .sent _ | .arbitrationLost _ => [.route, .ports]
  | .transmitFault _ => [.route, .ports, .ind]
  | .cellExpiry _ _ | .holdDownDeadline _ => [.route, .ports, .muster, .trig, .page, .panel]
  | .flush _ => [.route, .muster, .trig, .page, .panel]
  | .periodicFullRequest | .gapExpiry _ => [.route, .ports]
  | .returnDeadline => [.muster, .page, .panel]
  | .inputLineTransition _ _ => [.cabin, .pins]
  | .debounceDeadline _ => [.cabin, .ports, .trig, .page, .panel]
  | .sourceExpiry _ | .staleDeadline => [.time, .page, .panel]
  | .slewTick | .minuteNotice => [.time, .prog, .trig, .page, .panel]
  | .beaconDeadline => [.time, .ports]
  | .intervalTimerTick _ => [.trig]
  | .intervalTimerExpiry _ => [.trig, .page, .panel]
  | .dwellDeadline | .presenceDeadline => [.page, .panel]
  | .spotlightDeadline => [.prog, .page, .panel]
  | .loadEnd | .gapAnyExpiry | .gapSameExpiry _ | .windowEntryExpiry | .rampTick => [.panel]
  | .panelBusyFall | .panelBusyRise => [.panel, .pins]
  | .refreshTimeout | .busyWatchExpiry | .retryDeadline => [.panel, .ind]
  | .blinkEdge => [.ind, .panel]
  | .responseDeadline _ => [.start, .ports]
  | .abandonLampEdge => [.ind]

/-- How a command other than a reset takes a state: by a work within its blocks, as a frame that passes its
tests, or by a lifecycle move. -/
inductive Taken (c : Instr) (s : State) : State → Prop
  | work {t : State} (done : Work true s t) (only : OnlyChanges (commandBlocks c) s t) : Taken c s t
  | frame {u : State} {p : Port} {cls : FrameClass} {f : RxFrame} {h : State → State} (tested : Tested s u)
      (handled : classHandler p cls f = some h) : Taken c s (h u)
  | image (octets : List Byte) : Taken c s (s.imageReadEnds octets)
  | listen : Taken c s s.listenEnds

theorem State.receiveFrame_taken {c : Instr} {s : State} (p : Port) (cls : FrameClass) (f : RxFrame)
    (blocks : commandBlocks c = [.ports, .bus, .ind] := by rfl) : Taken c s (s.receiveFrame p cls f) := by
  rcases s.receiveFrame_cases p cls f with ⟨done, only⟩ | ⟨u, h, tested, handled, eq⟩
  · exact .work done (blocks ▸ only)
  · exact eq ▸ .frame tested handled

theorem State.receiveOctets_taken {c : Instr} {s : State} (p : Port) (octets : List Byte)
    (blocks : commandBlocks c = [.ports, .bus, .ind] := by rfl) : Taken c s (s.receiveOctets p octets) := by
  rcases s.receiveOctets_cases p octets with ⟨done, only⟩ | ⟨cls, f, eq⟩
  · exact .work done (blocks ▸ only)
  · exact eq ▸ State.receiveFrame_taken p cls f blocks

theorem Taken.ite {c : Instr} {s t : State} {d : Prop} [Decidable d] (done : Work true s t)
    (only : OnlyChanges (commandBlocks c) s t) : Taken c s (if d then t else s) :=
  .work (.ite done (.refl s)) (.ite only (.refl _ s))

/-- A work of the panel controller alone, done or left undone. -/
theorem Taken.panel_ite {c : Instr} {s : State} {d : Prop} [Decidable d] {f : PanelEnv → PanelCtl → PanelCtl}
    (worked : s.panel.Work true s.panelEnv (f s.panelEnv s.panel)) (blocks : commandBlocks c = [.panel] := by rfl) :
    Taken c s (if d then s.panelDo f else s) :=
  .ite (.panel s f worked) (blocks ▸ s.panelDo_changes f)

/-- A work of the panel controller that the indicator unit is told of, done or left undone. -/
theorem Taken.panelFault_ite {c : Instr} {s : State} {d : Prop} [Decidable d]
    {f : PanelEnv → PanelCtl → PanelCtl} (worked : s.panel.Work true s.panelEnv (f s.panelEnv s.panel))
    (blocks : commandBlocks c = [.panel, .ind] := by rfl) :
    Taken c s (if d then (s.panelDo f).updateFault else s) :=
  .ite ((Work.panel s f worked).trans (State.updateFault_work _))
    (blocks ▸ (s.panelDo_changes f).andThen (State.updateFault_changes _))

theorem State.busyPin_work {steady : Bool} (s : State) (high : Bool) : Work steady s (s.busyPin high) :=
  (s.busyPin_changes high).work

theorem PanelCtl.gapSame_work {steady : Bool} (e : PanelEnv) (g : Nat) (p : PanelCtl) :
    p.Work steady e (if p.gapSamePassed e g then p.tryChoice e else p) := by
  split
  · exact p.tryChoice_work e
  · exact .refl e p

theorem State.abandonEdges_work (s : State) : Work true s s.abandonEdges :=
  .ite (.ind s _ fun _ => rfl) (.refl s)

/-- Every command but a reset answers, in one of the ways of `Taken`. -/
theorem exec_taken (c : Instr) (s : State) (between : resets c = false) :
    ∃ t, exec c s = .next t ∧ Taken c s t := by
  cases c with
  | powerOn strap => exact absurd between (by simp [resets])
  | lineReset strap pulse => exact absurd between (by simp [resets])
  | configReadEnd image => exact ⟨_, rfl, .image image⟩
  | listenPeriodEnd => exact ⟨_, rfl, .listen⟩
  | alarmFrame p f => exact ⟨_, rfl, State.receiveFrame_taken p _ f⟩
  | zoneFrame p f => exact ⟨_, rfl, State.receiveFrame_taken p _ f⟩
  | reassignFrame p f => exact ⟨_, rfl, State.receiveFrame_taken p _ f⟩
  | sweepFrame p f => exact ⟨_, rfl, State.receiveFrame_taken p _ f⟩
  | advertFrame p f => exact ⟨_, rfl, State.receiveFrame_taken p _ f⟩
  | beaconFrame p f => exact ⟨_, rfl, State.receiveFrame_taken p _ f⟩
  | solicitFrame p f => exact ⟨_, rfl, State.receiveFrame_taken p _ f⟩
  | serviceFrame p f => exact ⟨_, rfl, State.receiveFrame_taken p _ f⟩
  | cabinFrame p f => exact ⟨_, rfl, State.receiveFrame_taken p _ f⟩
  | statusFrame p f => exact ⟨_, rfl, State.receiveFrame_taken p _ f⟩
  | queryFrame p f => exact ⟨_, rfl, State.receiveFrame_taken p _ f⟩
  | itemFrame p f => exact ⟨_, rfl, State.receiveFrame_taken p _ f⟩
  | withdrawFrame p f => exact ⟨_, rfl, State.receiveFrame_taken p _ f⟩
  | frameReceiveError p octets => exact ⟨_, rfl, State.receiveOctets_taken p octets⟩
  | transmissionStart p =>
    exact ⟨_, rfl, .work (s.startTransmission_work p) (s.startTransmission_changes p)⟩
  | sent p => exact ⟨_, rfl, .work (s.frameSent_work p) (s.frameSent_changes p)⟩
  | arbitrationLost p =>
    exact ⟨_, rfl, .work (s.arbitrationWasLost_work p) (s.arbitrationWasLost_changes p)⟩
  | transmitFault p => exact ⟨_, rfl, .work (s.transmitFaulted_work p) (s.transmitFaulted_changes p)⟩
  | cellExpiry d slot => exact ⟨_, rfl, .work (s.expireCell_work d slot) (s.expireCell_changes d slot)⟩
  | holdDownDeadline d => exact ⟨_, rfl, .work (s.endHoldDown_work d) (s.endHoldDown_changes d)⟩
  | flush d => exact ⟨_, rfl, .work (s.flushEntry_work d) (s.flushEntry_changes d)⟩
  | periodicFullRequest => exact ⟨_, rfl, .work s.periodicFull_work s.periodicFull_changes⟩
  | gapExpiry p => exact ⟨_, rfl, .work (s.gapEnds_work p) (s.gapEnds_changes p)⟩
  | returnDeadline =>
    exact ⟨_, rfl, .ite (s.takeMuster_work _ fun _ => rfl) (s.takeMuster_changes _)⟩
  | inputLineTransition n high =>
    exact ⟨_, rfl, .work (s.lineMoves_changes n high).work (s.lineMoves_changes n high)⟩
  | debounceDeadline n => exact ⟨_, rfl, .work (s.debounceEnds_work n) (s.debounceEnds_changes n)⟩
  | sourceExpiry sender =>
    exact ⟨_, rfl, .work (s.expireSource_work sender) (s.expireSource_changes sender)⟩
  | slewTick => exact ⟨_, rfl, .work s.slewTicks_work s.slewTicks_changes⟩
  | staleDeadline => exact ⟨_, rfl, .work s.becomeStale_work s.becomeStale_changes⟩
  | minuteNotice => exact ⟨_, rfl, .work s.reachMinute_work s.reachMinute_changes⟩
  | beaconDeadline => exact ⟨_, rfl, .work s.beaconDue_work s.beaconDue_changes⟩
  | intervalTimerTick n => exact ⟨_, rfl, .work (s.timerTicks_work n) (s.timerTicks_changes n)⟩
  | intervalTimerExpiry n => exact ⟨_, rfl, .work (s.timerExpires_work n) (s.timerExpires_changes n)⟩
  | dwellDeadline => exact ⟨_, rfl, .ite s.pageDwellEnds_work s.pageDwellEnds_changes⟩
  | spotlightDeadline => exact ⟨_, rfl, .ite s.pageSpotlightEnds_work s.pageSpotlightEnds_changes⟩
  | presenceDeadline => exact ⟨_, rfl, .ite s.pagePresenceEnds_work s.pagePresenceEnds_changes⟩
  | loadEnd => exact ⟨_, rfl, .panel_ite (PanelCtl.endLoad_work _ _)⟩
  | panelBusyFall =>
    refine ⟨_, rfl, .ite (.ite ?_ (s.busyPin_work false)) (.ite ?_ (s.busyPin_changes false).widen)⟩
    · exact (s.busyPin_work false).trans (.panel _ _ (PanelCtl.busyFalls_work _ _))
    · exact (s.busyPin_changes false).andThen (State.panelDo_changes _ _)
  | panelBusyRise =>
    refine ⟨_, rfl, .work (.ite (.refl s) (.ite ?_ (s.busyPin_work true)))
      (.ite (.refl _ s) (.ite ?_ (s.busyPin_changes true).widen))⟩
    · exact (s.busyPin_work true).trans (.panel _ _ (PanelCtl.busyRises_work _ _))
    · exact (s.busyPin_changes true).andThen (State.panelDo_changes _ _)
  | gapAnyExpiry => exact ⟨_, rfl, .panel_ite (PanelCtl.tryChoice_work _ _)⟩
  | gapSameExpiry g => exact ⟨_, rfl, .panel_ite (PanelCtl.gapSame_work _ _ _)⟩
  | windowEntryExpiry =>
    exact ⟨_, rfl, .panel_ite ((PanelCtl.pruneWindow_work _ _).trans (PanelCtl.tryChoice_work _ _))⟩
  | refreshTimeout => exact ⟨_, rfl, .panelFault_ite (PanelCtl.timeOut_work _ _ _)⟩
  | busyWatchExpiry => exact ⟨_, rfl, .panelFault_ite (PanelCtl.timeOut_work _ _ _)⟩
  | retryDeadline => exact ⟨_, rfl, .panelFault_ite (PanelCtl.retry_work _ _)⟩
  | rampTick => exact ⟨_, rfl, .panel_ite (PanelCtl.ramp_work _ _)⟩
  | blinkEdge => exact ⟨_, rfl, .work s.blinkEdges_work s.blinkEdges_changes⟩
  | responseDeadline p => exact ⟨_, rfl, .work (s.responseEnds_work p) (s.responseEnds_changes p)⟩
  | abandonLampEdge => exact ⟨_, rfl, .work s.abandonEdges_work s.abandonEdges_changes⟩

end Sys2Proof.Machine

/-! ### Laws kept by every step: queues, levels, window list, and what stands between resets -/

namespace Sys2Proof.Machine

/-- A law every tick, every reset and every other command keeps, and that does not read the waiting commands, is
kept by every step. -/
theorem step_keeps {P : State → Prop} (tick : ∀ s, P s → P s.tick)
    (pending : ∀ s rest, P s → P { s with pending := rest })
    (reset : ∀ cause n strap pins rest, P (State.afterReset cause n strap pins rest))
    (taken : ∀ c s t, exec c s = .next t → Taken c s t → P s → P t)
    {s t : State} (law : P s) (next : step s = .next t) : P t := by
  unfold step at next
  split at next
  · cases next
    exact tick s law
  · rename_i c rest _
    have held := pending s rest law
    by_cases between : resets c = false
    · obtain ⟨u, ran, how⟩ := exec_taken c { s with pending := rest } between
      cases ran.symm.trans next
      exact taken c _ _ ran how held
    · cases c with
      | powerOn strap =>
        cases next
        exact reset _ _ _ _ _
      | lineReset strap pulse =>
        cases next
        unfold State.lineResets
        split
        · exact reset _ _ _ _ _
        · exact held
      | _ => exact absurd rfl between

/-! ### Queues and silence (R152, R153, R158) -/

theorem PortsUsed.queueLaw {s t : State} (h : PortsUsed s t) (law : s.queueLaw) : t.queueLaw := by
  have kept (p : Port) (held : (s.ports.get p).queueLaw) : (t.ports.get p).queueLaw := by
    rw [PortCtl.queueLaw, h.queue p]
    exact held
  exact ⟨kept .a law.1, kept .b law.2⟩

/-- Nothing is queued and nothing is in flight. -/
def State.still (s : State) : Prop := ∀ p, (s.ports.get p).queue = [] ∧ (s.ports.get p).inFlight = none

theorem State.still_iff (s : State) : s.still ↔
    s.ports.a.queue = [] ∧ s.ports.b.queue = [] ∧ s.ports.a.inFlight = none ∧ s.ports.b.inFlight = none := by
  constructor
  · intro still
    exact ⟨(still .a).1, (still .b).1, (still .a).2, (still .b).2⟩
  · rintro ⟨aq, bq, af, bf⟩ p
    cases p
    · exact ⟨aq, af⟩
    · exact ⟨bq, bf⟩

theorem State.silenceLaw_iff (s : State) : s.silenceLaw ↔ (s.start.lifecycle ≠ .operating → s.still) := by
  rw [State.still_iff]

theorem PortsUsed.still {s t : State} (h : PortsUsed s t) (still : s.still) : t.still := fun p =>
  ⟨(h.queue p).trans (still p).1, (h.inFlight p).trans (still p).2⟩

theorem PortsUsed.start {s t : State} (h : PortsUsed s t) : t.start = s.start := h.only .start (by decide)

theorem Work.still {steady : Bool} {s t : State} (h : Work steady s t) (off : s.start.lifecycle ≠ .operating)
    (still : s.still) : t.still := fun p => h.silent_get off p (still p)

/-- The lifecycle, configuration and reset history of a state after its image is read. -/
theorem State.entersListening_start (s : State) (config : ConfigCopy) (clamps : Nat) :
    (StartBlock.listens config clamps s.clock s.start).sameLife (s.entersListening config clamps).start := by
  obtain ⟨u, v, used, first, second, -⟩ := s.entersListening_parts config clamps
  have sets : SameStanding v v.triggerEntersListening := ⟨rfl, rfl, .refl _, rfl⟩
  have life := ((first.sameStanding.trans sets).trans second.sameStanding).life
  rw [used.start] at life
  exact life

theorem State.entersConfigFault_start (s : State) (image : List Byte) (checkGood : Bool) :
    (StartBlock.faults checkGood s.start).sameLife (s.entersConfigFault image checkGood).start := by
  obtain ⟨u, used, rest, -⟩ := s.entersConfigFault_parts image checkGood
  have life := rest.sameStanding.life
  rw [used.start] at life
  exact life

theorem Taken.queueLaw {c : Instr} {s t : State} (h : Taken c s t) (law : s.queueLaw) : t.queueLaw := by
  cases h with
  | work done _ => exact done.queueLaw law
  | frame tested handled => exact (classHandler_work_any handled _).queueLaw (tested.1.queueLaw law)
  | image octets =>
    rcases s.imageReadEnds_cases octets with same | ⟨-, ⟨config, clamps, -, good⟩ | ⟨checkGood, bad⟩⟩
    · rwa [same]
    · obtain ⟨u, v, used, first, second, -⟩ := s.entersListening_parts config clamps
      rw [good]
      exact second.queueLaw (first.queueLaw (used.queueLaw law))
    · obtain ⟨u, used, rest, -⟩ := s.entersConfigFault_parts octets checkGood
      rw [bad]
      exact rest.queueLaw (used.queueLaw law)
  | listen =>
    rcases s.listenEnds_cases with same | ⟨-, rest⟩
    · rwa [same]
    · exact rest.queueLaw law

theorem Taken.silenceLaw {c : Instr} {s t : State} (h : Taken c s t) (law : s.silenceLaw) : t.silenceLaw := by
  cases h with
  | work done _ => exact done.silenceLaw law
  | frame tested handled => exact (classHandler_work_any handled _).silenceLaw (tested.1.silenceLaw law)
  | image octets =>
    rcases s.imageReadEnds_cases octets with same | ⟨loading, ⟨config, clamps, -, good⟩ | ⟨checkGood, bad⟩⟩
    · rwa [same]
    · have still : s.still := s.silenceLaw_iff.mp law (by simp [loading])
      obtain ⟨u, v, used, first, second, -⟩ := s.entersListening_parts config clamps
      have uLife : u.start.lifecycle ≠ .operating := by
        rw [used.start]
        exact nofun
      have vLife : v.start.lifecycle ≠ .operating := by rwa [first.sameStanding.lifecycle]
      rw [good, State.silenceLaw_iff]
      exact fun _ => second.still vLife (first.still uLife (used.still still))
    · have still : s.still := s.silenceLaw_iff.mp law (by simp [loading])
      obtain ⟨u, used, rest, -⟩ := s.entersConfigFault_parts octets checkGood
      have uLife : u.start.lifecycle ≠ .operating := by
        rw [used.start]
        exact nofun
      rw [bad, State.silenceLaw_iff]
      exact fun _ => rest.still uLife (used.still still)
  | listen =>
    rcases s.listenEnds_cases with same | ⟨-, rest⟩
    · rwa [same]
    · exact fun off => absurd rest.sameStanding.lifecycle off

/-- Settles O12: ticks and resets are direct, and every other command is a work, a frame's work or a lifecycle
move, each of which keeps the queue law of a port and the silence of a node outside OPERATING. -/
theorem queueLawsKept : Obligations.QueueLawsKept := by
  unfold Obligations.QueueLawsKept
  intro s t next
  exact ⟨fun law => step_keeps (P := State.queueLaw) (fun _ h => h) (fun _ _ h => h)
      (fun _ _ _ _ _ => ⟨⟨Nat.zero_le _, .nil, .nil⟩, ⟨Nat.zero_le _, .nil, .nil⟩⟩) (fun _ _ _ _ how h => how.queueLaw h) law next,
    fun law => step_keeps (P := State.silenceLaw) (fun _ h => h) (fun _ _ h => h)
      (fun _ _ _ _ _ _ => ⟨rfl, rfl, rfl, rfl⟩) (fun _ _ _ _ how h => how.silenceLaw h) law next⟩

/-! ### Levels, muster kind, suspended sets and the arbiter's page (R47, R111, R121) -/

/-- The laws of O35 together. -/
structure State.LevelsLawful (s : State) : Prop where
  muster : s.musterLaw
  trigger : s.triggerLaw
  page : s.pageLaw

theorem State.LevelsLawful.lawful {s : State} (law : s.LevelsLawful) : s.trig.lawful := law.trigger.1

/-- Works that move no level keep the laws. -/
theorem Work.levelsLawful {s t : State} (h : Work true s t) (law : s.LevelsLawful) : t.LevelsLawful := by
  obtain ⟨⟨⟨page, ind, running, loading⟩, on, off⟩, ⟨lawful, unset⟩, selected⟩ := law
  have levels := h.sameLevels
  have life := h.sameStanding.lifecycle
  have runs := h.sameStanding.running
  refine ⟨⟨⟨?_, ?_, ?_, ?_⟩, ?_, ?_⟩, ⟨h.trig_lawful lawful, ?_⟩, h.pageLaw selected⟩
  · rw [levels.page, levels.alarm, page]
  · rw [levels.ind, levels.alarm, ind]
  · rw [levels.trig, levels.panel, levels.alarm, runs]
    exact running
  · rw [levels.trig, levels.panel, levels.alarm, life]
    exact loading
  · rw [levels.muster, levels.alarm, runs]
    exact on
  · rw [levels.muster, runs]
    exact off
  · rw [levels.trig, life]
    exact unset

theorem State.acceptAlarm_alarm (s : State) (origin : Nat) (p : AlarmPayload) (newEpoch : Bool) :
    (s.acceptAlarm origin p newEpoch).alarm = s.alarm.changed origin p s.clock newEpoch :=
  State.alarmNotice_changes (s.changeAlarm origin p newEpoch) _ _ _ .alarm (by decide)

theorem State.acceptAlarm_levelsLawful {s : State} (loaded : s.start.lifecycle ≠ .loading) (origin : Nat)
    (p : AlarmPayload) (newEpoch : Bool) (law : s.LevelsLawful) :
    (s.acceptAlarm origin p newEpoch).LevelsLawful := by
  obtain ⟨⟨-, -, off⟩, ⟨lawful, -⟩, selected⟩ := law
  have work := s.acceptAlarm_work origin p newEpoch
  have alarm : (s.acceptAlarm origin p newEpoch).alarm.level = p.level := by rw [s.acceptAlarm_alarm]; rfl
  have life := work.sameStanding.lifecycle
  have runs := work.sameStanding.running
  have changed := (s.changeAlarm_rest origin p newEpoch (steady := true))
  have stillRuns : (s.changeAlarm origin p newEpoch).running = s.running := changed.sameStanding.running
  have stillLife : (s.changeAlarm origin p newEpoch).start.lifecycle = s.start.lifecycle :=
    changed.sameStanding.lifecycle
  have loaded' : (s.acceptAlarm origin p newEpoch).start.lifecycle ≠ .loading := life ▸ loaded
  refine ⟨?_, ⟨work.trig_lawful lawful, fun h => absurd h loaded'⟩, work.pageLaw selected⟩
  by_cases running : s.running = true
  · obtain ⟨page, ind, panel, trig, muster⟩ := State.alarmNotice_levels (stillRuns.trans running)
      s.alarm.level p.level (sweepEventOf newEpoch s.alarm.level p.level)
    change (s.acceptAlarm origin p newEpoch).page.level = _ at page
    change (s.acceptAlarm origin p newEpoch).ind.level = _ at ind
    change (s.acceptAlarm origin p newEpoch).panel.level = _ at panel
    change (s.acceptAlarm origin p newEpoch).trig.level = _ at trig
    change (s.acceptAlarm origin p newEpoch).muster.kind = _ at muster
    rw [State.musterLaw, State.levelLaw, alarm, runs]
    exact ⟨⟨page, ind, fun _ => ⟨trig, panel⟩, fun h => absurd h loaded'⟩, fun _ => muster,
      fun h => by simp [running] at h⟩
  · have fault : s.start.lifecycle = .configFault := by
      cases h : s.start.lifecycle <;> simp_all [State.running, Lifecycle.running]
    have notice : s.acceptAlarm origin p newEpoch =
        ((s.changeAlarm origin p newEpoch).indicatorTakes p.level).pageTakesAlarm p.level := by
      rw [State.acceptAlarm, State.alarmNotice, stillLife, fault]
    obtain ⟨page, ind, -, -, -, muster⟩ := (s.changeAlarm origin p newEpoch).indicatorPage_levels p.level
    rw [← notice] at page ind muster
    rw [State.musterLaw, State.levelLaw, alarm, runs]
    exact ⟨⟨page, ind, fun h => absurd h running, fun h => absurd h loaded'⟩, fun h => absurd h running,
      fun h => muster.trans (changed.sameLevels.muster.trans (off h))⟩

theorem State.takeAlarmFrame_levelsLawful (s : State) (origin : Nat) (p : AlarmPayload)
    (law : s.LevelsLawful) : (s.takeAlarmFrame origin p).1.LevelsLawful := by
  rcases s.takeAlarmFrame_cases origin p with ⟨only, n, kept⟩ | ⟨loaded, newEpoch, -, taken⟩
  · exact (Work.of_alarm only (by rw [kept]; exact ⟨rfl, rfl⟩)).levelsLawful law
  · rw [taken]
    exact State.acceptAlarm_levelsLawful loaded origin p newEpoch law

theorem classHandler_levelsLawful {p : Port} {cls : FrameClass} {f : RxFrame} {h : State → State}
    (hh : classHandler p cls f = some h) {s : State} (law : s.LevelsLawful) : (h s).LevelsLawful := by
  by_cases other : cls = .alarm
  · subst other
    simp only [classHandler, Option.map_eq_some_iff] at hh
    obtain ⟨a, -, rfl⟩ := hh
    exact ((State.hearAlarm_work _ _ _).trans (State.relay_work _ _ _ _ _)).levelsLawful
      (s.takeAlarmFrame_levelsLawful _ _ law)
  · exact (classHandler_work hh other s).levelsLawful law

theorem State.LevelsLawful.of_levels {s t : State} (law : s.LevelsLawful) (levels : SameLevels s t)
    (loading : s.start.lifecycle = .loading) (loaded : t.start.lifecycle ≠ .loading)
    (page : t.pageLaw) : t.LevelsLawful := by
  obtain ⟨⟨⟨pageLevel, ind, -, unset⟩, -, off⟩, -, -⟩ := law
  obtain ⟨alarm, trig, panel⟩ := unset loading
  have kind : s.muster.kind = none := off (by rw [State.running, loading]; rfl)
  have trigSame : t.trig.level = .normal := levels.trig.trans trig
  have alarmSame : t.alarm.level = .normal := levels.alarm.trans alarm
  refine ⟨⟨⟨?_, ?_, ?_, fun h => absurd h loaded⟩, ?_, ?_⟩, ⟨?_, fun h => absurd h loaded⟩, page⟩
  · rw [levels.page, levels.alarm, pageLevel]
  · rw [levels.ind, levels.alarm, ind]
  · rw [levels.trig, levels.panel, levels.alarm, trig, panel, alarm]
    exact fun _ => ⟨rfl, rfl⟩
  · rw [levels.muster, alarmSame, kind]
    exact fun _ => rfl
  · rw [levels.muster, kind]
    exact fun _ => rfl
  · rw [trigSame]
    exact nofun

theorem Taken.levelsLawful {c : Instr} {s t : State} (h : Taken c s t) (law : s.LevelsLawful) :
    t.LevelsLawful := by
  cases h with
  | work done _ => exact done.levelsLawful law
  | frame tested handled => exact classHandler_levelsLawful handled (tested.1.levelsLawful law)
  | image octets =>
    rcases s.imageReadEnds_cases octets with same | ⟨loading, ⟨config, clamps, -, good⟩ | ⟨checkGood, bad⟩⟩
    · rwa [same]
    · obtain ⟨u, v, used, first, second, shown⟩ := s.entersListening_parts config clamps
      have started : SameLevels s (s.startDo (StartBlock.listens config clamps s.clock)) :=
        (s.startDo_changes _).sameLevels
      have sets : SameLevels v v.triggerEntersListening := ⟨rfl, rfl, rfl, rfl, rfl, rfl, rfl⟩
      have levels : SameLevels s (s.entersListening config clamps) :=
        (((started.trans used.only.sameLevels).trans first.sameLevels).trans sets).trans second.sameLevels
      rw [good]
      refine law.of_levels levels loading ?_ shown.1
      rw [(s.entersListening_start config clamps).1]
      exact nofun
    · obtain ⟨u, used, rest, page⟩ := s.entersConfigFault_parts octets checkGood
      have levels : SameLevels s (s.entersConfigFault octets checkGood) :=
        ((s.startDo_changes _).sameLevels.trans used.only.sameLevels).trans rest.sameLevels
      rw [bad]
      refine law.of_levels levels loading ?_ page
      rw [(s.entersConfigFault_start octets checkGood).1]
      exact nofun
  | listen =>
    rcases s.listenEnds_cases with same | ⟨listening, rest⟩
    · rwa [same]
    · refine rest.levelsLawful ?_
      obtain ⟨⟨⟨page, ind, running, -⟩, on, off⟩, ⟨lawful, -⟩, selected⟩ := law
      have runs : (s.startDo StartBlock.operates).running = s.running := by
        simp only [State.running, listening]
        rfl
      exact ⟨⟨⟨page, ind, fun h => running (runs ▸ h), nofun⟩, fun h => on (runs ▸ h),
        fun h => off (runs ▸ h)⟩, ⟨lawful, nofun⟩, State.pageLaw_congr (s := s) rfl runs rfl selected⟩

theorem State.afterReset_levelsLawful (cause : ResetCause) (n : Nat) (strap : PanelKind) (pins : Pins)
    (pending : List Instr) : (State.afterReset cause n strap pins pending).LevelsLawful := by
  refine ⟨⟨⟨rfl, rfl, nofun, fun _ => ⟨rfl, rfl, rfl⟩⟩, nofun, fun _ => rfl⟩, ⟨nofun, fun _ => rfl⟩, ?_⟩
  cases strap <;> rfl

/-- Settles O35: a work moves no level, the alarm notice moves all of them to the new held level in one command,
and every event of the page selector ends on the arbiter's page. -/
theorem levelLawsKept : Obligations.LevelLawsKept := by
  unfold Obligations.LevelLawsKept
  intro s t muster trigger page next
  obtain ⟨muster', trigger', page'⟩ := step_keeps (P := State.LevelsLawful)
    (fun s ⟨m, t, p⟩ => ⟨m, t, State.pageLaw_congr rfl rfl rfl p⟩)
    (fun s rest ⟨m, t, p⟩ => ⟨m, t, State.pageLaw_congr rfl rfl rfl p⟩)
    (fun _ _ _ _ _ => State.afterReset_levelsLawful _ _ _ _ _)
    (fun _ _ _ _ how h => how.levelsLawful h) ⟨muster, trigger, page⟩ next
  exact ⟨muster', trigger', page'⟩

end Sys2Proof.Machine

/-! ### What waits for LISTENING (R173), the window list, and what stands between resets -/

namespace Sys2Proof.Machine

/-! ### Works of a node that does not run -/

section
variable {s : State} (off : s.running = false)
include off

theorem State.lifecycle_of_off : s.start.lifecycle ≠ .operating ∧ s.start.lifecycle ≠ .listening := by
  constructor
  · intro h
    rw [State.running, h] at off
    exact nomatch off
  · intro h
    rw [State.running, h] at off
    exact nomatch off

theorem State.expireCell_off (dest slot : Nat) : s.expireCell dest slot = s := by
  unfold State.expireCell
  split
  · rfl
  · split
    · rfl
    · simp [off]

theorem State.endHoldDown_off (dest : Nat) : s.endHoldDown dest = s := by
  unfold State.endHoldDown
  split
  · rfl
  · split
    · rfl
    · simp [off]

theorem State.flushEntry_off (dest : Nat) : s.flushEntry dest = s := by
  unfold State.flushEntry
  split
  · rfl
  · simp [off]

theorem State.debounceEnds_off (n : Nat) : s.debounceEnds n = s := by simp [State.debounceEnds, off]

theorem State.expireSource_off (sender : Nat) : s.expireSource sender = s := by
  unfold State.expireSource
  split
  · rfl
  · simp [off]

theorem State.timeNotice_off : s.timeNotice = s := by simp [State.timeNotice, off]

theorem State.becomeStale_panel_off : s.becomeStale.panel = s.panel := by
  unfold State.becomeStale
  split
  · rw [State.timeNotice_off (s := s.timeDo _) off]
    rfl
  · rfl

theorem State.announceMinute_off (minute : Nat) :
    s.announceMinute minute = s.timeDo (fun u => { u with notifiedMinute := minute }) := by
  have still : (s.timeDo (fun u => { u with notifiedMinute := minute })).running = false := off
  simp [State.announceMinute, still]

theorem State.reachMinute_panel_off : s.reachMinute.panel = s.panel := by
  unfold State.reachMinute
  split
  · rw [State.announceMinute_off off]
    rfl
  · rfl

theorem State.slewTicks_panel_off : s.slewTicks.panel = s.panel := by
  unfold State.slewTicks
  split
  · dsimp only
    split
    · exact State.reachMinute_panel_off (s := s.timeDo TimeUnit.tickSlew) off
    · rfl
  · rfl

theorem State.timerExpires_off (n : Nat) : s.timerExpires n = s := by simp [State.timerExpires, off]

theorem State.takeAdvert_off (p : Port) (sender : Nat) (entries : List AdvertEntry) :
    s.takeAdvert p sender entries = s := by simp [State.takeAdvert, off]

theorem State.takeBeacon_off (sender : Nat) (b : BeaconPayload) : s.takeBeacon sender b = s := by
  simp [State.takeBeacon, off]

theorem State.takeCabin_off (p : CabinPayload) : s.takeCabin p = s := by simp [State.takeCabin, off]

theorem State.takeSweep_off (p : SweepPayload) : s.takeSweep p = s := by simp [State.takeSweep, off]

theorem State.takeQuery_off (p : Port) (q : QueryPayload) : s.takeQuery p q = s := by
  simp [State.takeQuery, (State.lifecycle_of_off off).1]

theorem State.takeSolicit_off (p : Port) : s.takeSolicit p = s := by
  simp [State.takeSolicit, (State.lifecycle_of_off off).1]

theorem State.takeItemFrame_off (p : ItemPayload) : s.takeItemFrame p = (s, false) := by
  simp [State.takeItemFrame, off]

theorem State.takeWithdrawFrame_off (w : Tombstone) : s.takeWithdrawFrame w = (s, false) := by
  simp [State.takeWithdrawFrame, off]

theorem State.takeZoneFrame_off (origin : Nat) (z : ZonePayload) : s.takeZoneFrame origin z = (s, false) := by
  simp [State.takeZoneFrame, off]

theorem State.takeReassignFrame_off (origin : Nat) (r : ReassignPayload) :
    s.takeReassignFrame origin r = (s, false) := by simp [State.takeReassignFrame, off]

end

theorem State.takeAlarmFrame_loading {s : State} (loading : s.start.lifecycle = .loading) (origin : Nat)
    (a : AlarmPayload) : s.takeAlarmFrame origin a = (s, false) := by simp [State.takeAlarmFrame, loading]

/-- In LOADING a frame reaches no block but the start block and the ports (R30, R155). -/
theorem classHandler_loading {p : Port} {cls : FrameClass} {f : RxFrame} {h : State → State}
    (hh : classHandler p cls f = some h) {s : State} (loading : s.start.lifecycle = .loading) :
    OnlyChanges [.start, .bus, .ports] s (h s) := by
  have off : s.running = false := by rw [State.running, loading]; rfl
  cases cls <;> simp only [classHandler, Option.map_eq_some_iff] at hh
  case alarm =>
    obtain ⟨a, -, rfl⟩ := hh
    dsimp only
    rw [State.takeAlarmFrame_loading loading]
    exact (s.hearAlarm_changes p a).andThen (State.relay_changes _ _ _ _ _)
  case zone =>
    obtain ⟨z, -, rfl⟩ := hh
    dsimp only
    rw [State.takeZoneFrame_off off]
    exact (s.hearZone_changes p f.origin z).andThen (State.relay_changes _ _ _ _ _)
  case reassign =>
    obtain ⟨r, -, rfl⟩ := hh
    dsimp only
    rw [State.takeReassignFrame_off off]
    exact (s.hearReassign_changes p r).andThen (State.relay_changes _ _ _ _ _)
  case sweep =>
    obtain ⟨w, -, rfl⟩ := hh
    dsimp only
    rw [State.takeSweep_off off]
    exact .refl _ s
  case advert =>
    obtain ⟨entries, -, rfl⟩ := hh
    dsimp only
    rw [State.takeAdvert_off off]
    exact .refl _ s
  case beacon =>
    obtain ⟨b, -, rfl⟩ := hh
    dsimp only
    rw [State.takeBeacon_off off]
    exact .refl _ s
  case solicit =>
    split at hh
    · cases hh
      dsimp only
      rw [State.takeSolicit_off off]
      exact .refl _ s
    · cases hh
  case service =>
    split at hh
    · cases hh
      exact .refl _ s
    · cases hh
  case cabin =>
    obtain ⟨c, -, rfl⟩ := hh
    dsimp only
    rw [State.takeCabin_off off]
    exact .refl _ s
  case status =>
    split at hh
    · cases hh
      exact .refl _ s
    · cases hh
  case query =>
    obtain ⟨q, -, rfl⟩ := hh
    dsimp only
    rw [State.takeQuery_off off]
    exact .refl _ s
  case item =>
    obtain ⟨i, -, rfl⟩ := hh
    dsimp only
    rw [State.takeItemFrame_off off]
    exact (s.relay_changes _ _ _ _).widen
  case withdraw =>
    obtain ⟨w, -, rfl⟩ := hh
    dsimp only
    rw [State.takeWithdrawFrame_off off]
    exact (s.relay_changes _ _ _ _).widen

/-! ### The window list (R140, R142) -/

theorem PanelCtl.tryLit_window (e : PanelEnv) (p : PanelCtl) : (p.tryLit e).window = p.window := by
  unfold PanelCtl.tryLit PanelCtl.beginLit
  split
  · split <;> rfl
  · rfl

theorem PanelCtl.blinkPhase_window (e : PanelEnv) (p : PanelCtl) : (p.blinkPhase e).window = p.window := by
  unfold PanelCtl.blinkPhase
  split
  · rfl
  · dsimp only
    split
    · rfl
    · rw [PanelCtl.tryLit_window]

theorem State.blinkEdges_window (s : State) : s.blinkEdges.panel.window = s.panel.window := by
  unfold State.blinkEdges
  split
  · rfl
  · exact PanelCtl.blinkPhase_window _ _

/-- In LOADING no command but the image read moves the window list. -/
theorem exec_window_loading {c : Instr} {s t : State} (ran : exec c s = .next t)
    (done : OnlyChanges (commandBlocks c) s t) (loading : s.start.lifecycle = .loading) :
    t.panel.window = s.panel.window := by
  have off : s.running = false := by rw [State.running, loading]; rfl
  have rest : s.panelAtWork = false := by simp [State.panelAtWork, loading]
  have deaf : s.readsBusy = false := by simp [State.readsBusy, rest]
  have same (h : s = t) : t.panel.window = s.panel.window := by rw [h]
  by_cases outside : Block.panel ∉ commandBlocks c
  · have panel : t.panel = s.panel := done .panel outside
    rw [panel]
  · cases c with
    | cellExpiry d slot => exact same ((State.expireCell_off off d slot.val).symm.trans (Host.Outcome.next.inj ran))
    | holdDownDeadline d => exact same ((State.endHoldDown_off off d).symm.trans (Host.Outcome.next.inj ran))
    | flush d => exact same ((State.flushEntry_off off d).symm.trans (Host.Outcome.next.inj ran))
    | debounceDeadline n => exact same ((State.debounceEnds_off off n).symm.trans (Host.Outcome.next.inj ran))
    | sourceExpiry d => exact same ((State.expireSource_off off d).symm.trans (Host.Outcome.next.inj ran))
    | intervalTimerExpiry n => exact same ((State.timerExpires_off off n).symm.trans (Host.Outcome.next.inj ran))
    | staleDeadline =>
      cases ran
      rw [State.becomeStale_panel_off off]
    | slewTick =>
      cases ran
      rw [State.slewTicks_panel_off off]
    | minuteNotice =>
      cases ran
      rw [State.reachMinute_panel_off off]
    | blinkEdge =>
      cases ran
      exact s.blinkEdges_window
    | returnDeadline => exact same (by simpa [exec, execReturnDeadline, off] using ran)
    | dwellDeadline => exact same (by simpa [exec, execDwellDeadline, off] using ran)
    | spotlightDeadline => exact same (by simpa [exec, execSpotlightDeadline, off] using ran)
    | presenceDeadline => exact same (by simpa [exec, execPresenceDeadline, off] using ran)
    | loadEnd => exact same (by simpa [exec, execLoadEnd, rest] using ran)
    | gapAnyExpiry => exact same (by simpa [exec, execGapAnyExpiry, rest] using ran)
    | gapSameExpiry g => exact same (by simpa [exec, execGapSameExpiry, rest] using ran)
    | windowEntryExpiry => exact same (by simpa [exec, execWindowEntryExpiry, rest] using ran)
    | refreshTimeout => exact same (by simpa [exec, execRefreshTimeout, rest] using ran)
    | busyWatchExpiry => exact same (by simpa [exec, execBusyWatchExpiry, rest] using ran)
    | retryDeadline => exact same (by simpa [exec, execRetryDeadline, rest] using ran)
    | rampTick => exact same (by simpa [exec, execRampTick, rest] using ran)
    | panelBusyFall =>
      simp only [exec, execPanelBusyFall, deaf] at ran
      cases ran
      split <;> rfl
    | panelBusyRise =>
      simp only [exec, execPanelBusyRise, deaf] at ran
      cases ran
      split <;> rfl
    | _ => exact absurd (by simp [commandBlocks]) outside

/-- The window law with the bounds as works keep them. -/
structure State.WindowLawful (s : State) : Prop where
  bound : s.panel.windowBound s.panelEnv
  loading : s.start.lifecycle = .loading → s.panel.window = []

theorem PanelCtl.windowBound_empty (e : PanelEnv) {p : PanelCtl} (empty : p.window = []) :
    p.windowBound e := by
  simp [PanelCtl.windowBound, PanelCtl.countingEntries, empty]

theorem filter_sublist_of_imp {α : Type} {f g : α → Bool} (l : List α) (imp : ∀ x, f x = true → g x = true) :
    (l.filter f).Sublist (l.filter g) := by
  have both : l.filter f = (l.filter g).filter f := by
    rw [List.filter_filter]
    refine List.filter_congr fun x _ => ?_
    cases fx : f x with
    | false => rfl
    | true => rw [imp x fx, Bool.and_self]
  rw [both]
  exact List.filter_sublist

/-- Later fewer entries count. -/
theorem PanelCtl.windowBound_later {e : PanelEnv} {p : PanelCtl} (bound : p.windowBound e) (now : Nat)
    (later : e.now ≤ now) : p.windowBound { e with now := now } := by
  have fewer : (p.countingEntries { e with now := now }).Sublist (p.countingEntries e) :=
    filter_sublist_of_imp p.window fun w counts =>
      decide_eq_true (Nat.lt_of_le_of_lt later (of_decide_eq_true counts))
  exact ⟨Nat.le_trans fewer.length_le bound.1, Nat.le_trans (fewer.filter _).length_le bound.2⟩

theorem State.tick_windowLawful {s : State} (law : s.WindowLawful) : s.tick.WindowLawful := by
  have later := PanelCtl.windowBound_later law.bound (s.clock + 1) (Nat.le_succ _)
  exact ⟨PanelCtl.windowBound_congr rfl rfl rfl later, law.loading⟩

theorem Taken.windowLawful {c : Instr} {s t : State} (ran : exec c s = .next t) (h : Taken c s t)
    (law : s.WindowLawful) : t.WindowLawful := by
  cases h with
  | work done only =>
    refine ⟨done.windowBound law.bound, fun loading => ?_⟩
    have before : s.start.lifecycle = .loading := done.sameStanding.lifecycle ▸ loading
    rw [exec_window_loading ran only before, law.loading before]
  | @frame u _ _ _ h tested handled =>
    have after := classHandler_work_any handled u
    refine ⟨after.windowBound (tested.1.windowBound law.bound), fun loading => ?_⟩
    have before : u.start.lifecycle = .loading := after.sameStanding.lifecycle ▸ loading
    have handler : (h u).panel = u.panel := classHandler_loading handled before .panel (by decide)
    have tests : u.panel = s.panel := tested.2 .panel (by decide)
    rw [handler, tests, law.loading (tested.1.sameStanding.lifecycle ▸ before)]
  | image octets =>
    rcases s.imageReadEnds_cases octets with same | ⟨loading, ⟨config, clamps, -, good⟩ | ⟨checkGood, bad⟩⟩
    · rwa [same]
    · obtain ⟨u, v, used, first, second, -⟩ := s.entersListening_parts config clamps
      have panel : u.panel = s.panel := used.only .panel (by decide)
      have bound : u.panel.windowBound u.panelEnv :=
        PanelCtl.windowBound_empty _ (by rw [panel, law.loading loading])
      rw [good]
      refine ⟨second.windowBound (PanelCtl.windowBound_congr rfl rfl rfl (first.windowBound bound)),
        fun h => ?_⟩
      rw [(s.entersListening_start config clamps).1] at h
      exact nomatch h
    · obtain ⟨u, used, rest, -⟩ := s.entersConfigFault_parts octets checkGood
      have panel : u.panel = s.panel := used.only .panel (by decide)
      have bound : u.panel.windowBound u.panelEnv :=
        PanelCtl.windowBound_empty _ (by rw [panel, law.loading loading])
      rw [bad]
      refine ⟨rest.windowBound bound, fun h => ?_⟩
      rw [(s.entersConfigFault_start octets checkGood).1] at h
      exact nomatch h
  | listen =>
    rcases s.listenEnds_cases with same | ⟨-, rest⟩
    · rwa [same]
    · refine ⟨rest.windowBound (PanelCtl.windowBound_congr rfl rfl rfl law.bound), fun h => ?_⟩
      rw [rest.sameStanding.lifecycle] at h
      exact nomatch h

/-- Settles O54: the choice starts a full refresh only below its bound, all else removes entries at most, and in
LOADING nothing reaches the window list. -/
theorem windowLawKept : Obligations.WindowLawKept := by
  unfold Obligations.WindowLawKept
  intro s t ⟨all, nonUrgent, loading⟩ next
  obtain ⟨⟨all', nonUrgent'⟩, loading'⟩ := step_keeps (P := State.WindowLawful)
    (fun _ h => State.tick_windowLawful h)
    (fun _ _ h => ⟨PanelCtl.windowBound_congr rfl rfl rfl h.bound, h.loading⟩)
    (fun _ _ _ _ _ => ⟨PanelCtl.windowBound_empty _ rfl, fun _ => rfl⟩)
    (fun _ _ _ ran how h => how.windowLawful ran h) ⟨⟨all, nonUrgent⟩, loading⟩ next
  exact ⟨all', nonUrgent', loading'⟩

/-! ### Between resets (R31, R95, R169 to R173) -/

/-- The alarm record moves to a newer epoch, or within its epoch to no lower a level (R31). -/
def AlarmUnit.movesForward (u v : AlarmUnit) : Prop :=
  ∀ e, u.epoch = some e →
    (v.epoch = some e ∧ u.level.code ≤ v.level.code) ∨ ∃ e', v.epoch = some e' ∧ newer 16 e' e = true

theorem AlarmUnit.movesForward_of_same {u v : AlarmUnit} (epoch : v.epoch = u.epoch)
    (level : v.level = u.level) : u.movesForward v :=
  fun _ held => .inl ⟨epoch.trans held, Nat.le_of_eq (by rw [level])⟩

theorem SameLevels.movesForward {s t : State} (h : SameLevels s t) : s.alarm.movesForward t.alarm :=
  AlarmUnit.movesForward_of_same h.epoch h.alarm

theorem AlarmUnit.changed_movesForward {u : AlarmUnit} {p : AlarmPayload} {newEpoch : Bool}
    (verdict : u.verdict p = if newEpoch then .newEpoch else .levelRose) (origin now : Nat) :
    u.movesForward (u.changed origin p now newEpoch) := by
  intro e held
  unfold AlarmUnit.verdict at verdict
  rw [held] at verdict
  dsimp only at verdict
  split at verdict
  · rename_i later
    exact .inr ⟨p.epoch, rfl, later⟩
  · split at verdict
    · rename_i same
      split at verdict
      · rename_i rose
        exact .inl ⟨congrArg some same, Nat.le_of_lt rose⟩
      · cases newEpoch <;> exact nomatch verdict
    · cases newEpoch <;> exact nomatch verdict

theorem State.takeAlarmFrame_movesForward (s : State) (origin : Nat) (p : AlarmPayload) :
    s.alarm.movesForward (s.takeAlarmFrame origin p).1.alarm := by
  rcases s.takeAlarmFrame_cases origin p with ⟨-, n, kept⟩ | ⟨-, newEpoch, verdict, taken⟩
  · rw [kept]
    exact AlarmUnit.movesForward_of_same rfl rfl
  · rw [taken, s.acceptAlarm_alarm]
    exact AlarmUnit.changed_movesForward verdict origin s.clock

theorem classHandler_movesForward {p : Port} {cls : FrameClass} {f : RxFrame} {h : State → State}
    (hh : classHandler p cls f = some h) (s : State) : s.alarm.movesForward (h s).alarm := by
  by_cases other : cls = .alarm
  · subst other
    simp only [classHandler, Option.map_eq_some_iff] at hh
    obtain ⟨a, -, rfl⟩ := hh
    have rest : (relayed p .alarm f ((s.takeAlarmFrame f.origin a).1.hearAlarm p a,
        (s.takeAlarmFrame f.origin a).2)).alarm = (s.takeAlarmFrame f.origin a).1.alarm :=
      ((State.hearAlarm_changes _ p a).andThen (State.relay_changes _ p .alarm f _)
        (c := [.start, .bus, .ports])) .alarm (by decide)
    rw [rest]
    exact s.takeAlarmFrame_movesForward f.origin a
  · exact (classHandler_work hh other s).sameLevels.movesForward

/-- The lifecycle and the configuration copy stand, or move in one of the three ways (R170 to R173). -/
def StartBlock.movesOn (b c : StartBlock) : Prop :=
  (c.lifecycle = b.lifecycle ∧ c.config = b.config) ∨
    (b.lifecycle = .loading ∧ c.lifecycle = .listening ∧ c.config ≠ none) ∨
    (b.lifecycle = .loading ∧ c.lifecycle = .configFault ∧ c.config = b.config) ∨
    (b.lifecycle = .listening ∧ c.lifecycle = .operating ∧ c.config = b.config)

/-- What a reset alone moves (R95, R169). -/
structure SameHistory (s t : State) : Prop where
  clock : t.clock = s.clock
  cause : t.start.cause = s.start.cause
  count : t.start.startCount = s.start.startCount
  kind : t.panel.kind = s.panel.kind
  pending : t.pending = s.pending

theorem SameHistory.trans {s t u : State} (h : SameHistory s t) (k : SameHistory t u) : SameHistory s u :=
  ⟨k.clock.trans h.clock, k.cause.trans h.cause, k.count.trans h.count, k.kind.trans h.kind,
    k.pending.trans h.pending⟩

theorem SameStanding.history {s t : State} (h : SameStanding s t) : SameHistory s t :=
  ⟨h.clock, h.life.2.2.1, h.life.2.2.2, h.kind, h.pending⟩

theorem PortsUsed.history {s t : State} (h : PortsUsed s t) : SameHistory s t :=
  h.only.sameStanding.history

/-- Between resets (O4). -/
structure Between (s t : State) : Prop where
  history : SameHistory s t
  alarm : s.alarm.movesForward t.alarm
  start : s.start.movesOn t.start

theorem SameStanding.between {s t : State} (h : SameStanding s t) (alarm : s.alarm.movesForward t.alarm) :
    Between s t := ⟨h.history, alarm, .inl ⟨h.lifecycle, h.life.2.1⟩⟩

theorem Taken.between {c : Instr} {s t : State} (h : Taken c s t) : Between s t := by
  cases h with
  | work done _ => exact done.sameStanding.between done.sameLevels.movesForward
  | @frame u p cls f h tested handled =>
    have alarm : u.alarm = s.alarm := tested.2 .alarm (by decide)
    exact (tested.1.sameStanding.trans (classHandler_work_any handled u).sameStanding).between
      (alarm ▸ classHandler_movesForward handled u)
  | image octets =>
    rcases s.imageReadEnds_cases octets with same | ⟨loading, ⟨config, clamps, -, good⟩ | ⟨checkGood, bad⟩⟩
    · rw [same]
      exact (Work.refl (steady := true) s).sameStanding.between (SameLevels.refl s).movesForward
    · obtain ⟨u, v, used, first, second, -⟩ := s.entersListening_parts config clamps
      have started : SameHistory s (s.startDo (StartBlock.listens config clamps s.clock)) :=
        ⟨rfl, rfl, rfl, rfl, rfl⟩
      have sets : SameHistory v v.triggerEntersListening := ⟨rfl, rfl, rfl, rfl, rfl⟩
      have levels : SameLevels s v := ((s.startDo_changes _).sameLevels.trans used.only.sameLevels).trans
        first.sameLevels
      obtain ⟨life, copy, -, -⟩ := s.entersListening_start config clamps
      rw [good]
      refine ⟨(((started.trans used.history).trans first.sameStanding.history).trans sets).trans
        second.sameStanding.history, ?_, .inr (.inl ⟨loading, life, by simp [copy, StartBlock.listens]⟩)⟩
      exact (levels.trans ((⟨rfl, rfl, rfl, rfl, rfl, rfl, rfl⟩ : SameLevels v v.triggerEntersListening).trans
        second.sameLevels)).movesForward
    · obtain ⟨u, used, rest, -⟩ := s.entersConfigFault_parts octets checkGood
      have started : SameHistory s (s.startDo (StartBlock.faults checkGood)) := ⟨rfl, rfl, rfl, rfl, rfl⟩
      obtain ⟨life, copy, -, -⟩ := s.entersConfigFault_start octets checkGood
      rw [bad]
      exact ⟨(started.trans used.history).trans rest.sameStanding.history,
        (((s.startDo_changes _).sameLevels.trans used.only.sameLevels).trans rest.sameLevels).movesForward,
        .inr (.inr (.inl ⟨loading, life, copy⟩))⟩
  | listen =>
    rcases s.listenEnds_cases with same | ⟨listening, rest⟩
    · rw [same]
      exact (Work.refl (steady := true) s).sameStanding.between (SameLevels.refl s).movesForward
    · have started : SameHistory s (s.startDo StartBlock.operates) := ⟨rfl, rfl, rfl, rfl, rfl⟩
      obtain ⟨life, copy, -, -⟩ := rest.sameStanding.life
      exact ⟨started.trans rest.sameStanding.history,
        ((s.startDo_changes _).sameLevels.trans rest.sameLevels).movesForward,
        .inr (.inr (.inr ⟨listening, life, copy⟩))⟩

/-- Settles O4: no work moves clock, history or lifecycle, an ALARM frame alone moves the record, by its verdict,
and the lifecycle moves are those of the image read and of the listen period's end. -/
theorem betweenResets : Obligations.BetweenResets := by
  unfold Obligations.BetweenResets
  intro c s t next between
  obtain ⟨u, ran, how⟩ := exec_taken c s between
  cases ran.symm.trans next
  obtain ⟨⟨clock, cause, count, kind, pending⟩, alarm, start⟩ := how.between
  exact ⟨⟨clock, cause, count, kind, pending⟩, alarm, start⟩

end Sys2Proof.Machine

/-! ### The alarm lists (R36, R42) -/

namespace Sys2Proof.Machine

/-! ### The blocks each class of frame may change -/

/-- The blocks a well-formed frame of a class may change. -/
def frameBlocks : FrameClass → List Block
  | .alarm => [.alarm, .start, .route, .ports, .cabin, .muster, .trig, .panel, .ind, .page, .bus]
  | .zone => [.alarm, .start, .route, .ports, .muster, .trig, .page, .panel, .bus]
  | .reassign => [.alarm, .start, .muster, .page, .panel, .bus, .ports]
  | .sweep => [.cabin, .page, .panel]
  | .advert => [.route, .ports, .muster, .trig, .page, .panel]
  | .beacon => [.time, .prog, .trig, .page, .panel]
  | .solicit => [.start]
  | .service | .status => []
  | .cabin => [.cabin, .ports, .page, .panel]
  | .query => [.panel, .ports, .status]
  | .item | .withdraw => [.prog, .page, .panel, .bus, .ports]

theorem classHandler_blocks {p : Port} {cls : FrameClass} {f : RxFrame} {h : State → State}
    (hh : classHandler p cls f = some h) (s : State) : OnlyChanges (frameBlocks cls) s (h s) := by
  cases cls <;> simp only [classHandler, Option.map_eq_some_iff] at hh
  case alarm =>
    obtain ⟨a, -, rfl⟩ := hh
    exact ((s.takeAlarmFrame_changes _ _).andThen (State.hearAlarm_changes _ _ _)
      (c := [.alarm, .start, .route, .ports, .cabin, .muster, .trig, .panel, .ind, .page])).andThen
      (State.relay_changes _ _ _ _ _)
  case zone =>
    obtain ⟨a, -, rfl⟩ := hh
    exact ((s.takeZoneFrame_changes _ _).andThen (State.hearZone_changes _ _ _ _)
      (c := [.alarm, .start, .route, .ports, .muster, .trig, .page, .panel])).andThen
      (State.relay_changes _ _ _ _ _)
  case reassign =>
    obtain ⟨a, -, rfl⟩ := hh
    exact ((s.takeReassignFrame_changes _ _).andThen (State.hearReassign_changes _ _ _)
      (c := [.alarm, .start, .muster, .page, .panel])).andThen (State.relay_changes _ _ _ _ _)
  case sweep =>
    obtain ⟨a, -, rfl⟩ := hh
    exact s.takeSweep_changes _
  case advert =>
    obtain ⟨a, -, rfl⟩ := hh
    exact s.takeAdvert_changes _ _ _
  case beacon =>
    obtain ⟨a, -, rfl⟩ := hh
    exact s.takeBeacon_changes _ _
  case solicit =>
    split at hh
    · cases hh
      exact s.takeSolicit_changes _
    · cases hh
  case service =>
    split at hh
    · cases hh
      exact .refl _ _
    · cases hh
  case cabin =>
    obtain ⟨a, -, rfl⟩ := hh
    exact s.takeCabin_changes _
  case status =>
    split at hh
    · cases hh
      exact .refl _ _
    · cases hh
  case query =>
    obtain ⟨a, -, rfl⟩ := hh
    exact s.takeQuery_changes _ _
  case item =>
    obtain ⟨a, -, rfl⟩ := hh
    exact (s.takeItemFrame_changes _).andThen (State.relay_changes _ _ _ _ _)
  case withdraw =>
    obtain ⟨a, -, rfl⟩ := hh
    exact (s.takeWithdrawFrame_changes _).andThen (State.relay_changes _ _ _ _ _)

/-! ### Zone reports in key order (R36, R38, R39) -/

theorem ZoneReport.before_iff (x y : ZoneReport) :
    x.before y = true ↔ x.origin < y.origin ∨ x.origin = y.origin ∧ x.number < y.number := by
  simp [ZoneReport.before]

theorem ZoneReport.hasKey_iff (origin number : Nat) (r : ZoneReport) :
    r.hasKey origin number = true ↔ r.origin = origin ∧ r.number = number := by
  simp [ZoneReport.hasKey]

theorem ZoneReport.hasKey_false (origin number : Nat) (r : ZoneReport) :
    r.hasKey origin number = false ↔ ¬(r.origin = origin ∧ r.number = number) := by
  rw [← ZoneReport.hasKey_iff, Bool.not_eq_true]

/-- The laws of a zone report list (R36). -/
def reportsLawful (t : List ZoneReport) : Prop :=
  t.length ≤ reportCap ∧ t.Pairwise (fun x y => x.before y = true) ∧ ∀ r ∈ t, r.deckLow ≤ r.deckHigh

/-- What a changed zone report list is: the new report inserted among those that stay, none of its key, with room
for it. -/
structure ReportStored (r : ZoneReport) (t u : List ZoneReport) : Prop where
  kept : ∃ kept, kept.Sublist t ∧ (t.length ≤ reportCap → kept.length < reportCap) ∧
    (∀ y ∈ kept, y.hasKey r.origin r.number = false) ∧ u = insertReport r kept

theorem ReportStored.lawful {r : ZoneReport} {t u : List ZoneReport} (h : ReportStored r t u)
    (decks : r.deckLow ≤ r.deckHigh) (law : reportsLawful t) : reportsLawful u := by
  obtain ⟨bound, order, all⟩ := law
  obtain ⟨kept, sub, room, distinct, rfl⟩ := h
  refine ⟨?_, ?_, ?_⟩
  · rw [insertReport, length_insertBy]
    exact room bound
  · refine pairwise_insertBy r kept (order.sublist sub) (fun _ _ h => h) ?_ ?_
    · intro y hy notBefore
      have other := (ZoneReport.hasKey_false _ _ _).mp (distinct y hy)
      rw [← Bool.not_eq_true, ZoneReport.before_iff] at notBefore
      rw [ZoneReport.before_iff]
      omega
    · intro y _ z _ ry yz
      rw [ZoneReport.before_iff] at ry yz ⊢
      omega
  · intro x hx
    rcases (mem_insertBy r x kept).mp hx with rfl | old
    · exact decks
    · exact all x (sub.subset old)

theorem removeReport_length {x : ZoneReport} {t : List ZoneReport} (hx : x ∈ t) :
    (removeReport x.origin x.number t).length < t.length := by
  refine List.length_filter_lt_length_iff_exists.mpr ⟨x, hx, ?_⟩
  simp [ZoneReport.hasKey]

theorem removeReport_hasKey {origin number : Nat} {t : List ZoneReport} {y : ZoneReport}
    (hy : y ∈ removeReport origin number t) : y.hasKey origin number = false := by
  simpa using (List.mem_filter.mp hy).2

theorem displacedBy_mem {state : ZoneState} {t : List ZoneReport} {x : ZoneReport}
    (h : displacedBy state t = some x) : x ∈ t := by
  unfold displacedBy at h
  split at h
  · rename_i r found
    cases h
    exact (List.mem_filter.mp (leastBy_mem found)).1
  · exact (List.mem_filter.mp (leastBy_mem h)).1

/-- A ZONE frame as a change of the report list that the route engine and the muster selector are told of, or as
a counter at most (R38 to R40). -/
theorem State.takeZoneFrame_cases (s : State) (origin : Nat) (p : ZonePayload) :
    (∃ n, (s.takeZoneFrame origin p).1 = s.alarmDo fun u => { u with droppedReports := n }) ∨
      s.running = true ∧ ∃ u t n, OnlyChanges [.alarm, .start] s u ∧ Work true s u ∧
        u.alarm = { s.alarm with reports := t, evictedReports := n } ∧
        ReportStored (p.report origin s.clock) s.alarm.reports t ∧
        (s.takeZoneFrame origin p).1 = u.zoneChanged := by
  have none : (s.alarmDo fun u => { u with droppedReports := s.alarm.droppedReports }) = s := rfl
  unfold State.takeZoneFrame
  split
  · rename_i running
    dsimp only
    split
    · rename_i held found
      have mem := List.mem_of_find?_eq_some found
      have key : held.hasKey origin p.number = true := List.find?_some found
      obtain ⟨sameOrigin, sameNumber⟩ := (ZoneReport.hasKey_iff _ _ _).mp key
      split
      · refine .inr ⟨running, _, _, s.alarm.evictedReports, s.putReports_changes _ _, s.putReports_work _ _,
          rfl, ⟨_, List.filter_sublist, fun bound => ?_, fun y hy => removeReport_hasKey hy, rfl⟩, rfl⟩
        have shorter := removeReport_length mem
        rw [sameOrigin, sameNumber] at shorter
        exact Nat.lt_of_lt_of_le shorter bound
      · exact .inl ⟨_, none.symm⟩
    · rename_i absent
      have distinct (y : ZoneReport) (hy : y ∈ s.alarm.reports) : y.hasKey origin p.number = false := by
        simpa using List.find?_eq_none.mp absent y hy
      split
      · rename_i room
        exact .inr ⟨running, _, _, s.alarm.evictedReports, (s.alarmDo_changes _).widen, .alarm_same, rfl,
          ⟨_, List.Sublist.refl _, fun _ => room, distinct, rfl⟩, rfl⟩
      · unfold State.storeOverFull
        split
        · exact .inl ⟨_, rfl⟩
        · rename_i x found
          have mem := displacedBy_mem found
          refine .inr ⟨running, _, _, bump s.alarm.evictedReports, ?_, ?_, rfl, ⟨_, List.filter_sublist, fun bound => ?_,
            fun y hy => distinct y ((List.mem_filter.mp hy).1), rfl⟩, rfl⟩
          · exact (s.putReports_changes _ _).andThen (State.alarmDo_changes _ _)
          · exact (s.putReports_work _ _).trans .alarm_same
          · exact Nat.lt_of_lt_of_le (removeReport_length mem) bound
  · exact .inl ⟨_, none.symm⟩

/-! ### Reassignments in place order (R42, R43) -/

theorem Reassignment.before_iff (x y : Reassignment) : x.before y = true ↔
    2 * x.zone + x.kind.code < 2 * y.zone + y.kind.code := by
  have small (k : PointKind) : k.code ≤ 1 := by cases k <;> decide
  have hx := small x.kind
  have hy := small y.kind
  simp only [Reassignment.before, Bool.or_eq_true, Bool.and_eq_true, decide_eq_true_eq]
  omega

theorem PointKind.code_injective {x y : PointKind} (h : x.code = y.code) : x = y := by
  cases x <;> cases y <;> simp_all [PointKind.code]

/-- The laws of a reassignment list of an epoch (R42). -/
def reassignmentsLawful (epoch : Option Nat) (t : List Reassignment) : Prop :=
  t.Pairwise (fun x y => x.before y = true) ∧ ∀ r ∈ t, epoch = some r.epoch ∧ 1 ≤ r.zone ∧ r.zone ≤ 15

theorem storeReassignment_lawful {epoch : Option Nat} {r : Reassignment} {t : List Reassignment}
    (law : reassignmentsLawful epoch t) (held : epoch = some r.epoch) (low : 1 ≤ r.zone) (high : r.zone ≤ 15) :
    reassignmentsLawful epoch (storeReassignment r t) := by
  obtain ⟨order, all⟩ := law
  refine ⟨pairwise_insertBy r _ (order.sublist List.filter_sublist) (fun _ _ h => h) ?_ ?_, ?_⟩
  · intro y hy notBefore
    have other : ¬(y.zone = r.zone ∧ y.kind = r.kind) := Classical.not_and_iff_not_or_not.mpr (by
      simpa [Reassignment.inPlace] using (List.mem_filter.mp hy).2)
    rw [← Bool.not_eq_true, Reassignment.before_iff] at notBefore
    rw [Reassignment.before_iff]
    refine Classical.byContradiction fun notAfter => ?_
    have zones : y.zone = r.zone ∧ y.kind.code = r.kind.code := by
      have small (k : PointKind) : k.code ≤ 1 := by cases k <;> decide
      have hy := small y.kind
      have hr := small r.kind
      omega
    exact other ⟨zones.1, PointKind.code_injective zones.2⟩
  · intro y _ z _ ry yz
    rw [Reassignment.before_iff] at ry yz ⊢
    exact Nat.lt_trans ry yz
  · intro x hx
    rcases (mem_insertBy r x _).mp hx with rfl | old
    · exact ⟨held, low, high⟩
    · exact all x ((List.mem_filter.mp old).1)

/-- The 30 places bound the list (R42). -/
theorem reassignmentsLawful.length_le {epoch : Option Nat} {t : List Reassignment}
    (law : reassignmentsLawful epoch t) : t.length ≤ 30 := by
  obtain ⟨order, all⟩ := law
  let places := t.map (fun r => 2 * r.zone + r.kind.code)
  have distinct : places.Nodup := List.pairwise_map.mpr
    (order.imp fun h => Nat.ne_of_lt ((Reassignment.before_iff _ _).mp h))
  have within : places ⊆ List.range' 2 30 := by
    intro n hn
    obtain ⟨r, hr, rfl⟩ := List.mem_map.mp hn
    obtain ⟨-, low, high⟩ := all r hr
    have small : r.kind.code ≤ 1 := by cases r.kind <;> decide
    exact List.mem_range'_1.mpr ⟨by omega, by omega⟩
  have bound := distinct.length_le_of_subset within
  simpa [places] using bound

theorem parseReassign_zone {l : List Byte} {p : ReassignPayload} (h : parseReassign l = some p) :
    1 ≤ p.zone ∧ p.zone ≤ 15 := by
  unfold parseReassign at h
  split at h
  · split at h
    · rename_i inRange
      obtain ⟨kind, -, rfl⟩ := Option.map_eq_some_iff.mp h
      exact inRange
    · cases h
  · cases h

/-- A REASSIGN frame as a stored record of the held epoch that the muster selector is told of, or as a counter at
most (R43, R44). -/
theorem State.takeReassignFrame_cases (s : State) (origin : Nat) (p : ReassignPayload) :
    (∃ n, (s.takeReassignFrame origin p).1 = s.alarmDo fun u => { u with otherEpochReassignments := n }) ∨
      s.running = true ∧ s.alarm.epoch = some p.epoch ∧
        (s.takeReassignFrame origin p).1 = s.acceptReassign origin p := by
  have none : (s.alarmDo fun u => { u with otherEpochReassignments := s.alarm.otherEpochReassignments }) = s :=
    rfl
  unfold State.takeReassignFrame
  split
  · rename_i running
    split
    · rename_i epoch
      split
      · exact .inr ⟨running, epoch, rfl⟩
      · split
        · exact .inr ⟨running, epoch, rfl⟩
        · exact .inl ⟨_, none.symm⟩
    · exact .inl ⟨_, rfl⟩
  · exact .inl ⟨_, none.symm⟩

theorem State.acceptReassign_alarm (s : State) (origin : Nat) (p : ReassignPayload) :
    (s.acceptReassign origin p).alarm =
      { s.alarm with reassignments := storeReassignment (p.record origin) s.alarm.reassignments } :=
  (State.musterTakesReassignment_changes _ p.zone p.kind) .alarm (by decide)

/-! ### The lists at each command -/

/-- The laws of both lists. -/
structure AlarmUnit.listsLawful (u : AlarmUnit) : Prop where
  reports : reportsLawful u.reports
  reassignments : reassignmentsLawful u.epoch u.reassignments

theorem AlarmUnit.listsLawful.changed {u : AlarmUnit} {p : AlarmPayload} {newEpoch : Bool}
    (law : u.listsLawful) (verdict : u.verdict p = if newEpoch then .newEpoch else .levelRose)
    (origin now : Nat) : (u.changed origin p now newEpoch).listsLawful := by
  refine ⟨law.reports, ?_⟩
  cases newEpoch with
  | true => exact ⟨.nil, nofun⟩
  | false =>
    have epoch : u.epoch = some p.epoch := by
      unfold AlarmUnit.verdict at verdict
      split at verdict
      · exact nomatch verdict
      · rename_i e held
        split at verdict
        · exact nomatch verdict
        · split at verdict
          · rename_i same
            rw [held, same]
          · exact nomatch verdict
    have law' := law.reassignments
    rw [epoch] at law'
    exact law'

theorem State.takeAlarmFrame_listsLawful (s : State) (origin : Nat) (p : AlarmPayload)
    (law : s.alarm.listsLawful) : (s.takeAlarmFrame origin p).1.alarm.listsLawful := by
  rcases s.takeAlarmFrame_cases origin p with ⟨-, n, kept⟩ | ⟨-, newEpoch, verdict, taken⟩
  · rw [kept]
    exact ⟨law.reports, law.reassignments⟩
  · rw [taken, s.acceptAlarm_alarm]
    exact law.changed verdict origin s.clock

theorem State.takeZoneFrame_listsLawful (s : State) (origin : Nat) (p : ZonePayload)
    (law : s.alarm.listsLawful) : (s.takeZoneFrame origin p).1.alarm.listsLawful := by
  rcases s.takeZoneFrame_cases origin p with ⟨n, taken⟩ | ⟨-, u, t, n, -, -, alarm, stored, taken⟩
  · rw [taken]
    exact ⟨law.reports, law.reassignments⟩
  · have decks : (p.report origin s.clock).deckLow ≤ (p.report origin s.clock).deckHigh :=
      Nat.le_trans (Nat.min_le_left _ _) (Nat.le_max_left _ _)
    have same : u.zoneChanged.alarm = u.alarm := u.zoneChanged_changes .alarm (by decide)
    rw [taken, same, alarm]
    exact ⟨stored.lawful decks law.reports, law.reassignments⟩

theorem State.takeReassignFrame_listsLawful {s : State} {p : ReassignPayload} (zone : 1 ≤ p.zone ∧ p.zone ≤ 15)
    (origin : Nat) (law : s.alarm.listsLawful) : (s.takeReassignFrame origin p).1.alarm.listsLawful := by
  rcases s.takeReassignFrame_cases origin p with ⟨n, taken⟩ | ⟨-, epoch, taken⟩
  · rw [taken]
    exact ⟨law.reports, law.reassignments⟩
  · rw [taken, s.acceptReassign_alarm]
    exact ⟨law.reports, storeReassignment_lawful law.reassignments epoch zone.1 zone.2⟩

theorem classHandler_listsLawful {p : Port} {cls : FrameClass} {f : RxFrame} {h : State → State}
    (hh : classHandler p cls f = some h) {s : State} (law : s.alarm.listsLawful) : (h s).alarm.listsLawful := by
  have heard {u v : State} {a : List Block} (k : OnlyChanges a u v) (off : Block.alarm ∉ a)
      (l : u.alarm.listsLawful) : v.alarm.listsLawful := (k .alarm off : v.alarm = u.alarm) ▸ l
  by_cases outside : Block.alarm ∉ frameBlocks cls
  · exact heard (classHandler_blocks hh s) outside law
  · cases cls with
    | alarm =>
      obtain ⟨a, -, rfl⟩ := Option.map_eq_some_iff.mp hh
      exact heard (State.relay_changes _ _ _ _ _) (by decide) (heard (State.hearAlarm_changes _ _ _) (by decide)
        (s.takeAlarmFrame_listsLawful _ _ law))
    | zone =>
      obtain ⟨z, -, rfl⟩ := Option.map_eq_some_iff.mp hh
      exact heard (State.relay_changes _ _ _ _ _) (by decide) (heard (State.hearZone_changes _ _ _ _) (by decide)
        (s.takeZoneFrame_listsLawful _ _ law))
    | reassign =>
      obtain ⟨r, parsed, rfl⟩ := Option.map_eq_some_iff.mp hh
      exact heard (State.relay_changes _ _ _ _ _) (by decide) (heard (State.hearReassign_changes _ _ _) (by decide)
        (State.takeReassignFrame_listsLawful (parseReassign_zone parsed) _ law))
    | _ => exact absurd (by decide) outside

theorem commandBlocks_alarm (c : Instr) : Block.alarm ∉ commandBlocks c := by
  cases c <;> simp [commandBlocks]

theorem Taken.listsLawful {c : Instr} {s t : State} (h : Taken c s t) (law : s.alarm.listsLawful) :
    t.alarm.listsLawful := by
  have same {a : List Block} {u v : State} (k : OnlyChanges a u v) (off : Block.alarm ∉ a) :
      v.alarm = u.alarm := k .alarm off
  cases h with
  | work _ only => rwa [same only (commandBlocks_alarm c)]
  | frame tested handled => exact classHandler_listsLawful handled (same tested.2 (by decide) ▸ law)
  | image octets => rwa [same (s.imageReadEnds_changes octets) (by decide)]
  | listen => rwa [same s.listenEnds_changes (by decide)]

/-- Settles O22: frames of three classes alone reach the lists, a stored report or record stands at its place in
the order, and the 30 places bound the records. -/
theorem alarmListsKept : Obligations.AlarmListsKept := by
  unfold Obligations.AlarmListsKept
  intro s t reports reassignments next
  obtain ⟨kept, kept'⟩ := step_keeps (P := fun s => s.alarm.listsLawful) (fun _ h => h) (fun _ _ h => h)
    (fun _ _ _ _ _ => ⟨⟨Nat.zero_le _, .nil, nofun⟩, ⟨.nil, nofun⟩⟩) (fun _ _ _ _ how h => how.listsLawful h)
    ⟨reports, reassignments⟩ next
  exact ⟨kept, kept', kept'.length_le⟩

end Sys2Proof.Machine

/-! ### The programme store (R61, R65, R72) -/

namespace Sys2Proof.Machine

/-- The laws of the programme store, by name. -/
structure ProgrammeStore.Lawful (p : ProgrammeStore) : Prop where
  itemCount : p.items.length ≤ itemCap
  itemOrder : p.items.Pairwise (fun x y => x.before y = true)
  itemIds : p.items.Pairwise (fun x y => x.id ≠ y.id)
  tombCount : p.tombstones.length ≤ tombstoneCap
  tombIds : p.tombstones.Pairwise (fun x y => x.id ≠ y.id)
  newerThanTomb : ∀ i ∈ p.items, ∀ t ∈ p.tombstones, i.id = t.id → newer 8 i.version t.version = true
  spotCount : p.spotlight.length ≤ spotlightCap
  spotOnce : p.spotlight.Nodup
  spotHeld : ∀ d ∈ p.spotlight, ∃ i ∈ p.items, i.id = d

theorem State.programmeLaw_iff (s : State) : s.programmeLaw ↔ s.prog.Lawful := by
  constructor
  · rintro ⟨a, b, c, d, e, f, g, h, i⟩
    exact ⟨a, b, c, d, e, f, g, h, i⟩
  · rintro ⟨a, b, c, d, e, f, g, h, i⟩
    exact ⟨a, b, c, d, e, f, g, h, i⟩

/-! ### Items in store order (R61) -/

theorem Item.before_iff (x y : Item) :
    x.before y = true ↔ x.start < y.start ∨ x.start = y.start ∧ x.id < y.id := by
  simp [Item.before]

theorem insertItem_order {new : Item} {l : List Item} (order : l.Pairwise (fun x y => x.before y = true))
    (fresh : ∀ i ∈ l, i.id ≠ new.id) : (insertItem new l).Pairwise (fun x y => x.before y = true) := by
  refine pairwise_insertBy new l order (fun _ _ h => h) ?_ ?_
  · intro y hy notBefore
    have other := fresh y hy
    rw [← Bool.not_eq_true, Item.before_iff] at notBefore
    rw [Item.before_iff]
    omega
  · intro y _ z _ xy yz
    rw [Item.before_iff] at xy yz ⊢
    omega

theorem insertItem_ids {new : Item} {l : List Item} (ids : l.Pairwise (fun x y => x.id ≠ y.id))
    (fresh : ∀ i ∈ l, i.id ≠ new.id) : (insertItem new l).Pairwise (fun x y => x.id ≠ y.id) := by
  have moved : (insertItem new l).Perm (new :: l) := by
    unfold insertItem
    induction l with
    | nil => exact .refl _
    | cons y ys ih =>
      unfold insertBy
      split
      · exact .refl _
      · exact ((ih (List.pairwise_cons.mp ids).2 fun i hi => fresh i (List.mem_cons_of_mem _ hi)).cons y).trans
          (.swap new y ys)
  exact (moved.pairwise_iff fun h => Ne.symm h).mpr
    (List.pairwise_cons.mpr ⟨fun i hi => (fresh i hi).symm, ids⟩)

theorem mem_removeItem {id : Nat} {i : Item} {l : List Item} : i ∈ removeItem id l ↔ i ∈ l ∧ i.id ≠ id := by
  simp [removeItem]

theorem removeItem_length {id : Nat} {l : List Item} {i : Item} (hi : i ∈ l) (same : i.id = id) :
    (removeItem id l).length < l.length :=
  List.length_filter_lt_length_iff_exists.mpr ⟨i, hi, by simp [same]⟩

section
variable {p : ProgrammeStore}

/-- Fewer items, of which every spotlight id that stays is held. -/
theorem ProgrammeStore.Lawful.fewer (law : p.Lawful) {q : ProgrammeStore}
    (items : q.items.Sublist p.items) (tombstones : q.tombstones = p.tombstones)
    (spotlight : q.spotlight.Sublist p.spotlight)
    (held : ∀ d ∈ q.spotlight, ∀ i ∈ p.items, i.id = d → i ∈ q.items) : q.Lawful := by
  refine ⟨Nat.le_trans items.length_le law.itemCount, law.itemOrder.sublist items, law.itemIds.sublist items,
    tombstones ▸ law.tombCount, tombstones ▸ law.tombIds, ?_, Nat.le_trans spotlight.length_le law.spotCount,
    law.spotOnce.sublist spotlight, ?_⟩
  · rw [tombstones]
    exact fun i hi => law.newerThanTomb i (items.subset hi)
  · intro d hd
    obtain ⟨i, hi, rfl⟩ := law.spotHeld d (spotlight.subset hd)
    exact ⟨i, held _ hd i hi rfl, rfl⟩

/-- Counters aside nothing moves. -/
theorem ProgrammeStore.Lawful.same (law : p.Lawful) {q : ProgrammeStore} (items : q.items = p.items := by rfl)
    (tombstones : q.tombstones = p.tombstones := by rfl) (spotlight : q.spotlight = p.spotlight := by rfl) :
    q.Lawful :=
  law.fewer (items ▸ .refl _) tombstones (spotlight ▸ .refl _) fun _ _ _ hi _ => items ▸ hi

theorem ProgrammeStore.Lawful.unspot (law : p.Lawful) (id : Nat) : (p.unspot id).Lawful :=
  law.fewer (.refl _) rfl List.filter_sublist fun _ _ _ hi _ => hi

/-- The items without one id, which leaves the spotlight list as well. -/
theorem ProgrammeStore.Lawful.remove (law : p.Lawful) {q : ProgrammeStore} (id : Nat)
    (items : q.items = removeItem id p.items) (tombstones : q.tombstones = p.tombstones)
    (spotlight : q.spotlight = p.spotlight) : (q.unspot id).Lawful := by
  refine law.fewer (q := q.unspot id) ?_ tombstones ?_ ?_
  · rw [ProgrammeStore.unspot, items]
    exact List.filter_sublist
  · rw [ProgrammeStore.unspot, spotlight]
    exact List.filter_sublist
  · intro d hd i hi same
    have other : d ≠ id := by simpa using (List.mem_filter.mp hd).2
    rw [ProgrammeStore.unspot, items, mem_removeItem]
    exact ⟨hi, same ▸ other⟩

/-- A new record that no tombstone stops, put in its place among items that hold none of its id. -/
theorem ProgrammeStore.Lawful.insert (law : p.Lawful) {new : Item} (room : p.items.length < itemCap)
    (fresh : ∀ i ∈ p.items, i.id ≠ new.id)
    (alive : ∀ t ∈ p.tombstones, new.id = t.id → newer 8 new.version t.version = true)
    {q : ProgrammeStore} (items : q.items = insertItem new p.items) (tombstones : q.tombstones = p.tombstones)
    (spotlight : q.spotlight = p.spotlight) : q.Lawful := by
  refine ⟨?_, items ▸ insertItem_order law.itemOrder fresh, items ▸ insertItem_ids law.itemIds fresh,
    tombstones ▸ law.tombCount, tombstones ▸ law.tombIds, ?_, spotlight ▸ law.spotCount,
    spotlight ▸ law.spotOnce, ?_⟩
  · rw [items, insertItem, length_insertBy]
    exact room
  · rw [items, tombstones]
    intro i hi
    rcases (mem_insertBy new i _).mp hi with rfl | old
    · exact alive
    · exact law.newerThanTomb i old
  · rw [items, spotlight]
    intro d hd
    obtain ⟨i, hi, same⟩ := law.spotHeld d hd
    exact ⟨i, (mem_insertBy new i _).mpr (.inr hi), same⟩

/-! ### Spotlight offers (R72) -/

theorem ProgrammeStore.Lawful.appendSpot (law : p.Lawful) {id : Nat} {l : List Nat} {q : ProgrammeStore}
    (held : ∃ i ∈ p.items, i.id = id) (sub : l.Sublist p.spotlight) (new : id ∉ p.spotlight)
    (room : l.length < spotlightCap) (items : q.items = p.items) (tombstones : q.tombstones = p.tombstones)
    (spotlight : q.spotlight = l ++ [id]) : q.Lawful := by
  refine ⟨items ▸ law.itemCount, items ▸ law.itemOrder, items ▸ law.itemIds, tombstones ▸ law.tombCount,
    tombstones ▸ law.tombIds, by rw [items, tombstones]; exact law.newerThanTomb, ?_, ?_, ?_⟩
  · rw [spotlight, List.length_append]
    exact room
  · rw [spotlight]
    refine List.nodup_append.mpr ⟨law.spotOnce.sublist sub, List.pairwise_singleton _ id, ?_⟩
    intro a ha b hb
    rw [List.mem_singleton.mp hb]
    rintro rfl
    exact new (sub.subset ha)
  · rw [spotlight, items]
    intro d hd
    rcases List.mem_append.mp hd with old | last
    · exact law.spotHeld d (sub.subset old)
    · exact List.mem_singleton.mp last ▸ held

theorem ProgrammeStore.Lawful.offer (law : p.Lawful) {id : Nat} (held : ∃ i ∈ p.items, i.id = id) :
    (p.offer id).Lawful := by
  unfold ProgrammeStore.offer
  split
  · exact law
  · rename_i new
    have fresh : id ∉ p.spotlight := by simpa using new
    split
    · rename_i room
      exact law.appendSpot held (.refl _) fresh room rfl rfl rfl
    · rename_i full
      have bound := law.spotCount
      have room : p.spotlight.tail.length < spotlightCap := by
        rw [List.length_tail]
        simp only [spotlightCap] at *
        omega
      exact law.appendSpot held (List.tail_sublist _) fresh room rfl rfl rfl

theorem ProgrammeStore.offer_items (p : ProgrammeStore) (id : Nat) : (p.offer id).items = p.items := by
  unfold ProgrammeStore.offer
  split
  · rfl
  · split <;> rfl

theorem ProgrammeStore.Lawful.offers (l : List Item) (law : p.Lawful) (held : ∀ i ∈ l, i ∈ p.items) :
    (l.foldl (fun p i => p.offer i.id) p).Lawful := by
  induction l generalizing p with
  | nil => exact law
  | cons x xs ih =>
    refine ih (law.offer ⟨x, held x List.mem_cons_self, rfl⟩) fun i hi => ?_
    rw [ProgrammeStore.offer_items]
    exact held i (List.mem_cons_of_mem _ hi)

/-! ### Expiry runs (R69) -/

theorem ProgrammeStore.Lawful.expire (law : p.Lawful) (minute : Nat) : (p.expire minute).Lawful := by
  refine law.fewer List.filter_sublist rfl List.filter_sublist ?_
  intro d hd i hi same
  have stays : ∀ x ∈ p.items, x.last < minute → ¬x.id = d := by
    simpa [ProgrammeStore.expire] using (List.mem_filter.mp hd).2
  refine List.mem_filter.mpr ⟨hi, ?_⟩
  simpa using fun late => stays i hi late same

/-! ### ITEM frames (R62, R63) -/

theorem ProgrammeStore.Lawful.replace (law : p.Lawful) (cfg : ConfigCopy) {old new : Item} (held : old ∈ p.items)
    (same : old.id = new.id)
    (alive : ∀ t ∈ p.tombstones, new.id = t.id → newer 8 new.version t.version = true) :
    (p.replace cfg old new).Lawful := by
  have fresh : ∀ i ∈ removeItem old.id p.items, i.id ≠ new.id := fun i hi =>
    same ▸ (mem_removeItem.mp hi).2
  have sub : (removeItem old.id p.items).Sublist p.items := List.filter_sublist
  have replaced : ({ p with items := insertItem new (removeItem old.id p.items) } : ProgrammeStore).Lawful := by
    refine ⟨?_, insertItem_order (law.itemOrder.sublist sub) fresh, insertItem_ids (law.itemIds.sublist sub) fresh,
      law.tombCount, law.tombIds, ?_, law.spotCount, law.spotOnce, ?_⟩
    · rw [insertItem, length_insertBy]
      exact Nat.lt_of_lt_of_le (removeItem_length held rfl) law.itemCount
    · intro i hi
      rcases (mem_insertBy new i _).mp hi with rfl | kept
      · exact alive
      · exact law.newerThanTomb i (sub.subset kept)
    · intro d hd
      obtain ⟨i, hi, rfl⟩ := law.spotHeld d hd
      by_cases replacedId : i.id = old.id
      · exact ⟨new, (mem_insertBy new new _).mpr (.inl rfl), (replacedId.trans same).symm⟩
      · exact ⟨i, (mem_insertBy new i _).mpr (.inr (mem_removeItem.mpr ⟨hi, replacedId⟩)), rfl⟩
  unfold ProgrammeStore.replace
  dsimp only
  split
  · exact replaced.unspot new.id
  · exact replaced

theorem giveUp_mem {cfg : ConfigCopy} {pool : List Item} {i : Item} (h : giveUp cfg pool = some i) :
    i ∈ pool := by
  unfold giveUp at h
  split at h
  · rename_i last found
    cases h
    exact (List.mem_filter.mp (List.mem_of_getLast? found)).1
  · exact List.mem_of_getLast? h

theorem ProgrammeStore.Lawful.insertFull (law : p.Lawful) (cfg : ConfigCopy) {new : Item}
    (fresh : ∀ i ∈ p.items, i.id ≠ new.id)
    (alive : ∀ t ∈ p.tombstones, new.id = t.id → newer 8 new.version t.version = true) :
    (p.insertFull cfg new).1.Lawful := by
  unfold ProgrammeStore.insertFull
  split
  · exact law
  · rename_i i found
    split
    · exact law.same
    · rename_i other
      have held : i ∈ p.items := by
        rcases (mem_insertBy new i _).mp (giveUp_mem found) with rfl | old
        · exact absurd rfl other
        · exact old
      have removed := law.remove (q := { p with items := removeItem i.id p.items }) i.id rfl rfl rfl
      exact removed.insert (Nat.lt_of_lt_of_le (removeItem_length held rfl) law.itemCount)
        (fun j hj => fresh j (mem_removeItem.mp hj).1) alive rfl rfl rfl

/-- A tombstone of the record's id that its version is not newer than (R62). -/
def ProgrammeStore.stopped (p : ProgrammeStore) (new : Item) : Bool :=
  match p.tombstones.find? (fun t => t.id == new.id) with
  | some t => !newer 8 new.version t.version
  | none => false

theorem ProgrammeStore.takeItem_stopped {cfg : ConfigCopy} {new : Item} (stops : p.stopped new = true) :
    p.takeItem cfg new = ({ p with tombstoneHits := bump p.tombstoneHits }, false) :=
  if_pos stops

theorem ProgrammeStore.takeItem_held {cfg : ConfigCopy} {new old : Item} (passes : p.stopped new = false)
    (found : p.items.find? (fun i => i.id == new.id) = some old) :
    p.takeItem cfg new =
      if newer 8 new.version old.version then (p.replace cfg old new, true) else (p, false) := by
  refine (if_neg (Bool.eq_false_iff.mp passes)).trans ?_
  rw [found]

theorem ProgrammeStore.takeItem_absent {cfg : ConfigCopy} {new : Item} (passes : p.stopped new = false)
    (absent : p.items.find? (fun i => i.id == new.id) = none) :
    p.takeItem cfg new =
      if p.items.length < itemCap then ({ p with items := insertItem new p.items }, true)
      else p.insertFull cfg new := by
  refine (if_neg (Bool.eq_false_iff.mp passes)).trans ?_
  rw [absent]

theorem ProgrammeStore.Lawful.alive (law : p.Lawful) {new : Item} (passes : p.stopped new = false) :
    ∀ t ∈ p.tombstones, new.id = t.id → newer 8 new.version t.version = true := by
  intro t ht same
  have found : p.tombstones.find? (fun t => t.id == new.id) = some t := by
    refine List.find?_eq_some_iff_append.mpr ⟨by simp [same], ?_⟩
    obtain ⟨as, bs, split⟩ := List.append_of_mem ht
    refine ⟨as, bs, split, fun a ha => ?_⟩
    have ids := law.tombIds
    rw [split, List.pairwise_append] at ids
    have other := ids.2.2 a ha t List.mem_cons_self
    simpa [same] using other
  rw [ProgrammeStore.stopped, found] at passes
  simpa using passes

theorem ProgrammeStore.Lawful.takeItem (law : p.Lawful) (cfg : ConfigCopy) (new : Item) :
    (p.takeItem cfg new).1.Lawful := by
  cases stops : p.stopped new with
  | true =>
    rw [ProgrammeStore.takeItem_stopped stops]
    exact law.same
  | false =>
    have alive := law.alive stops
    cases found : p.items.find? (fun i => i.id == new.id) with
    | some old =>
      have held := List.mem_of_find?_eq_some found
      have same : old.id = new.id := by simpa using List.find?_some found
      rw [ProgrammeStore.takeItem_held stops found]
      split
      · exact law.replace cfg held same alive
      · exact law
    | none =>
      have fresh : ∀ i ∈ p.items, i.id ≠ new.id := by simpa using found
      rw [ProgrammeStore.takeItem_absent stops found]
      split
      · rename_i room
        exact law.insert room fresh alive rfl rfl rfl
      · exact law.insertFull cfg fresh alive

/-! ### WITHDRAW frames (R65, R66) -/

theorem ProgrammeStore.Lawful.withdrawItem (law : p.Lawful) (w : Tombstone) :
    (p.withdrawItem w).1.Lawful ∧ ∀ i ∈ (p.withdrawItem w).1.items, i.id = w.id →
      newer 8 i.version w.version = true := by
  unfold ProgrammeStore.withdrawItem
  split
  · rename_i i found
    have held := List.mem_of_find?_eq_some found
    have same : i.id = w.id := by simpa using List.find?_some found
    split
    · rename_i later
      refine ⟨law, fun j hj id => ?_⟩
      have only : j = i := eq_of_key_eq law.itemIds hj held (id.trans same.symm)
      rw [only]
      exact later
    · exact ⟨law.remove w.id rfl rfl rfl, fun j hj id => absurd id (mem_removeItem.mp hj).2⟩
  · rename_i absent
    have fresh : ∀ i ∈ p.items, i.id ≠ w.id := by simpa using absent
    exact ⟨law, fun j hj id => absurd id (fresh j hj)⟩

/-- Tombstones of other ids, with one more at the end that no held item is older than. -/
theorem ProgrammeStore.Lawful.appendTomb (law : p.Lawful) {w : Tombstone} {l : List Tombstone}
    {q : ProgrammeStore} (sub : l.Sublist p.tombstones) (room : l.length < tombstoneCap)
    (fresh : ∀ t ∈ l, t.id ≠ w.id) (alive : ∀ i ∈ p.items, i.id = w.id → newer 8 i.version w.version = true)
    (items : q.items = p.items) (spotlight : q.spotlight = p.spotlight) (tombstones : q.tombstones = l ++ [w]) :
    q.Lawful := by
  refine ⟨items ▸ law.itemCount, items ▸ law.itemOrder, items ▸ law.itemIds, ?_, ?_, ?_, spotlight ▸ law.spotCount,
    spotlight ▸ law.spotOnce, by rw [spotlight, items]; exact law.spotHeld⟩
  · rw [tombstones, List.length_append]
    exact room
  · rw [tombstones, List.pairwise_append]
    refine ⟨law.tombIds.sublist sub, List.pairwise_singleton _ _, fun t ht v hv => ?_⟩
    rw [List.mem_singleton.mp hv]
    exact fresh t ht
  · rw [items, tombstones]
    intro i hi t ht
    rcases List.mem_append.mp ht with old | last
    · exact law.newerThanTomb i hi t (sub.subset old)
    · rw [List.mem_singleton.mp last]
      exact alive i hi

theorem ProgrammeStore.Lawful.withdrawTombstone (law : p.Lawful) {w : Tombstone}
    (alive : ∀ i ∈ p.items, i.id = w.id → newer 8 i.version w.version = true) :
    (p.withdrawTombstone w).1.Lawful := by
  unfold ProgrammeStore.withdrawTombstone
  split
  · rename_i absent
    have fresh : ∀ t ∈ p.tombstones, t.id ≠ w.id := by simpa using absent
    unfold ProgrammeStore.appendTombstone
    dsimp only
    split
    · rename_i room
      exact law.appendTomb (.refl _) room fresh alive rfl rfl rfl
    · have bound := law.tombCount
      have room : p.tombstones.tail.length < tombstoneCap := by
        rw [List.length_tail]
        simp only [tombstoneCap] at *
        omega
      exact law.appendTomb (List.tail_sublist _) room (fun t ht => fresh t (List.mem_of_mem_tail ht)) alive
        rfl rfl rfl
  · rename_i t found
    have held := List.mem_of_find?_eq_some found
    have same : t.id = w.id := by simpa using List.find?_some found
    split
    · exact law
    · have shorter : (p.tombstones.filter (fun x => decide (x.id ≠ w.id))).length < p.tombstones.length :=
        List.length_filter_lt_length_iff_exists.mpr ⟨t, held, by simp [same]⟩
      exact law.appendTomb List.filter_sublist (Nat.lt_of_lt_of_le shorter law.tombCount)
        (fun x hx => by simpa using (List.mem_filter.mp hx).2) alive rfl rfl rfl

end

/-! ### The store at each command -/

section
variable {s : State}

/-- The store is left alone. -/
theorem OnlyChanges.lawful {a : List Block} {s t : State} (h : OnlyChanges a s t) (off : Block.prog ∉ a)
    (law : s.prog.Lawful) : t.prog.Lawful := (h .prog off : t.prog = s.prog) ▸ law

theorem State.pageTakesProgramme_lawful (law : s.prog.Lawful) : s.pageTakesProgramme.prog.Lawful :=
  s.pageTakesProgramme_changes.lawful (by decide) law

theorem State.detectLeads_lawful (law : s.prog.Lawful) (minute : Nat) : (s.detectLeads minute).prog.Lawful :=
  OnlyChanges.lawful (State.cascades_changes _ _) (by decide)
    (law.offers _ fun _ hi => (List.mem_filter.mp hi).1)

theorem State.expireKnown_lawful (law : s.prog.Lawful) (minute : Nat) :
    (if s.time.state.known then s.progDo (fun p => p.expire minute) else s).prog.Lawful := by
  split
  · exact law.expire minute
  · exact law

theorem State.progTakesMinute_lawful (law : s.prog.Lawful) (minute : Nat) :
    (s.progTakesMinute minute).prog.Lawful := by
  have expired := State.expireKnown_lawful law minute
  refine State.pageTakesProgramme_lawful ?_
  generalize (if s.time.state.known then s.progDo (fun p => p.expire minute) else s) = t at expired
  split
  · exact State.detectLeads_lawful expired minute
  · exact expired

theorem State.crossedLeads_lawful (crossed : List Nat) (law : s.prog.Lawful) :
    (crossed.foldl State.detectLeads s).prog.Lawful := by
  induction crossed generalizing s with
  | nil => exact law
  | cons m ms ih => exact ih (State.detectLeads_lawful law m)

theorem State.progTakesStep_lawful (law : s.prog.Lawful) (kind : StepKind) (crossed : List Nat) (minute : Nat) :
    (s.progTakesStep kind crossed minute).prog.Lawful := by
  refine State.pageTakesProgramme_lawful ?_
  cases kind with
  | first => exact State.expireKnown_lawful law minute
  | forwardShort =>
    refine State.expireKnown_lawful ?_ minute
    split
    · exact State.crossedLeads_lawful crossed law
    · exact law
  | forwardLong => exact State.expireKnown_lawful law minute
  | backward => exact law

theorem State.announceMinute_lawful (law : s.prog.Lawful) (minute : Nat) :
    (s.announceMinute minute).prog.Lawful := by
  unfold State.announceMinute
  dsimp only
  split
  · refine OnlyChanges.lawful (State.pageNotice_changes _ _) (by decide) ?_
    have taken := State.progTakesMinute_lawful (s := s.timeDo fun u => { u with notifiedMinute := minute }) law
      minute
    split
    · exact OnlyChanges.lawful (State.cascade_changes _ _) (by decide) taken
    · exact taken
  · exact law

theorem State.reachMinute_lawful (law : s.prog.Lawful) : s.reachMinute.prog.Lawful := by
  unfold State.reachMinute
  split
  · exact State.announceMinute_lawful law _
  · exact law

theorem State.announceStep_lawful (law : s.prog.Lawful) (kind : StepKind) :
    (s.announceStep kind).prog.Lawful := by
  unfold State.announceStep
  dsimp only
  split
  · refine OnlyChanges.lawful (State.pageNotice_changes _ _) (by decide) ?_
    refine OnlyChanges.lawful (State.cascades_changes _ _) (by decide) ?_
    exact State.progTakesStep_lawful (s := s.timeDo _) law _ _ _
  · exact law

theorem State.slewTicks_lawful (law : s.prog.Lawful) : s.slewTicks.prog.Lawful := by
  unfold State.slewTicks
  split
  · dsimp only
    split
    · exact State.reachMinute_lawful (s := s.timeDo TimeUnit.tickSlew) law
    · exact law
  · exact law

theorem State.stepBeacon_lawful (law : s.prog.Lawful) (r : Int) : (s.stepBeacon r).prog.Lawful := by
  unfold State.stepBeacon
  dsimp only
  split
  · exact law
  · split
    · exact State.announceStep_lawful (s := s.timeDo _) law _
    · exact law

theorem State.slewBeacon_changes' (s : State) (r : Int) : OnlyChanges [.time, .page, .panel] s (s.slewBeacon r) :=
  .ite (s.timeDo_changes _).widen ((s.timeDo_changes _).andThen (State.timeNotice_changes _))

theorem State.discipline_lawful (law : s.prog.Lawful) (r : Int) : (s.discipline r).prog.Lawful := by
  unfold State.discipline
  split
  · exact State.announceStep_lawful (s := s.timeDo _) law _
  · split
    · exact OnlyChanges.lawful (s.slewBeacon_changes' r) (by decide) law
    · exact State.stepBeacon_lawful law r

theorem State.takeBeacon_lawful (law : s.prog.Lawful) (sender : Nat) (b : BeaconPayload) :
    (s.takeBeacon sender b).prog.Lawful := by
  unfold State.takeBeacon
  split
  · split
    · exact law
    · dsimp only
      split
      · exact State.discipline_lawful (s := s.timeDo _) law _
      · exact law
  · exact law

theorem State.spotlightDone_lawful (law : s.prog.Lawful) (id : Nat) : (s.spotlightDone id).prog.Lawful := by
  unfold State.spotlightDone
  split
  · exact State.pageTakesProgramme_lawful (s := s.progDo _) (law.unspot id)
  · exact law

theorem State.pageSpotlightEnds_lawful (law : s.prog.Lawful) : s.pageSpotlightEnds.prog.Lawful := by
  refine OnlyChanges.lawful (State.pageDo_finishPage_changes _ _ _ _) (by decide) ?_
  split
  · exact State.spotlightDone_lawful law _
  · exact law

theorem State.takeItemFrame_lawful (law : s.prog.Lawful) (p : ItemPayload) :
    (s.takeItemFrame p).1.prog.Lawful := by
  unfold State.takeItemFrame
  split
  · have clamped : (if p.clamps then s.progDo (fun q => { q with clampedItems := bump q.clampedItems })
        else s).prog.Lawful := by
      split
      · exact law.same
      · exact law
    dsimp only
    generalize (if p.clamps then s.progDo (fun q => { q with clampedItems := bump q.clampedItems }) else s) = t
      at clamped
    have taken := clamped.takeItem t.cfg p.record
    split
    · rename_i q took
      rw [took] at taken
      exact State.pageTakesProgramme_lawful (s := t.progDo fun _ => q) taken
    · rename_i q took
      rw [took] at taken
      exact taken
  · exact law

theorem State.takeWithdrawFrame_lawful (law : s.prog.Lawful) (w : Tombstone) :
    (s.takeWithdrawFrame w).1.prog.Lawful := by
  unfold State.takeWithdrawFrame
  split
  · obtain ⟨first, alive⟩ := law.withdrawItem w
    have second := first.withdrawTombstone alive
    dsimp only
    split
    · exact State.pageTakesProgramme_lawful (s := s.progDo _) second
    · exact second
  · exact law

theorem classHandler_lawful {p : Port} {cls : FrameClass} {f : RxFrame} {h : State → State}
    (hh : classHandler p cls f = some h) (law : s.prog.Lawful) : (h s).prog.Lawful := by
  by_cases outside : Block.prog ∉ frameBlocks cls
  · exact (classHandler_blocks hh s).lawful outside law
  · cases cls with
    | beacon =>
      obtain ⟨b, -, rfl⟩ := Option.map_eq_some_iff.mp hh
      exact State.takeBeacon_lawful law _ b
    | item =>
      obtain ⟨i, -, rfl⟩ := Option.map_eq_some_iff.mp hh
      exact OnlyChanges.lawful (State.relay_changes _ _ _ _ _) (by decide) (State.takeItemFrame_lawful law i)
    | withdraw =>
      obtain ⟨w, -, rfl⟩ := Option.map_eq_some_iff.mp hh
      exact OnlyChanges.lawful (State.relay_changes _ _ _ _ _) (by decide) (State.takeWithdrawFrame_lawful law w)
    | _ => exact absurd (by decide) outside

theorem Taken.lawful {c : Instr} {t : State} (ran : exec c s = .next t) (h : Taken c s t)
    (law : s.prog.Lawful) : t.prog.Lawful := by
  cases h with
  | work _ only =>
    by_cases outside : Block.prog ∉ commandBlocks c
    · exact only.lawful outside law
    · cases c with
      | slewTick =>
        cases ran
        exact State.slewTicks_lawful law
      | minuteNotice =>
        cases ran
        exact State.reachMinute_lawful law
      | spotlightDeadline =>
        cases ran
        split
        · exact State.pageSpotlightEnds_lawful law
        · exact law
      | _ => exact absurd (by simp [commandBlocks]) outside
  | frame tested handled => exact classHandler_lawful handled (tested.2.lawful (by decide) law)
  | image octets => exact (s.imageReadEnds_changes octets).lawful (by decide) law
  | listen => exact s.listenEnds_changes.lawful (by decide) law

end

/-- Settles O38: the store's own operations keep its laws one by one, and no command reaches the store but by
them. -/
theorem programmeLawKept : Obligations.ProgrammeLawKept := by
  unfold Obligations.ProgrammeLawKept
  intro s t law next
  rw [State.programmeLaw_iff] at law ⊢
  exact step_keeps (P := fun s => s.prog.Lawful) (fun _ h => h) (fun _ _ h => h)
    (fun _ _ _ _ _ => ⟨Nat.zero_le _, .nil, .nil, Nat.zero_le _, .nil, nofun, Nat.zero_le _, .nil, nofun⟩)
    (fun _ _ _ ran how h => how.lawful ran h) law next

end Sys2Proof.Machine

/-! ### The source table and the time state (R98, R99, R103) -/

namespace Sys2Proof.Machine

/-- The laws of the ship time unit, by name. -/
structure TimeUnit.Lawful (u : TimeUnit) : Prop where
  count : u.sources.length ≤ sourceCap
  order : u.sources.Pairwise (fun x y => x.sender < y.sender)
  selected : u.selected = (leastBy TimeSource.before u.sources).map (fun x => x.sender)
  stratum : u.ownStratum = (leastBy TimeSource.before u.sources).map (fun x => x.stratum + 1)
  synced : u.state = .synced → u.sources ≠ []
  stale : u.staleDeadline.isSome = decide (u.state = .holdover)

theorem State.timeLaw_iff (s : State) : s.timeLaw ↔ s.time.Lawful := by
  constructor
  · rintro ⟨a, b, c, d, e, f⟩
    exact ⟨a, b, c, d, e, f⟩
  · rintro ⟨a, b, c, d, e, f⟩
    exact ⟨a, b, c, d, e, f⟩

theorem addSource_order {x : TimeSource} {l : List TimeSource}
    (order : l.Pairwise (fun x y => x.sender < y.sender)) (fresh : ∀ y ∈ l, y.sender ≠ x.sender) :
    (addSource x l).Pairwise (fun x y => x.sender < y.sender) := by
  refine pairwise_insertBy x l order (fun _ _ h => of_decide_eq_true h) ?_ fun y _ z _ xy yz => Nat.lt_trans xy yz
  intro y hy notBefore
  exact Nat.lt_of_le_of_ne (Nat.le_of_not_lt (of_decide_eq_false notBefore)) (fresh y hy)

theorem mem_removeSource {sender : Nat} {x : TimeSource} {l : List TimeSource} :
    x ∈ removeSource sender l ↔ x ∈ l ∧ x.sender ≠ sender := by
  simp [removeSource]

theorem removeSource_length {sender : Nat} {x : TimeSource} {l : List TimeSource} (hx : x ∈ l)
    (same : x.sender = sender) : (removeSource sender l).length < l.length :=
  List.length_filter_lt_length_iff_exists.mpr ⟨x, hx, by simp [same]⟩

section
variable {u : TimeUnit}

/-- Table, selection and state of two units agree, and with the state its deadline. -/
theorem TimeUnit.Lawful.same (law : u.Lawful) {v : TimeUnit} (sources : v.sources = u.sources := by rfl)
    (selected : v.selected = u.selected := by rfl) (stratum : v.ownStratum = u.ownStratum := by rfl)
    (state : v.state = u.state := by rfl) (stale : v.staleDeadline = u.staleDeadline := by rfl) : v.Lawful := by
  obtain ⟨a, b, c, d, e, f⟩ := law
  exact ⟨sources ▸ a, sources ▸ b, by rw [selected, sources, c], by rw [stratum, sources, d],
    by rw [state, sources]; exact e, by rw [stale, state, f]⟩

/-- The selection made afresh on a table in order. -/
theorem TimeUnit.Lawful.reselect (law : u.Lawful) {l : List TimeSource} (count : l.length ≤ sourceCap)
    (order : l.Pairwise (fun x y => x.sender < y.sender)) (synced : u.state = .synced → l ≠ []) :
    ({ u with sources := l } : TimeUnit).reselect.Lawful := ⟨count, order, rfl, rfl, synced, law.stale⟩

theorem addSource_ne_nil (x : TimeSource) (l : List TimeSource) : addSource x l ≠ [] := insertBy_ne_nil x l

theorem TimeUnit.Lawful.offer (law : u.Lawful) (x : TimeSource) : (u.offer x).Lawful := by
  unfold TimeUnit.offer
  split
  · rename_i any
    obtain ⟨y, hy, same⟩ := List.any_eq_true.mp any
    have shorter := removeSource_length hy (of_decide_eq_true same)
    refine law.reselect ?_ (addSource_order (law.order.sublist List.filter_sublist) fun z hz =>
      (mem_removeSource.mp hz).2) fun _ => addSource_ne_nil _ _
    rw [addSource, length_insertBy]
    exact Nat.lt_of_lt_of_le shorter law.count
  · rename_i none
    have fresh : ∀ y ∈ u.sources, y.sender ≠ x.sender := by simpa using none
    split
    · rename_i room
      refine law.reselect ?_ (addSource_order law.order fresh) fun _ => addSource_ne_nil _ _
      rw [addSource, length_insertBy]
      exact room
    · split
      · rename_i y worst
        split
        · refine law.reselect ?_ (addSource_order (law.order.sublist List.filter_sublist) fun z hz =>
            fresh z (mem_removeSource.mp hz).1) fun _ => addSource_ne_nil _ _
          rw [addSource, length_insertBy]
          exact Nat.lt_of_lt_of_le (removeSource_length (leastBy_mem worst) rfl) law.count
        · exact law.same
      · exact law.same

/-- A beacon's source is selected only from a table that holds one. -/
theorem TimeUnit.Lawful.sources_ne_nil (law : u.Lawful) {sender : Nat} (chosen : u.selected = some sender) :
    u.sources ≠ [] := by
  intro empty
  rw [law.selected, empty] at chosen
  exact nomatch chosen

theorem TimeUnit.Lawful.step (law : u.Lawful) (held : u.sources ≠ []) (r : Int) : (u.step r).Lawful :=
  ⟨law.count, law.order, law.selected, law.stratum, fun _ => held, rfl⟩

theorem TimeUnit.Lawful.resync (law : u.Lawful) (held : u.sources ≠ []) : u.resync.Lawful := by
  unfold TimeUnit.resync
  split
  · exact law
  · exact law
  · exact ⟨law.count, law.order, law.selected, law.stratum, fun _ => held, rfl⟩
  · exact ⟨law.count, law.order, law.selected, law.stratum, fun _ => held, rfl⟩

theorem TimeUnit.Lawful.expireSource (law : u.Lawful) (sender until_ : Nat) :
    (({ u with sources := removeSource sender u.sources } : TimeUnit).reselect.holdOver until_).Lawful := by
  have count := Nat.le_trans (List.filter_sublist (l := u.sources)
    (p := fun x => decide (x.sender ≠ sender))).length_le law.count
  have order := law.order.sublist (List.filter_sublist (p := fun x => decide (x.sender ≠ sender)))
  unfold TimeUnit.holdOver
  split
  · exact ⟨count, order, rfl, rfl, nofun, rfl⟩
  · rename_i kept
    exact ⟨count, order, rfl, rfl, fun synced empty => kept ⟨empty, synced⟩, law.stale⟩

end

/-! ### The unit at each command -/

section
variable {s : State}

theorem OnlyChanges.timeLawful {a : List Block} {s t : State} (h : OnlyChanges a s t) (off : Block.time ∉ a)
    (law : s.time.Lawful) : t.time.Lawful := (h .time off : t.time = s.time) ▸ law

theorem State.timeNotice_timeLawful (law : s.time.Lawful) : s.timeNotice.time.Lawful :=
  s.timeNotice_changes.timeLawful (by decide) law

theorem State.announceMinute_timeLawful (law : s.time.Lawful) (minute : Nat) :
    (s.announceMinute minute).time.Lawful := by
  unfold State.announceMinute
  dsimp only
  split
  · refine OnlyChanges.timeLawful (State.pageNotice_changes _ _) (by decide) ?_
    have taken : ((s.timeDo fun u => { u with notifiedMinute := minute }).progTakesMinute minute).time.Lawful :=
      OnlyChanges.timeLawful (State.progTakesMinute_changes _ _) (by decide) law.same
    split
    · exact OnlyChanges.timeLawful (State.cascade_changes _ _) (by decide) taken
    · exact taken
  · exact law.same

theorem State.reachMinute_timeLawful (law : s.time.Lawful) : s.reachMinute.time.Lawful := by
  unfold State.reachMinute
  split
  · exact State.announceMinute_timeLawful law _
  · exact law

theorem State.announceStep_timeLawful (law : s.time.Lawful) (kind : StepKind) :
    (s.announceStep kind).time.Lawful := by
  unfold State.announceStep
  dsimp only
  split
  · refine OnlyChanges.timeLawful (State.pageNotice_changes _ _) (by decide) ?_
    refine OnlyChanges.timeLawful (State.cascades_changes _ _) (by decide) ?_
    exact OnlyChanges.timeLawful (State.progTakesStep_changes _ _ _ _) (by decide) law.same
  · exact law.same

theorem State.slewTicks_timeLawful (law : s.time.Lawful) : s.slewTicks.time.Lawful := by
  unfold State.slewTicks
  split
  · dsimp only
    split
    · exact State.reachMinute_timeLawful (s := s.timeDo TimeUnit.tickSlew) law.same
    · exact law.same
  · exact law

theorem State.slewBeacon_timeLawful (law : s.time.Lawful) (held : s.time.sources ≠ []) (r : Int) :
    (s.slewBeacon r).time.Lawful := by
  have slewed : (s.timeDo fun u => (u.slew s.clock r).resync).time.Lawful :=
    TimeUnit.Lawful.resync (u := s.time.slew s.clock r) law.same held
  unfold State.slewBeacon
  dsimp only
  split
  · exact slewed
  · exact State.timeNotice_timeLawful slewed

theorem State.stepBeacon_timeLawful (law : s.time.Lawful) (held : s.time.sources ≠ []) (r : Int) :
    (s.stepBeacon r).time.Lawful := by
  unfold State.stepBeacon
  dsimp only
  split
  · exact law.same
  · split
    · exact State.announceStep_timeLawful (s := s.timeDo _) (law.step held r).same _
    · exact law.same

theorem State.discipline_timeLawful (law : s.time.Lawful) (held : s.time.sources ≠ []) (r : Int) :
    (s.discipline r).time.Lawful := by
  unfold State.discipline
  split
  · exact State.announceStep_timeLawful (s := s.timeDo fun u => u.step r) (law.step held r) _
  · split
    · exact State.slewBeacon_timeLawful law held r
    · exact State.stepBeacon_timeLawful law held r

theorem State.takeBeacon_timeLawful (law : s.time.Lawful) (sender : Nat) (b : BeaconPayload) :
    (s.takeBeacon sender b).time.Lawful := by
  unfold State.takeBeacon
  split
  · split
    · exact law.same
    · have offered : (s.timeDo fun u => u.offer ⟨sender, b.stratum, s.clock⟩).time.Lawful := law.offer _
      dsimp only
      split
      · rename_i chosen
        exact State.discipline_timeLawful offered (offered.sources_ne_nil chosen) _
      · exact offered
  · exact law

theorem State.expireSource_timeLawful (law : s.time.Lawful) (sender : Nat) :
    (s.expireSource sender).time.Lawful := by
  have expired := law.expireSource sender (s.clock + s.cfg.staleLimit * 60000)
  unfold State.expireSource
  split
  · exact law
  · split
    · dsimp only
      split
      · exact expired
      · exact State.timeNotice_timeLawful (s := s.timeDo _) expired
    · exact law

theorem State.becomeStale_timeLawful (law : s.time.Lawful) : s.becomeStale.time.Lawful := by
  unfold State.becomeStale
  split
  · exact State.timeNotice_timeLawful (s := s.timeDo _)
      ⟨law.count, law.order, law.selected, law.stratum, nofun, rfl⟩
  · exact law

theorem State.beaconDue_timeLawful (law : s.time.Lawful) : s.beaconDue.time.Lawful := by
  have asked : (if s.time.beaconing then
      s.portsInUse.foldl (fun t p => t.request p .beacon .whole .beacon) s else s).time.Lawful := by
    have only : OnlyChanges [.ports] s (s.portsInUse.foldl (fun t p => t.request p .beacon .whole .beacon) s) :=
      OnlyChanges.foldl (fun t p => t.request_changes p _ _ _) _ _
    split
    · exact only.timeLawful (by decide) law
    · exact law
  unfold State.beaconDue
  split
  · exact TimeUnit.Lawful.same asked
  · exact law

/-- The first frames of a node in OPERATING: SOLICIT, FULL token and own report (R173). -/
def State.firstFrames (s : State) : State :=
  let s := s.portsInUse.foldl (fun t p => t.requestOwn p .solicit .whole []) s
  let s := s.portsInUse.foldl (fun t p => t.requestToken p (.full 1)) s
  s.cabinReport

theorem State.firstFrames_changes (s : State) : OnlyChanges [.ports] s s.firstFrames :=
  ((OnlyChanges.foldl (fun t p => t.requestOwn_changes p _ _ _) _ _).trans
    (OnlyChanges.foldl (fun t p => t.requestToken_changes p _) _ _)).trans (State.cabinReport_changes _)

/-- The due listen period's end: the move, the first frames, and the two periodic deadlines (R24, R106, R173). -/
theorem State.listenEnds_due {s : State} (listening : s.start.lifecycle = .listening)
    (isDue : due s.start.listenDeadline s.clock = true) :
    s.listenEnds =
      ((s.startDo StartBlock.operates).firstFrames.routeDo fun r =>
        { r with nextFull := some ((s.startDo StartBlock.operates).firstFrames.clock +
          (s.startDo StartBlock.operates).firstFrames.advertMs +
          (s.startDo StartBlock.operates).firstFrames.cfg.phaseOffset) }).timeDo fun u =>
        { u with beaconDeadline := some ((s.startDo StartBlock.operates).firstFrames.clock +
          (s.startDo StartBlock.operates).firstFrames.cfg.beaconInterval * 1000 +
          (s.startDo StartBlock.operates).firstFrames.cfg.phaseOffset) } := by
  unfold State.listenEnds
  rw [if_pos ⟨listening, isDue⟩]
  rfl

theorem State.listenEnds_timeLawful (law : s.time.Lawful) : s.listenEnds.time.Lawful := by
  by_cases ends : s.start.lifecycle = .listening ∧ due s.start.listenDeadline s.clock = true
  · obtain ⟨listening, isDue⟩ := ends
    have asked : (s.startDo StartBlock.operates).firstFrames.time.Lawful :=
      (State.firstFrames_changes _).timeLawful (by decide) law
    rw [State.listenEnds_due listening isDue]
    exact asked.same
  · unfold State.listenEnds
    rwa [if_neg ends]

theorem classHandler_timeLawful {p : Port} {cls : FrameClass} {f : RxFrame} {h : State → State}
    (hh : classHandler p cls f = some h) (law : s.time.Lawful) : (h s).time.Lawful := by
  by_cases outside : Block.time ∉ frameBlocks cls
  · exact (classHandler_blocks hh s).timeLawful outside law
  · cases cls with
    | beacon =>
      obtain ⟨b, -, rfl⟩ := Option.map_eq_some_iff.mp hh
      exact State.takeBeacon_timeLawful law _ b
    | _ => exact absurd (by decide) outside

theorem Taken.timeLawful {c : Instr} {t : State} (ran : exec c s = .next t) (h : Taken c s t)
    (law : s.time.Lawful) : t.time.Lawful := by
  cases h with
  | work _ only =>
    by_cases outside : Block.time ∉ commandBlocks c
    · exact only.timeLawful outside law
    · cases c with
      | sourceExpiry sender =>
        cases ran
        exact State.expireSource_timeLawful law sender
      | staleDeadline =>
        cases ran
        exact State.becomeStale_timeLawful law
      | slewTick =>
        cases ran
        exact State.slewTicks_timeLawful law
      | minuteNotice =>
        cases ran
        exact State.reachMinute_timeLawful law
      | beaconDeadline =>
        cases ran
        exact State.beaconDue_timeLawful law
      | _ => exact absurd (by simp [commandBlocks]) outside
  | frame tested handled => exact classHandler_timeLawful handled (tested.2.timeLawful (by decide) law)
  | image octets => exact (s.imageReadEnds_changes octets).timeLawful (by decide) law
  | listen => exact State.listenEnds_timeLawful law

end

/-- Settles O44: the table is offered to and selected from in one operation each, and a node is SYNCED only by a
beacon of a held source. -/
theorem timeLawKept : Obligations.TimeLawKept := by
  unfold Obligations.TimeLawKept
  intro s t law next
  rw [State.timeLaw_iff] at law ⊢
  exact step_keeps (P := fun s => s.time.Lawful) (fun _ h => h) (fun _ _ h => h)
    (fun _ _ _ _ _ => ⟨Nat.zero_le _, .nil, rfl, rfl, nofun, rfl⟩)
    (fun _ _ _ ran how h => how.timeLawful ran h) law next

end Sys2Proof.Machine

/-! ### What an image gives: the copy field by field, and the fields moved (R168, R172) -/

namespace Sys2Proof.Machine

/-- A value brought into its range (R172). -/
abbrev clamped (lo hi v : Nat) : Nat := max lo (min hi v)

/-- The fields of an image that a reading brings into their ranges: lowest, highest, as it stands. -/
abbrev Fields := List (Nat × Nat × Nat)

/-! ### Readings of fields with other clamps beside them -/

theorem Clamp.Gives.partWith {α β : Type} {m : Clamp α} {f : α → Clamp β} {v : α} {w : β} {a b : Fields} {x : Nat}
    (first : m.Gives v (outsideRange a + x)) (second : (f v).Gives w (outsideRange b)) :
    Clamp.Gives (m >>= f) w (outsideRange (a ++ b) + x) := by
  rw [outsideRange_append, Nat.add_right_comm]
  exact first.bind second

theorem Clamp.Gives.clampWith {β : Type} {lo hi v : Nat} {f : Nat → Clamp β} {w : β} {l : Fields} {x : Nat}
    (h : lo ≤ hi) (rest : (f (max lo (min hi v))).Gives w (outsideRange l + x)) :
    Clamp.Gives (clampTo lo hi v >>= f) w (outsideRange ((lo, hi, v) :: l) + x) := by
  rw [outsideRange_cons, Nat.add_assoc]
  exact (gives_clampTo v h).bind rest

theorem Clamp.Gives.listWith {α β : Type} {g : Nat → Clamp α} {f : List α → Clamp β} {v : Nat → α}
    {fields : Nat → Fields} (each : ∀ i, (g i).Gives (v i) (outsideRange (fields i))) {l : List Nat} {w : β}
    {b : Fields} {x : Nat} (second : (f (l.map v)).Gives w (outsideRange b + x)) :
    Clamp.Gives (l.mapM g >>= f) w (outsideRange (l.flatMap fields ++ b) + x) := by
  rw [outsideRange_append, Nat.add_assoc]
  exact (gives_list each l).bind second

section
variable (image : List Byte)

/-! ### One record of each list -/

def neighbourCopy (i : Nat) : NeighbourCfg where
  node := clamped 1 4095 (imageWord image (12 + 10 * i))
  port := portOfCode (clamped 0 1 (imageOctet image (12 + 10 * i + 2)))
  distance := clamped 1 2000 (imageWord image (12 + 10 * i + 3))
  kind := LinkKind.ofCode (clamped 0 2 (imageOctet image (12 + 10 * i + 5)))
  boundary := (imageOctet image (12 + 10 * i + 6)).testBit 0
  zone := clamped 1 15 (imageOctet image (12 + 10 * i + 7))
  deck := clamped 0 31 (imageOctet image (12 + 10 * i + 8))
  bearing := Bearing.ofCode (clamped 0 9 (imageOctet image (12 + 10 * i + 9)))

def neighbourFields (i : Nat) : Fields :=
  [(1, 4095, imageWord image (12 + 10 * i)), (0, 1, imageOctet image (12 + 10 * i + 2)),
    (1, 2000, imageWord image (12 + 10 * i + 3)), (0, 2, imageOctet image (12 + 10 * i + 5)),
    (1, 15, imageOctet image (12 + 10 * i + 7)), (0, 31, imageOctet image (12 + 10 * i + 8)),
    (0, 9, imageOctet image (12 + 10 * i + 9))]

theorem readNeighbour_gives (i : Nat) :
    (readNeighbour image i).Gives (neighbourCopy image i) (outsideRange (neighbourFields image i)) :=
  .clampThen (by decide) <| .clampThen (by decide) <| .clampThen (by decide) <| .clampThen (by decide) <|
    .clampThen (by decide) <| .clampThen (by decide) <| .clampThen (by decide) <| Clamp.gives_pure _

def anchoredCopy (i : Nat) : AnchoredCfg where
  dest := clamped 1 255 (imageOctet image (72 + 2 * i))
  kind := clampedKind (clamped 0 2 (imageOctet image (73 + 2 * i)))

def anchoredFields (i : Nat) : Fields :=
  [(1, 255, imageOctet image (72 + 2 * i)), (0, 2, imageOctet image (73 + 2 * i))]

theorem readAnchored_gives (i : Nat) :
    (readAnchored image i).Gives (anchoredCopy image i) (outsideRange (anchoredFields image i)) :=
  .clampThen (by decide) <| .clampThen (by decide) <| Clamp.gives_pure _

def labelCopy (i : Nat) : LabelCfg where
  dest := clamped 1 255 (imageOctet image (80 + 13 * i))
  kind := clampedKind (clamped 0 2 (imageOctet image (80 + 13 * i + 1)))
  deck := clamped 0 31 (imageOctet image (80 + 13 * i + 2))
  zone := clamped 1 15 (imageOctet image (80 + 13 * i + 3))
  label := imageGlyphs image (80 + 13 * i + 5) (clamped 0 8 (imageOctet image (80 + 13 * i + 4)))

def labelFields (i : Nat) : Fields :=
  [(1, 255, imageOctet image (80 + 13 * i)), (0, 2, imageOctet image (80 + 13 * i + 1)),
    (0, 31, imageOctet image (80 + 13 * i + 2)), (1, 15, imageOctet image (80 + 13 * i + 3)),
    (0, 8, imageOctet image (80 + 13 * i + 4))]

theorem readLabel_gives (i : Nat) :
    (readLabel image i).Gives (labelCopy image i) (outsideRange (labelFields image i)) :=
  .clampThen (by decide) <| .clampThen (by decide) <| .clampThen (by decide) <| .clampThen (by decide) <|
    .clampThen (by decide) <| Clamp.gives_pure _

def signpostCopy (i : Nat) : SignpostCfg where
  dest := clamped 1 255 (imageOctet image (288 + 18 * i))
  label := imageGlyphs image (288 + 18 * i + 2) (clamped 0 16 (imageOctet image (288 + 18 * i + 1)))

def signpostFields (i : Nat) : Fields :=
  [(1, 255, imageOctet image (288 + 18 * i)), (0, 16, imageOctet image (288 + 18 * i + 1))]

theorem readSignpost_gives (i : Nat) :
    (readSignpost image i).Gives (signpostCopy image i) (outsideRange (signpostFields image i)) :=
  .clampThen (by decide) <| .clampThen (by decide) <| Clamp.gives_pure _

def lineCopy (i : Nat) : LineCfg where
  function := LineFunction.ofCode (clamped 0 7 (imageOctet image (397 + 3 * i)))
  edge := ActiveEdge.ofCode (clamped 0 2 (imageOctet image (398 + 3 * i)))
  debounce := imageOctet image (399 + 3 * i)

def lineFields (i : Nat) : Fields :=
  [(0, 7, imageOctet image (397 + 3 * i)), (0, 2, imageOctet image (398 + 3 * i))]

theorem readLine_gives (i : Nat) :
    (readLine image i).Gives (lineCopy image i) (outsideRange (lineFields image i)) :=
  .clampThen (by decide) <| .clampThen (by decide) <| Clamp.gives_pure _

def timerCopy (i : Nat) : TimerCfg where
  terminal := clamped 1 65535 (imageWord image (453 + 3 * i))
  mode := TimerMode.ofCode (clamped 0 1 (imageOctet image (455 + 3 * i)))

def timerFields (i : Nat) : Fields :=
  [(1, 65535, imageWord image (453 + 3 * i)), (0, 1, imageOctet image (455 + 3 * i))]

theorem readTimer_gives (i : Nat) :
    (readTimer image i).Gives (timerCopy image i) (outsideRange (timerFields image i)) :=
  .clampThen (by decide) <| .clampThen (by decide) <| Clamp.gives_pure _

/-! ### Trigger sets (R110, section 7.3) -/

/-- The highest argument of a factor that takes one. -/
def factorTop : Factor → Option Nat
  | .none => none
  | .minute => some 1439
  | .programmeLead => none
  | .input => some 7
  | .alarmChange => some 3
  | .routeChange => some 255
  | .timer => some 1

/-- The highest argument of an action that takes a number. -/
def actionTop : Action → Option Nat
  | .none => none
  | .showPage => some 2
  | .capture => some 3
  | .timerStart => some 1
  | .timerStop => some 1
  | .luminance => some 1023
  | .quietEnter => none
  | .quietLeave => none
  | .enableSets => none
  | .disableSets => none

/-- The one field of an argument with a highest value, or none. -/
def topFields (top : Option Nat) (v : Nat) : Fields := (top.map fun top => (0, top, v)).toList

def factorArgCopy (f : Factor) (v : Nat) : Nat :=
  match factorTop f with
  | some top => clamped 0 top v
  | none => 0

def actionArgCopy (x : Action) (v : Nat) : Nat :=
  match actionTop x with
  | some top => clamped 0 top v
  | none => if x = .enableSets ∨ x = .disableSets then v % 16 else 0

theorem Clamp.gives_top (top v : Nat) :
    Clamp.Gives (clampTo 0 top v) (clamped 0 top v) (outsideRange (topFields (some top) v)) :=
  gives_clampTo v (Nat.zero_le top)

theorem clampFactorArg_gives (f : Factor) (v : Nat) :
    (clampFactorArg f v).Gives (factorArgCopy f v) (outsideRange (topFields (factorTop f) v)) := by
  cases f with
  | none => exact Clamp.gives_pure 0
  | minute => exact Clamp.gives_top 1439 v
  | programmeLead => exact Clamp.gives_pure 0
  | input => exact Clamp.gives_top 7 v
  | alarmChange => exact Clamp.gives_top 3 v
  | routeChange => exact Clamp.gives_top 255 v
  | timer => exact Clamp.gives_top 1 v

theorem clampActionArg_gives (x : Action) (v : Nat) :
    (clampActionArg x v).Gives (actionArgCopy x v) (outsideRange (topFields (actionTop x) v)) := by
  cases x with
  | none => exact Clamp.gives_pure 0
  | showPage => exact Clamp.gives_top 2 v
  | capture => exact Clamp.gives_top 3 v
  | timerStart => exact Clamp.gives_top 1 v
  | timerStop => exact Clamp.gives_top 1 v
  | luminance => exact Clamp.gives_top 1023 v
  | quietEnter => exact Clamp.gives_pure 0
  | quietLeave => exact Clamp.gives_pure 0
  | enableSets => exact Clamp.gives_pure (v % 16)
  | disableSets => exact Clamp.gives_pure (v % 16)

def triggerFactor (i : Nat) : Factor := Factor.ofCode (clamped 0 6 (imageOctet image (421 + 8 * i)))
def triggerAction (i : Nat) : Action := Action.ofCode (clamped 0 9 (imageOctet image (421 + 8 * i + 3)))

def triggerCopy (i : Nat) : TriggerCfg where
  factor := triggerFactor image i
  factorArg := factorArgCopy (triggerFactor image i) (imageWord image (421 + 8 * i + 1))
  action := triggerAction image i
  actionArg := actionArgCopy (triggerAction image i) (imageWord image (421 + 8 * i + 4))
  chain := BitVec.ofNat 4 (imageOctet image (421 + 8 * i + 6))
  repeats := (imageOctet image (421 + 8 * i + 7)).testBit 0
  normalOnly := (imageOctet image (421 + 8 * i + 7)).testBit 1
  enabledAtStart := (imageOctet image (421 + 8 * i + 7)).testBit 2

/-- The fields of a trigger set as they are read, factor and action each before its argument. -/
def triggerFields (i : Nat) : Fields :=
  (0, 6, imageOctet image (421 + 8 * i)) ::
    (topFields (factorTop (triggerFactor image i)) (imageWord image (421 + 8 * i + 1)) ++
      (0, 9, imageOctet image (421 + 8 * i + 3)) ::
        (topFields (actionTop (triggerAction image i)) (imageWord image (421 + 8 * i + 4)) ++ []))

theorem readTrigger_gives (i : Nat) :
    (readTrigger image i).Gives (triggerCopy image i) (outsideRange (triggerFields image i)) :=
  .clampThen (by decide) <| .andThen (clampFactorArg_gives _ _) <| .clampThen (by decide) <|
    .andThen (clampActionArg_gives _ _) <| Clamp.gives_pure _

/-! ### Panel parameters (chapter 9) -/

def panelCopy : PanelCfg where
  groupCount := clamped 1 4 (imageOctet image 459)
  windowCount := clamped 2 8 (imageOctet image 460)
  windowSeconds := clamped 10 3600 (imageWord image 461)
  gapAnyMicros := clamped 0 60000000 (imageLong image 463)
  gapAnyFrames := clamped 0 600 (imageWord image 467)
  gapSameMicros := clamped 0 60000000 (imageLong image 469)
  gapSameFrames := clamped 0 600 (imageWord image 473)
  framePeriodMicros := clamped 1000 100000 (imageLong image 475)
  ghostLimit := clamped 1 32 (imageOctet image 479)
  refreshTimeout := clamped 1 30 (imageOctet image 480)
  dayLevel := clamped 0 1023 (imageWord image 481)
  nightLevel := clamped 0 1023 (imageWord image 483)
  rampInitial := clamped 1 255 (imageOctet image 485)
  rampAcceleration := clamped 0 63 (imageOctet image 486)
  rampMaximum := clamped 1 1023 (imageWord image 487)

def panelFields : Fields :=
  [(1, 4, imageOctet image 459), (2, 8, imageOctet image 460), (10, 3600, imageWord image 461),
    (0, 60000000, imageLong image 463), (0, 600, imageWord image 467), (0, 60000000, imageLong image 469),
    (0, 600, imageWord image 473), (1000, 100000, imageLong image 475), (1, 32, imageOctet image 479),
    (1, 30, imageOctet image 480), (0, 1023, imageWord image 481), (0, 1023, imageWord image 483),
    (1, 255, imageOctet image 485), (0, 63, imageOctet image 486), (1, 1023, imageWord image 487)]

theorem readPanel_gives : (readPanel image).Gives (panelCopy image) (outsideRange (panelFields image)) :=
  .clampThen (by decide) <| .clampThen (by decide) <| .clampThen (by decide) <| .clampThen (by decide) <|
    .clampThen (by decide) <| .clampThen (by decide) <| .clampThen (by decide) <| .clampThen (by decide) <|
    .clampThen (by decide) <| .clampThen (by decide) <| .clampThen (by decide) <| .clampThen (by decide) <|
    .clampThen (by decide) <| .clampThen (by decide) <| .clampThen (by decide) <| Clamp.gives_pure _

/-! ### Sweep ranges and cabin number (R92, R172) -/

/-- A role that uses the sweep ranges (R172). -/
def Role.ranged : Role → Bool
  | .corridor => true
  | .stair => true
  | .cabin => false
  | .assembly => false

/-- The first and the last cabin of a range as clamped (DESIGN CHOICE, log entry 38). -/
def rangeEnds (i : Nat) : Nat × Nat :=
  (clamped 1 9999 (imageWord image (389 + 4 * i)), clamped 1 9999 (imageWord image (391 + 4 * i)))

def rangeCopy (i : Nat) : Nat × Nat :=
  (min (rangeEnds image i).1 (rangeEnds image i).2, max (rangeEnds image i).1 (rangeEnds image i).2)

def rangeFields (i : Nat) : Fields :=
  [(1, 9999, imageWord image (389 + 4 * i)), (1, 9999, imageWord image (391 + 4 * i))]

/-- A range whose cabins are exchanged. -/
def exchanged (i : Nat) : Bool := decide ((rangeEnds image i).2 < (rangeEnds image i).1)

theorem readRange_gives (i : Nat) : (readRange image i).Gives (rangeCopy image i)
    (outsideRange (rangeFields image i) + (exchanged image i).toNat) := by
  have ends : Clamp.Gives (if (rangeEnds image i).2 < (rangeEnds image i).1 then
        (do modify (· + 1); pure ((rangeEnds image i).2, (rangeEnds image i).1) : Clamp (Nat × Nat))
      else pure (rangeEnds image i)) (rangeCopy image i) (exchanged image i).toNat := by
    by_cases less : (rangeEnds image i).2 < (rangeEnds image i).1
    · rw [if_pos less, rangeCopy, exchanged, decide_eq_true less, Nat.min_eq_right (Nat.le_of_lt less),
        Nat.max_eq_left (Nat.le_of_lt less)]
      exact fun n => rfl
    · rw [if_neg less, rangeCopy, exchanged, decide_eq_false less, Nat.min_eq_left (Nat.le_of_not_lt less),
        Nat.max_eq_right (Nat.le_of_not_lt less)]
      exact fun n => rfl
  rw [← Nat.zero_add (exchanged image i).toNat] at ends
  exact .clampWith (by decide) (.clampWith (by decide) ends)

def rangesCopy (role : Role) : List (Nat × Nat) :=
  if role.ranged then (List.range (imageOctet image 11)).map (rangeCopy image) else []

def rangesFields (role : Role) : Fields :=
  if role.ranged then (List.range (imageOctet image 11)).flatMap (rangeFields image) else []

def exchanges (role : Role) : Nat :=
  if role.ranged then (List.range (imageOctet image 11)).countP (exchanged image) else 0

theorem sum_outsideRange (l : List Nat) : (l.map fun i => outsideRange (rangeFields image i) +
    (exchanged image i).toNat).sum = outsideRange (l.flatMap (rangeFields image)) + l.countP (exchanged image) := by
  induction l with
  | nil => rfl
  | cons i l ih =>
    rw [List.map_cons, List.sum_cons, ih, List.flatMap_cons, outsideRange_append, List.countP_cons]
    cases exchanged image i
    · simp only [Bool.toNat_false, Bool.false_eq_true, if_false]
      omega
    · simp only [Bool.toNat_true, if_true]
      omega

theorem readRanges_gives (role : Role) : (readRanges image role).Gives (rangesCopy image role)
    (outsideRange (rangesFields image role) + exchanges image role) := by
  have read : Clamp.Gives ((List.range (imageOctet image 11)).mapM (readRange image))
      ((List.range (imageOctet image 11)).map (rangeCopy image))
      (outsideRange ((List.range (imageOctet image 11)).flatMap (rangeFields image)) +
        (List.range (imageOctet image 11)).countP (exchanged image)) :=
    sum_outsideRange image _ ▸ Clamp.gives_mapM (readRange_gives image) _
  cases role with
  | corridor => exact read
  | stair => exact read
  | cabin => exact fun _ => rfl
  | assembly => exact fun _ => rfl

def cabinCopy (role : Role) : Nat := if role = .cabin then clamped 1 9999 (imageWord image 387) else 0

def cabinFields (role : Role) : Fields := if role = .cabin then [(1, 9999, imageWord image 387)] else []

theorem readCabinNumber_gives (role : Role) : (readCabinNumber image role).Gives (cabinCopy image role)
    (outsideRange (cabinFields image role)) := by
  cases role with
  | corridor => exact Clamp.gives_pure 0
  | stair => exact Clamp.gives_pure 0
  | cabin => exact Clamp.gives_clampTo _ (by decide)
  | assembly => exact Clamp.gives_pure 0

/-! ### The whole image -/

def imageRole : Role := Role.ofCode (clamped 0 3 (imageOctet image 4))

def blinkPeriodCopy : Nat := clamped 100 5000 (imageWord image 489)

/-- The configuration copy an image gives. -/
def imageCopy : ConfigCopy where
  nodeNumber := imageWord image 0
  deck := clamped 0 31 (imageOctet image 2)
  zone := clamped 1 15 (imageOctet image 3)
  role := imageRole image
  bothPorts := decide (clamped 0 1 (imageOctet image 5) = 1)
  bitRate := BitRate.ofCode (clamped 0 1 (imageOctet image 6))
  neighbours := (List.range (imageOctet image 7)).map (neighbourCopy image)
  anchored := (List.range (imageOctet image 8)).map (anchoredCopy image)
  labels := (List.range (imageOctet image 9)).map (labelCopy image)
  signposted := (List.range (imageOctet image 10)).map (signpostCopy image)
  sweepRanges := rangesCopy image (imageRole image)
  assemblyPrimary := imageOctet image 76
  assemblyAlternate := imageOctet image 77
  embarkPrimary := imageOctet image 78
  embarkAlternate := imageOctet image 79
  stairUpFactor := clamped 8 32 (imageOctet image 360)
  stairDownFactor := clamped 8 32 (imageOctet image 361)
  cautionPenalty := clamped 0 5000 (imageWord image 362)
  boundaryPenalty := clamped 0 500 (imageWord image 364)
  hysteresis := clamped 0 255 (imageOctet image 366)
  advertInterval := clamped 2 60 (imageOctet image 367)
  triggeredThreshold := clamped 0 1000 (imageWord image 368)
  triggeredGap := clamped 100 5000 (imageWord image 370)
  holdDown := clamped 0 30 (imageOctet image 372)
  returnDelay := clamped 0 120 (imageOctet image 373)
  beaconInterval := clamped 1 60 (imageOctet image 374)
  slewWindow := clamped 1 1000 (imageWord image 375)
  transitAllowance := clamped 0 20 (imageOctet image 377)
  staleLimit := clamped 10 1440 (imageWord image 378)
  lookahead := clamped 0 720 (imageWord image 380)
  linesPerPage := clamped 3 8 (imageOctet image 382)
  dwell := clamped 2 60 (imageOctet image 383)
  spotlightDwell := clamped 2 60 (imageOctet image 384)
  presenceDwell := clamped 10 600 (imageWord image 385)
  cabinNumber := cabinCopy image (imageRole image)
  lines := (List.range 8).map (lineCopy image)
  triggers := (List.range 4).map (triggerCopy image)
  timers := (List.range 2).map (timerCopy image)
  panel := panelCopy image
  blinkPeriod := blinkPeriodCopy image
  blinkOnTime := clamped 50 (blinkPeriodCopy image - 50) (imageWord image 491)
  listenPeriod := clamped 2 60 (imageOctet image 493)

/-- The fields of link costs. -/
def costFields : Fields :=
  [(8, 32, imageOctet image 360), (8, 32, imageOctet image 361), (0, 5000, imageWord image 362),
    (0, 500, imageWord image 364)]

/-- The fields of schedules, ship time and pages. -/
def scheduleFields : Fields :=
  [(2, 60, imageOctet image 367), (0, 1000, imageWord image 368), (100, 5000, imageWord image 370),
    (0, 30, imageOctet image 372), (0, 120, imageOctet image 373), (1, 60, imageOctet image 374),
    (1, 1000, imageWord image 375), (0, 20, imageOctet image 377), (10, 1440, imageWord image 378),
    (0, 720, imageWord image 380), (3, 8, imageOctet image 382), (2, 60, imageOctet image 383),
    (2, 60, imageOctet image 384), (10, 600, imageWord image 385)]

/-- The fields after the sweep ranges, in the order they are read. -/
def laterFields : Fields :=
  (8, 32, imageOctet image 360) :: (8, 32, imageOctet image 361) :: (0, 5000, imageWord image 362) ::
  (0, 500, imageWord image 364) :: (0, 255, imageOctet image 366) :: (2, 60, imageOctet image 367) ::
  (0, 1000, imageWord image 368) :: (100, 5000, imageWord image 370) :: (0, 30, imageOctet image 372) ::
  (0, 120, imageOctet image 373) :: (1, 60, imageOctet image 374) :: (1, 1000, imageWord image 375) ::
  (0, 20, imageOctet image 377) :: (10, 1440, imageWord image 378) :: (0, 720, imageWord image 380) ::
  (3, 8, imageOctet image 382) :: (2, 60, imageOctet image 383) :: (2, 60, imageOctet image 384) ::
  (10, 600, imageWord image 385) ::
    (cabinFields image (imageRole image) ++
      ((List.range 8).flatMap (lineFields image) ++
        ((List.range 4).flatMap (triggerFields image) ++
          ((List.range 2).flatMap (timerFields image) ++
            (panelFields image ++
              [(100, 5000, imageWord image 489), (50, blinkPeriodCopy image - 50, imageWord image 491),
                (2, 60, imageOctet image 493)])))))

theorem laterFields_eq : laterFields image =
    costFields image ++ (0, 255, imageOctet image 366) :: (scheduleFields image ++
      (cabinFields image (imageRole image) ++
        ((List.range 8).flatMap (lineFields image) ++
          ((List.range 4).flatMap (triggerFields image) ++
            ((List.range 2).flatMap (timerFields image) ++
              (panelFields image ++
                [(100, 5000, imageWord image 489), (50, blinkPeriodCopy image - 50, imageWord image 491),
                  (2, 60, imageOctet image 493)])))))) := rfl

/-- The fields of deck, zone, role, ports and bit rate. -/
def nodeFields : Fields :=
  [(0, 31, imageOctet image 2), (1, 15, imageOctet image 3), (0, 3, imageOctet image 4),
    (0, 1, imageOctet image 5), (0, 1, imageOctet image 6)]

/-- All fields of an image in the order they are read. -/
def imageFields : Fields :=
  (0, 31, imageOctet image 2) :: (1, 15, imageOctet image 3) :: (0, 3, imageOctet image 4) ::
  (0, 1, imageOctet image 5) :: (0, 1, imageOctet image 6) ::
    ((List.range (imageOctet image 7)).flatMap (neighbourFields image) ++
      ((List.range (imageOctet image 8)).flatMap (anchoredFields image) ++
        ((List.range (imageOctet image 9)).flatMap (labelFields image) ++
          ((List.range (imageOctet image 10)).flatMap (signpostFields image) ++
            (rangesFields image (imageRole image) ++ laterFields image)))))

theorem imageFields_eq : imageFields image = nodeFields image ++
    ((List.range (imageOctet image 7)).flatMap (neighbourFields image) ++
      ((List.range (imageOctet image 8)).flatMap (anchoredFields image) ++
        ((List.range (imageOctet image 9)).flatMap (labelFields image) ++
          ((List.range (imageOctet image 10)).flatMap (signpostFields image) ++
            (rangesFields image (imageRole image) ++ laterFields image))))) := rfl

theorem readConfig_gives : (readConfig image).Gives (imageCopy image)
    (outsideRange (imageFields image) + exchanges image (imageRole image)) :=
  .clampWith (by decide) <| .clampWith (by decide) <| .clampWith (by decide) <| .clampWith (by decide) <|
    .clampWith (by decide) <| .listWith (readNeighbour_gives image) <| .listWith (readAnchored_gives image) <|
    .listWith (readLabel_gives image) <| .listWith (readSignpost_gives image) <|
    .partWith (readRanges_gives image _) <|
    .clampThen (by decide) <| .clampThen (by decide) <| .clampThen (by decide) <| .clampThen (by decide) <|
    .clampThen (by decide) <| .clampThen (by decide) <| .clampThen (by decide) <| .clampThen (by decide) <|
    .clampThen (by decide) <| .clampThen (by decide) <| .clampThen (by decide) <| .clampThen (by decide) <|
    .clampThen (by decide) <| .clampThen (by decide) <| .clampThen (by decide) <| .clampThen (by decide) <|
    .clampThen (by decide) <| .clampThen (by decide) <| .clampThen (by decide) <|
    .andThen (readCabinNumber_gives image _) <| .andThen (Clamp.gives_list (readLine_gives image) _) <|
    .andThen (Clamp.gives_list (readTrigger_gives image) _) <|
    .andThen (Clamp.gives_list (readTimer_gives image) _) <| .andThen (readPanel_gives image) <|
    .clampThen (by decide) <| .clampThen (by omega) <| .clampThen (by decide) <| Clamp.gives_pure _

end

end Sys2Proof.Machine

/-! ### The fields of a good image as they stand in the layout (R168, R172) -/

namespace Sys2Proof.Machine

theorem imageOctet_le (image : List Byte) (i : Nat) : imageOctet image i ≤ 255 :=
  Nat.le_of_lt_succ (image.getD i 0#8).isLt

theorem clamped_le (lo hi v : Nat) (h : lo ≤ hi) : clamped lo hi v ≤ hi := Nat.max_le.mpr ⟨h, Nat.min_le_left _ _⟩

theorem clamped_zero (hi v : Nat) : clamped 0 hi v = min hi v := Nat.zero_max _

/-- A record read for each number of a count. -/
theorem getElem?_map_range {α : Type} {f : Nat → α} {n i : Nat} {x : α}
    (h : ((List.range n).map f)[i]? = some x) : x = f i ∧ i < n := by
  obtain ⟨lt, eq⟩ := List.getElem?_eq_some_iff.mp h
  rw [List.getElem_map, List.getElem_range] at eq
  exact ⟨eq.symm, by simpa using lt⟩

/-! ### Codes brought into their ranges -/

theorem portOfCode_clamped (v : Nat) : [Port.a, .b][min 1 v]? = some (portOfCode (clamped 0 1 v)) := by
  rw [clamped_zero]
  have bound : min 1 v < 2 := Nat.lt_succ_of_le (Nat.min_le_left _ _)
  generalize min 1 v = code at bound ⊢
  revert code
  decide

theorem destKind_clamped (v : Nat) :
    [DestKind.assembly, .embark, .venue][min 2 v]? = some (clampedKind (clamped 0 2 v)) := by
  rw [clamped_zero]
  have bound : min 2 v < 3 := Nat.lt_succ_of_le (Nat.min_le_left _ _)
  generalize min 2 v = code at bound ⊢
  revert code
  decide

theorem linkKind_clamped (v : Nat) :
    [LinkKind.level, .stairUp, .stairDown][min 2 v]? = some (LinkKind.ofCode (clamped 0 2 v)) := by
  rw [clamped_zero]
  have bound : min 2 v < 3 := Nat.lt_succ_of_le (Nat.min_le_left _ _)
  generalize min 2 v = code at bound ⊢
  revert code
  decide

theorem bearing_clamped (v : Nat) :
    [Bearing.ahead, .aheadRight, .right, .backRight, .back, .backLeft, .left, .aheadLeft, .up, .down][min 9 v]? =
      some (Bearing.ofCode (clamped 0 9 v)) := by
  rw [clamped_zero]
  have bound : min 9 v < 10 := Nat.lt_succ_of_le (Nat.min_le_left _ _)
  generalize min 9 v = code at bound ⊢
  revert code
  decide

theorem role_clamped (v : Nat) :
    [Role.corridor, .stair, .cabin, .assembly][min 3 v]? = some (Role.ofCode (clamped 0 3 v)) := by
  rw [clamped_zero]
  have bound : min 3 v < 4 := Nat.lt_succ_of_le (Nat.min_le_left _ _)
  generalize min 3 v = code at bound ⊢
  revert code
  decide

theorem lineFunction_clamped (v : Nat) :
    [LineFunction.none, .entryContact, .privacyButton, .makeupButton, .crewClear, .crewAssist, .presence,
      .triggerOnly][min 7 v]? = some (LineFunction.ofCode (clamped 0 7 v)) := by
  rw [clamped_zero]
  have bound : min 7 v < 8 := Nat.lt_succ_of_le (Nat.min_le_left _ _)
  generalize min 7 v = code at bound ⊢
  revert code
  decide

theorem activeEdge_clamped (v : Nat) :
    [ActiveEdge.rise, .fall, .both][min 2 v]? = some (ActiveEdge.ofCode (clamped 0 2 v)) := by
  rw [clamped_zero]
  have bound : min 2 v < 3 := Nat.lt_succ_of_le (Nat.min_le_left _ _)
  generalize min 2 v = code at bound ⊢
  revert code
  decide

theorem factor_clamped (v : Nat) :
    [Factor.none, .minute, .programmeLead, .input, .alarmChange, .routeChange, .timer][min 6 v]? =
      some (Factor.ofCode (clamped 0 6 v)) := by
  rw [clamped_zero]
  have bound : min 6 v < 7 := Nat.lt_succ_of_le (Nat.min_le_left _ _)
  generalize min 6 v = code at bound ⊢
  revert code
  decide

theorem action_clamped (v : Nat) :
    [Action.none, .showPage, .capture, .timerStart, .timerStop, .luminance, .quietEnter, .quietLeave,
      .enableSets, .disableSets][min 9 v]? = some (Action.ofCode (clamped 0 9 v)) := by
  rw [clamped_zero]
  have bound : min 9 v < 10 := Nat.lt_succ_of_le (Nat.min_le_left _ _)
  generalize min 9 v = code at bound ⊢
  revert code
  decide

theorem clamped_one_iff (v : Nat) : clamped 0 1 v = 1 ↔ v ≠ 0 := by
  rw [clamped_zero]
  omega

theorem bitRate_clamped (v : Nat) : BitRate.ofCode (clamped 0 1 v) = .kbit250 ↔ v ≠ 0 := by
  rw [← clamped_one_iff, clamped_zero]
  have bound : min 1 v < 2 := Nat.lt_succ_of_le (Nat.min_le_left _ _)
  generalize min 1 v = code at bound ⊢
  revert code
  decide

theorem timerMode_clamped (v : Nat) : TimerMode.ofCode (clamped 0 1 v) = .repeating ↔ v ≠ 0 := by
  rw [← clamped_one_iff, clamped_zero]
  have bound : min 1 v < 2 := Nat.lt_succ_of_le (Nat.min_le_left _ _)
  generalize min 1 v = code at bound ⊢
  revert code
  decide

/-! ### Arguments of trigger sets -/

theorem factorArgCopy_of_top {f : Factor} {v top : Nat} (h : factorTop f = some top) :
    factorArgCopy f v = min top v := by
  rw [factorArgCopy, h]
  exact clamped_zero top v

theorem actionArgCopy_of_top {x : Action} {v top : Nat} (h : actionTop x = some top) :
    actionArgCopy x v = min top v := by
  rw [actionArgCopy, h]
  exact clamped_zero top v

theorem actionArgCopy_mask {x : Action} {v : Nat} (h : x = .enableSets ∨ x = .disableSets) {n : Nat}
    (small : n < 4) : (actionArgCopy x v).testBit n = v.testBit n := by
  have masked : actionArgCopy x v = v % 2 ^ 4 := by rcases h with rfl | rfl <;> rfl
  rw [masked, Nat.testBit_mod_two_pow, decide_eq_true small, Bool.true_and]

theorem ofNat_four_getLsbD (v : Nat) {n : Nat} (small : n < 4) :
    (BitVec.ofNat 4 v).getLsbD n = v.testBit n := by
  rw [BitVec.getLsbD_ofNat, decide_eq_true small, Bool.true_and]

/-! ### The fields outside their ranges -/

theorem outsideRange_octet (image : List Byte) (i : Nat) : outsideRange [(0, 255, imageOctet image i)] = 0 := by
  have bound := imageOctet_le image i
  simp only [outsideRange, List.countP_singleton]
  rw [if_neg]
  simp only [decide_eq_true_eq]
  omega

theorem ranged_iff (role : Role) : role = .corridor ∨ role = .stair ↔ role.ranged = true := by
  cases role <;> simp [Role.ranged]

theorem range_flatMap_congr {f g : Nat → Fields} (n : Nat)
    (h : ∀ i, i < n → outsideRange (f i) = outsideRange (g i)) :
    outsideRange ((List.range n).flatMap f) = outsideRange ((List.range n).flatMap g) := by
  have all (l : List Nat) (hl : ∀ i ∈ l, i < n) : outsideRange (l.flatMap f) = outsideRange (l.flatMap g) := by
    induction l with
    | nil => rfl
    | cons i l ih =>
      rw [List.flatMap_cons, List.flatMap_cons, outsideRange_append, outsideRange_append,
        h i (hl i List.mem_cons_self), ih fun j hj => hl j (List.mem_cons_of_mem _ hj)]
  exact all _ fun i hi => List.mem_range.mp hi

/-- The fields as the layout lists them: hysteresis takes any octet and is none of them. -/
theorem outsideRange_imageFields (image : List Byte) {triggers : Nat → Fields}
    (same : ∀ i, i < 4 → outsideRange (triggers i) = outsideRange (triggerFields image i)) :
    outsideRange (nodeFields image ++
      (List.range (imageOctet image 7)).flatMap (neighbourFields image) ++
      (List.range (imageOctet image 8)).flatMap (anchoredFields image) ++
      (List.range (imageOctet image 9)).flatMap (labelFields image) ++
      (List.range (imageOctet image 10)).flatMap (signpostFields image) ++
      rangesFields image (imageRole image) ++ cabinFields image (imageRole image) ++
      (costFields image ++ scheduleFields image) ++
      (List.range 8).flatMap (lineFields image) ++ (List.range 4).flatMap triggers ++
      (List.range 2).flatMap (timerFields image) ++ (panelFields image ++
        [(100, 5000, imageWord image 489), (50, blinkPeriodCopy image - 50, imageWord image 491),
          (2, 60, imageOctet image 493)])) =
      outsideRange (imageFields image) := by
  have sets := range_flatMap_congr (f := triggers) (g := triggerFields image) 4 same
  have hysteresis (l : Fields) : outsideRange ((0, 255, imageOctet image 366) :: l) = outsideRange l := by
    rw [outsideRange_cons, outsideRange_octet, Nat.zero_add]
  simp only [imageFields_eq, laterFields_eq, outsideRange_append, hysteresis, sets]
  omega

/-- The fields of a set in the order of the layout. -/
theorem outsideRange_triggerFields (image : List Byte) (i : Nat) :
    outsideRange ([(0, 6, imageOctet image (421 + 8 * i)), (0, 9, imageOctet image (421 + 8 * i + 3))] ++
      topFields (factorTop (triggerFactor image i)) (imageWord image (421 + 8 * i + 1)) ++
      topFields (actionTop (triggerAction image i)) (imageWord image (421 + 8 * i + 4))) =
    outsideRange (triggerFields image i) := by
  have split (a b : Nat × Nat × Nat) (f g : Fields) :
      outsideRange ([a, b] ++ f ++ g) = outsideRange ([a] ++ (f ++ ([b] ++ (g ++ [])))) := by
    have pair : [a, b] = [a] ++ [b] := rfl
    simp only [pair, outsideRange_append, outsideRange_nil]
    omega
  exact split _ _ _ _

theorem getElem?_triggers {image : List Byte} {i : Nat} (small : i < 4) :
    (imageCopy image).triggers[i]? = some (triggerCopy image i) := by
  simp [imageCopy, small]

theorem readImage_copy {image : List Byte} {c : ConfigCopy} {clamps : Nat} (good : readImage image = .good c clamps) :
    c = imageCopy image ∧
      clamps = outsideRange (imageFields image) + exchanges image (imageRole image) := by
  have read := (readImage_good good).symm.trans (readConfig_gives image 0)
  rw [Nat.zero_add] at read
  exact ⟨congrArg Prod.fst read, congrArg Prod.snd read⟩

end Sys2Proof.Machine

namespace Sys2Proof.Machine

theorem length_map_range {α : Type} (f : Nat → α) (n : Nat) : ((List.range n).map f).length = n := by
  rw [List.length_map, List.length_range]

/-- Settles O7: the copy is read field by field, and the clamps are the fields outside their ranges and the ranges
exchanged. -/
theorem imageFieldsClamped : Obligations.ImageFieldsClamped := by
  unfold Obligations.ImageFieldsClamped
  intro image c clamps _ good
  obtain ⟨rfl, rfl⟩ := readImage_copy good
  intro o w l clamp glyphs ports kinds links bearings functions edges factors actions ranged fTop aTop cabins
  have sameF : fTop = factorTop := by
    funext f
    cases f <;> rfl
  have sameA : aTop = actionTop := by
    funext x
    cases x <;> rfl
  have ofRole : ranged ↔ (imageRole image).ranged = true := ranged_iff _
  refine ⟨⟨rfl, rfl, rfl, role_clamped _, ?_, bitRate_clamped _⟩, ⟨length_map_range _ _, fun i x h => ?_⟩,
    ⟨length_map_range _ _, fun i x h => ?_⟩, ⟨length_map_range _ _, fun i x h => ?_⟩,
    ⟨length_map_range _ _, fun i x h => ?_⟩, fun isRanged => ?_, fun isCabin => ?_,
    ⟨rfl, rfl, rfl, rfl, rfl, rfl, rfl, rfl, ?_, rfl, rfl, rfl, rfl, rfl⟩,
    ⟨rfl, rfl, rfl, rfl, rfl, rfl, rfl, rfl, rfl⟩, ⟨length_map_range _ _, fun i x h => ?_⟩,
    ⟨length_map_range _ _, fun i x h => ?_⟩, ⟨length_map_range _ _, fun i x h => ?_⟩, rfl, ⟨rfl, rfl, rfl⟩, ?_⟩
  · exact (decide_eq_true_iff).trans (clamped_one_iff _)
  · obtain ⟨rfl, -⟩ := getElem?_map_range h
    exact ⟨rfl, portOfCode_clamped _, rfl, linkKind_clamped _, rfl, rfl, rfl, bearing_clamped _⟩
  · obtain ⟨rfl, -⟩ := getElem?_map_range h
    exact ⟨rfl, destKind_clamped _⟩
  · obtain ⟨rfl, -⟩ := getElem?_map_range h
    refine ⟨rfl, destKind_clamped _, rfl, rfl, ?_⟩
    rw [← clamped_zero]
    rfl
  · obtain ⟨rfl, -⟩ := getElem?_map_range h
    refine ⟨rfl, ?_⟩
    rw [← clamped_zero]
    rfl
  · have copy : (imageCopy image).sweepRanges = (List.range (imageOctet image 11)).map (rangeCopy image) :=
      if_pos (ofRole.mp isRanged)
    refine ⟨by rw [copy, List.length_map, List.length_range]; rfl, fun i x h => ?_⟩
    rw [copy] at h
    obtain ⟨rfl, -⟩ := getElem?_map_range h
    exact ⟨rfl, rfl⟩
  · exact if_pos isCabin
  · have bound := imageOctet_le image 366
    show clamped 0 255 (imageOctet image 366) = imageOctet image 366
    rw [clamped_zero, Nat.min_eq_right bound]
  · obtain ⟨rfl, -⟩ := getElem?_map_range h
    exact ⟨lineFunction_clamped _, activeEdge_clamped _, rfl⟩
  · obtain ⟨rfl, -⟩ := getElem?_map_range h
    rw [sameF, sameA]
    exact ⟨factor_clamped _, action_clamped _, fun _ h => factorArgCopy_of_top h, fun _ h => actionArgCopy_of_top h,
      fun mask n small => actionArgCopy_mask mask small, fun n small => ofNat_four_getLsbD _ small, rfl, rfl, rfl⟩
  · obtain ⟨rfl, -⟩ := getElem?_map_range h
    exact ⟨rfl, timerMode_clamped _⟩
  · intro fields
    have ranges : (if ranged then (List.range (o 11)).flatMap (fun i =>
        [(1, 9999, w (389 + 4 * i)), (1, 9999, w (391 + 4 * i))]) else []) =
        rangesFields image (imageRole image) := ite_iff_congr ofRole rfl rfl
    have all : outsideRange fields = outsideRange (imageFields image) := by
      simp only [fields, ranges]
      refine outsideRange_imageFields image fun i small => ?_
      rw [getElem?_triggers small, sameF, sameA]
      exact outsideRange_triggerFields image i
    have swaps : (if ranged then (List.range (o 11)).countP (fun i => decide ((cabins i).2 < (cabins i).1))
        else 0) = exchanges image (imageRole image) := ite_iff_congr ofRole rfl rfl
    rw [swaps]
    exact congrArg (· + exchanges image (imageRole image)) all.symm

end Sys2Proof.Machine

/-! ### Entries, candidates and re-evaluation (R13 to R17) -/

namespace Sys2Proof.Machine

/-! ### The best candidate (R14) -/

theorem RouteCandidate.before_iff (x y : RouteCandidate) : x.before y = true ↔
    x.cost < y.cost ∨ x.cost = y.cost ∧ (x.hop < y.hop ∨ x.hop = y.hop ∧ x.slot < y.slot) := by
  unfold RouteCandidate.before
  split
  · rename_i cost
    simp only [decide_eq_true_eq]
    omega
  · rename_i cost
    split
    · rename_i hop
      simp only [decide_eq_true_eq]
      omega
    · rename_i hop
      simp only [decide_eq_true_eq]
      omega

theorem RouteCandidate.before_false (x y : RouteCandidate) : x.before y = false ↔
    y.cost < x.cost ∨ y.cost = x.cost ∧ (y.hop < x.hop ∨ y.hop = x.hop ∧ y.slot ≤ x.slot) := by
  rw [← Bool.not_eq_true, RouteCandidate.before_iff]
  omega

section
variable {s : State} {cells : List Cell}

theorem State.linkCandidate_slot {n : Nat} {l : NeighbourCfg} {c : Cell} {k : RouteCandidate}
    (h : s.linkCandidate n l c = some k) : k.slot = n := by
  unfold State.linkCandidate at h
  dsimp only at h
  split at h
  · cases h
  · cases h
    rfl

theorem State.candidateAt_slot {n : Nat} {k : RouteCandidate} (h : s.candidateAt cells n = some k) :
    k.slot = n := by
  unfold State.candidateAt at h
  split at h
  · exact State.linkCandidate_slot h
  · cases h

theorem mem_slots {n : Nat} : n ∈ [0, 1, 2, 3, 4, 5] ↔ n < 6 := by
  simp only [List.mem_cons, List.not_mem_nil, or_false]
  omega

theorem State.mem_candidates {admits : Nat → Bool} {k : RouteCandidate} :
    k ∈ ([0, 1, 2, 3, 4, 5].filter admits).filterMap (s.candidateAt cells) ↔
      ∃ n < 6, admits n = true ∧ s.candidateAt cells n = some k := by
  simp only [List.mem_filterMap, List.mem_filter, mem_slots, and_assoc]

/-- The best route is an admitted candidate that no admitted one precedes. -/
theorem State.bestRoute_spec {admits : Nat → Bool} {c : RouteCandidate}
    (h : s.bestRoute cells admits = some c) :
    (∃ n < 6, admits n = true ∧ s.candidateAt cells n = some c) ∧
      ∀ n < 6, admits n = true → ∀ d, s.candidateAt cells n = some d → d.before c = false := by
  refine ⟨State.mem_candidates.mp (leastBy_mem h), fun n small admitted d found => ?_⟩
  refine leastBy_least ?_ ?_ ?_ h d (State.mem_candidates.mpr ⟨n, small, admitted, found⟩)
  · intro a b
    rw [RouteCandidate.before_iff, RouteCandidate.before_false]
    omega
  · intro a
    rw [RouteCandidate.before_false]
    omega
  · intro a b c
    rw [RouteCandidate.before_false, RouteCandidate.before_false, RouteCandidate.before_false]
    omega

theorem State.bestRoute_cost_le {admits : Nat → Bool} {c : RouteCandidate}
    (h : s.bestRoute cells admits = some c) {n : Nat} (small : n < 6) (admitted : admits n = true)
    {d : RouteCandidate} (found : s.candidateAt cells n = some d) : c.cost ≤ d.cost := by
  have notBefore := (State.bestRoute_spec h).2 n small admitted d found
  rw [RouteCandidate.before_false] at notBefore
  omega

theorem State.bestRoute_none {admits : Nat → Bool} (h : s.bestRoute cells admits = none) {n : Nat}
    (small : n < 6) (admitted : admits n = true) : s.candidateAt cells n = none := by
  have empty := leastBy_none h
  cases found : s.candidateAt cells n with
  | none => rfl
  | some d =>
    have mem := State.mem_candidates.mpr ⟨n, small, admitted, found⟩
    rw [empty] at mem
    exact nomatch mem

theorem State.bestRoute_eq_none {admits : Nat → Bool} (h : ∀ n < 6, s.candidateAt cells n = none) :
    s.bestRoute cells admits = none := by
  cases found : s.bestRoute cells admits with
  | none => rfl
  | some c =>
    obtain ⟨⟨n, small, -, at'⟩, -⟩ := State.bestRoute_spec found
    exact nomatch (h n small).symm.trans at'

/-- The one candidate that precedes or equals all others is chosen. -/
theorem State.bestRoute_eq_some {admits : Nat → Bool} {c : RouteCandidate} {n : Nat} (small : n < 6)
    (admitted : admits n = true) (found : s.candidateAt cells n = some c)
    (least : ∀ m < 6, admits m = true → ∀ d, s.candidateAt cells m = some d →
      c.cost < d.cost ∨ c.cost = d.cost ∧ (c.hop < d.hop ∨ c.hop = d.hop ∧ c.slot ≤ d.slot)) :
    s.bestRoute cells admits = some c := by
  cases best : s.bestRoute cells admits with
  | none => exact nomatch (State.bestRoute_none best small admitted).symm.trans found
  | some b =>
    obtain ⟨⟨m, small', admitted', found'⟩, first⟩ := State.bestRoute_spec best
    have notBefore := first n small admitted c found
    have notAfter := least m small' admitted' b found'
    rw [RouteCandidate.before_false] at notBefore
    have slots : m = n := by
      rw [← State.candidateAt_slot found, ← State.candidateAt_slot found']
      omega
    rw [slots] at found'
    exact found'.symm.trans found

end

/-! ### The law of an entry (R13, R15) -/

/-- Two states that weigh candidates alike: one configuration, one list of zone reports, one side of GENERAL. -/
structure SameRouting (s t : State) : Prop where
  cfg : t.cfg = s.cfg
  reports : t.alarm.reports = s.alarm.reports
  emergency : t.alarm.level.emergency = s.alarm.level.emergency

theorem SameRouting.of_alarm {s t : State} (cfg : t.cfg = s.cfg) (alarm : t.alarm = s.alarm) :
    SameRouting s t := ⟨cfg, by rw [alarm], by rw [alarm]⟩

/-- A change outside the start block and the alarm state unit. -/
theorem OnlyChanges.sameRouting {a : List Block} {s t : State} (h : OnlyChanges a s t)
    (off : Block.within a [.clock, .ports, .bus, .time, .route, .muster, .prog, .cabin, .trig, .page, .panel, .ind,
      .status, .pins, .pending] = true := by rfl) : SameRouting s t :=
  .of_alarm ((h.widen off).cfg_eq (by decide)) ((h.widen off) .alarm (by decide))

theorem SameRouting.linkCandidate {s t : State} (h : SameRouting s t) : t.linkCandidate = s.linkCandidate := by
  funext n l c
  have zone : t.zoneAt = s.zoneAt := by
    funext z d
    rw [State.zoneAt, State.zoneAt, h.reports]
  have penalty : t.penalty = s.penalty := by
    funext l
    rw [State.penalty, State.penalty, zone, h.cfg, h.emergency]
  unfold State.linkCandidate
  rw [zone, penalty, h.cfg]

theorem SameRouting.candidateAt {s t : State} (h : SameRouting s t) : t.candidateAt = s.candidateAt := by
  funext cells n
  simp only [State.candidateAt, h.cfg, h.linkCandidate]

theorem SameRouting.bestRoute {s t : State} (h : SameRouting s t) : t.bestRoute = s.bestRoute := by
  funext cells admits
  simp only [State.bestRoute, h.candidateAt]

theorem SameRouting.entryLaw {s t : State} (h : SameRouting s t) : t.entryLaw = s.entryLaw := by
  have current : t.currentCandidate = s.currentCandidate := by
    funext e
    simp only [State.currentCandidate, h.candidateAt]
  funext e
  simp only [State.entryLaw, current, h.candidateAt, h.cfg]

/-- The law of a REACHABLE entry. -/
theorem State.entryLaw_reachable {s : State} {e : RouteEntry} (state : e.state = .reachable) :
    s.entryLaw e = true ↔ ∃ c, s.currentCandidate e = some c ∧
      (e.cost = c.cost ∧ e.hop = c.hop ∧ e.viaStair = c.viaStair ∧ e.viaBoundary = c.viaBoundary) ∧
      (∀ n < 6, ∀ d, s.candidateAt e.cells n = some d → c.cost ≤ d.cost + s.cfg.hysteresis) ∧
      e.holdDownDeadline = none ∧ e.unreachableSince = none := by
  have slots (c : RouteCandidate) : [0, 1, 2, 3, 4, 5].all (fun n => match s.candidateAt e.cells n with
        | some other => decide (c.cost ≤ other.cost + s.cfg.hysteresis)
        | none => true) = true ↔
      ∀ n < 6, ∀ d, s.candidateAt e.cells n = some d → c.cost ≤ d.cost + s.cfg.hysteresis := by
    rw [List.all_eq_true]
    constructor
    · intro h n small d found
      have := h n (mem_slots.mpr small)
      rw [found] at this
      exact of_decide_eq_true this
    · intro h n hn
      split
      · rename_i d found
        exact decide_eq_true (h n (mem_slots.mp hn) d found)
      · rfl
  unfold State.entryLaw
  rw [state]
  dsimp only
  cases s.currentCandidate e with
  | none => simp
  | some c =>
    simp only [Bool.and_eq_true, decide_eq_true_eq, Option.some.injEq, exists_eq_left', and_assoc]
    exact and_congr_right fun _ => and_congr_right fun _ => and_congr_right fun _ => and_congr_right fun _ =>
      and_congr_left fun _ => slots c

/-- An entry of the values of its state, whatever the candidates are: nothing is asked of a REACHABLE one. -/
def RouteEntry.formed (e : RouteEntry) : Prop := e.state ≠ .reachable → ∀ s : State, s.entryLaw e = true

theorem State.formed_of_entryLaw {s : State} {e : RouteEntry} (law : s.entryLaw e = true) : e.formed := by
  intro other t
  unfold State.entryLaw at law ⊢
  cases state : e.state with
  | anchor => simpa [state] using law
  | reachable => exact absurd state other
  | holdDown => simpa [state] using law
  | unreachable => simpa [state] using law

theorem RouteEntry.formed_cells {e : RouteEntry} (h : e.formed) (cells : List Cell) :
    ({ e with cells := cells } : RouteEntry).formed := by
  intro other s
  have law := h other s
  unfold State.entryLaw at law ⊢
  cases state : e.state with
  | anchor => simpa [state] using law
  | reachable => exact absurd state other
  | holdDown => simpa [state] using law
  | unreachable => simpa [state] using law

theorem State.entryLaw_marks (s : State) (e : RouteEntry) (m : PerPort Mark) :
    s.entryLaw { e with marks := m } = s.entryLaw e := rfl

theorem RouteEntry.formed_fresh (dest : Nat) (kind : DestKind) (pinned : Bool) (now : Nat) :
    (RouteEntry.fresh dest kind pinned now).formed := fun _ _ => rfl

theorem RouteEntry.formed_anchored (dest : Nat) (kind : DestKind) (now : Nat) :
    (RouteEntry.anchored dest kind now).formed := fun _ _ => rfl

section
variable {s : State} {e : RouteEntry}

/-- A route taken through a candidate within the hysteresis of all. -/
theorem State.takeRoute_entryLaw {c : RouteCandidate} (found : s.candidateAt e.cells c.slot = some c)
    (near : ∀ n < 6, ∀ d, s.candidateAt e.cells n = some d → c.cost ≤ d.cost + s.cfg.hysteresis) :
    s.entryLaw (e.takeRoute c) = true :=
  (State.entryLaw_reachable rfl).mpr ⟨c, found, ⟨rfl, rfl, rfl, rfl⟩, near, rfl, rfl⟩

theorem State.takeBest_entryLaw {c : RouteCandidate} (best : s.bestRoute e.cells (fun _ => true) = some c) :
    s.entryLaw (e.takeRoute c) = true := by
  obtain ⟨⟨n, -, -, found⟩, -⟩ := State.bestRoute_spec best
  refine State.takeRoute_entryLaw (State.candidateAt_slot found ▸ found) fun n small d found => ?_
  exact Nat.le_trans (State.bestRoute_cost_le best small rfl found) (Nat.le_add_right _ _)

theorem State.becomeUnreachable_entryLaw (since : Nat) : s.entryLaw (e.becomeUnreachable since) = true := by
  simp [State.entryLaw, RouteEntry.becomeUnreachable, RouteEntry.dropRoute]

theorem State.giveUpRoute_entryLaw : s.entryLaw (s.giveUpRoute e) = true := by
  unfold State.giveUpRoute
  split
  · exact State.becomeUnreachable_entryLaw _
  · simp [State.entryLaw, RouteEntry.dropRoute]

theorem State.keepOrSwitch_entryLaw {c : RouteCandidate} (found : s.candidateAt e.cells c.slot = some c) :
    s.entryLaw (s.keepOrSwitch e c) = true := by
  unfold State.keepOrSwitch
  split
  · rename_i none
    refine State.takeRoute_entryLaw found fun n small d other => ?_
    by_cases same : n = c.slot
    · rw [same] at other
      cases found.symm.trans other
      exact Nat.le_add_right _ _
    · exact nomatch (State.bestRoute_none none small (decide_eq_true same)).symm.trans other
  · rename_i o best
    obtain ⟨⟨m, -, -, found'⟩, -⟩ := State.bestRoute_spec best
    have found'' : s.candidateAt e.cells o.slot = some o := State.candidateAt_slot found' ▸ found'
    split
    · rename_i far
      refine State.takeRoute_entryLaw found'' fun n small d other => ?_
      by_cases same : n = c.slot
      · rw [same] at other
        cases found.symm.trans other
        omega
      · have := State.bestRoute_cost_le best small (decide_eq_true same) other
        omega
    · rename_i near
      refine State.takeRoute_entryLaw found fun n small d other => ?_
      by_cases same : n = c.slot
      · rw [same] at other
        cases found.symm.trans other
        exact Nat.le_add_right _ _
      · have := State.bestRoute_cost_le best small (decide_eq_true same) other
        omega

theorem State.currentCandidate_slot {c : RouteCandidate} (h : s.currentCandidate e = some c) :
    s.candidateAt e.cells c.slot = some c := by
  unfold State.currentCandidate at h
  split at h
  · exact State.candidateAt_slot h ▸ h
  · cases h
  · cases h

/-- Re-evaluation gives an entry the law of its new state. -/
theorem State.reevaluated_entryLaw (formed : e.formed) : s.entryLaw (s.reevaluated e) = true := by
  unfold State.reevaluated
  split
  · rename_i state
    exact formed (by simp [state]) s
  · rename_i state
    exact formed (by simp [state]) s
  · split
    · rename_i c current
      exact State.keepOrSwitch_entryLaw (State.currentCandidate_slot current)
    · split
      · rename_i c best
        exact State.takeBest_entryLaw best
      · exact State.giveUpRoute_entryLaw
  · rename_i state
    split
    · rename_i c best
      exact State.takeBest_entryLaw best
    · exact formed (by simp [state]) s

theorem RouteEntry.takeRoute_dest (e : RouteEntry) (c : RouteCandidate) : (e.takeRoute c).dest = e.dest := rfl

theorem State.keepOrSwitch_dest (c : RouteCandidate) : (s.keepOrSwitch e c).dest = e.dest := by
  unfold State.keepOrSwitch
  split
  · rfl
  · split <;> rfl

theorem State.giveUpRoute_dest : (s.giveUpRoute e).dest = e.dest := by
  unfold State.giveUpRoute
  split <;> rfl

theorem State.reevaluated_dest (s : State) (e : RouteEntry) : (s.reevaluated e).dest = e.dest := by
  unfold State.reevaluated
  split
  · rfl
  · rfl
  · split
    · exact State.keepOrSwitch_dest _
    · split
      · rfl
      · exact State.giveUpRoute_dest
  · split <;> rfl

end

/-! ### The order table (R3) -/

/-- The entries stand in strictly ascending order of id. -/
abbrev destOrdered (t : List RouteEntry) : Prop := t.Pairwise (fun x y => x.dest < y.dest)

theorem destOrdered_iff (t : List RouteEntry) : destOrdered t ↔ (t.map (fun e => e.dest)).Pairwise (· < ·) :=
  List.pairwise_map.symm

theorem destOrdered.unique {t : List RouteEntry} (order : destOrdered t) {x y : RouteEntry} (hx : x ∈ t)
    (hy : y ∈ t) (same : x.dest = y.dest) : x = y := by
  induction t with
  | nil => exact nomatch hx
  | cons z zs ih =>
    obtain ⟨first, rest⟩ := List.pairwise_cons.mp order
    rcases List.mem_cons.mp hx with rfl | hx' <;> rcases List.mem_cons.mp hy with rfl | hy'
    · rfl
    · exact absurd same (Nat.ne_of_lt (first y hy'))
    · exact absurd same.symm (Nat.ne_of_lt (first x hx'))
    · exact ih rest hx' hy'

theorem State.routeEntry_some {s : State} {dest : Nat} {e : RouteEntry} (h : s.routeEntry dest = some e) :
    e ∈ s.route.entries ∧ e.dest = dest :=
  ⟨List.mem_of_find?_eq_some h, by simpa using List.find?_some h⟩

theorem State.routeEntry_none {s : State} {dest : Nat} (h : s.routeEntry dest = none) :
    ∀ e ∈ s.route.entries, e.dest ≠ dest := by simpa [State.routeEntry] using h

theorem State.routeEntry_of_mem {s : State} (order : destOrdered s.route.entries) {e : RouteEntry}
    (he : e ∈ s.route.entries) : s.routeEntry e.dest = some e := by
  cases found : s.routeEntry e.dest with
  | none => exact absurd rfl (State.routeEntry_none found e he)
  | some x =>
    obtain ⟨hx, same⟩ := State.routeEntry_some found
    rw [order.unique hx he same]

theorem mem_replaceEntry {e x : RouteEntry} {t : List RouteEntry} : x ∈ replaceEntry e t ↔
    (x ∈ t ∧ x.dest ≠ e.dest) ∨ (x = e ∧ ∃ y ∈ t, y.dest = e.dest) := by
  unfold replaceEntry
  rw [List.mem_map]
  constructor
  · rintro ⟨y, hy, rfl⟩
    split
    · rename_i same
      exact .inr ⟨rfl, y, hy, same⟩
    · rename_i other
      exact .inl ⟨hy, other⟩
  · rintro (⟨hx, other⟩ | ⟨rfl, y, hy, same⟩)
    · exact ⟨x, hx, if_neg other⟩
    · exact ⟨y, hy, if_pos same⟩

theorem replaceEntry_dests (e : RouteEntry) (t : List RouteEntry) :
    (replaceEntry e t).map (fun x => x.dest) = t.map (fun x => x.dest) := by
  rw [replaceEntry, List.map_map]
  refine List.map_congr_left fun x _ => ?_
  simp only [Function.comp]
  split
  · rename_i same
    exact same.symm
  · rfl

theorem replaceEntry_length (e : RouteEntry) (t : List RouteEntry) : (replaceEntry e t).length = t.length :=
  List.length_map _

theorem replaceEntry_ordered {e : RouteEntry} {t : List RouteEntry} (order : destOrdered t) :
    destOrdered (replaceEntry e t) := by
  rw [destOrdered_iff, replaceEntry_dests, ← destOrdered_iff]
  exact order

theorem replaceEntry_replaceEntry {e x : RouteEntry} (same : x.dest = e.dest) (t : List RouteEntry) :
    replaceEntry e (replaceEntry x t) = replaceEntry e t := by
  simp only [replaceEntry, List.map_map]
  refine List.map_congr_left fun y _ => ?_
  by_cases hit : y.dest = x.dest
  · simp [hit, same]
  · simp [hit]

theorem mem_insertEntry {e x : RouteEntry} {t : List RouteEntry} : x ∈ insertEntry e t ↔ x = e ∨ x ∈ t :=
  mem_insertBy e x t

theorem insertEntry_ordered {e : RouteEntry} {t : List RouteEntry} (order : destOrdered t)
    (fresh : ∀ x ∈ t, x.dest ≠ e.dest) : destOrdered (insertEntry e t) := by
  refine pairwise_insertBy e t order (fun _ _ h => of_decide_eq_true h) ?_ fun _ _ _ _ h k => Nat.lt_trans h k
  intro y hy notBefore
  exact Nat.lt_of_le_of_ne (Nat.le_of_not_lt (of_decide_eq_false notBefore)) (fresh y hy)

theorem mem_removeEntry {dest : Nat} {x : RouteEntry} {t : List RouteEntry} :
    x ∈ removeEntry dest t ↔ x ∈ t ∧ x.dest ≠ dest := by
  simp [removeEntry]

theorem removeEntry_length {e : RouteEntry} {t : List RouteEntry} (he : e ∈ t) :
    (removeEntry e.dest t).length < t.length :=
  List.length_filter_lt_length_iff_exists.mpr ⟨e, he, by simp⟩

/-! ### What a stored and a re-evaluated entry leave in the table -/

/-- The marks of an entry stored after another (R23). -/
def State.marksAfter (s : State) (before after : RouteEntry) : PerPort Mark :=
  if needsMark s.cfg.triggeredThreshold before after then
    s.portsInUse.foldl (fun m p => m.put p .set) after.marks
  else after.marks

theorem State.requestTriggered_entries (s : State) (p : Port) :
    (s.requestTriggered p).route.entries = s.route.entries := by
  have asked : (s.requestToken p .triggered).route = s.route :=
    s.requestToken_changes p .triggered .route (by decide)
  show (s.requestToken p .triggered).route.entries = s.route.entries
  rw [asked]

theorem State.markBecameSet_entries (s : State) (p : Port) :
    (s.markBecameSet p).route.entries = s.route.entries := by
  unfold State.markBecameSet
  split
  · rfl
  · split
    · exact s.requestTriggered_entries p
    · split
      · split <;> rfl
      · exact s.requestTriggered_entries p

theorem State.marksBecameSet_entries (l : List Port) (s : State) :
    (l.foldl State.markBecameSet s).route.entries = s.route.entries := by
  induction l generalizing s with
  | nil => rfl
  | cons p l ih => exact (ih _).trans (s.markBecameSet_entries p)

theorem State.storeEntry_entries (s : State) (before after : RouteEntry) :
    (s.storeEntry before after).route.entries =
      replaceEntry { after with marks := s.marksAfter before after } s.route.entries := by
  unfold State.storeEntry State.marksAfter
  split
  · exact State.marksBecameSet_entries _ _
  · rfl

theorem State.countHoldDown_entries (s : State) (before after : RouteEntry) :
    (s.countHoldDown before after).route.entries = s.route.entries := by
  unfold State.countHoldDown
  split <;> rfl

/-- The re-evaluated entry with its marks. -/
def State.restored (s : State) (e : RouteEntry) : RouteEntry :=
  { s.reevaluated e with marks := s.marksAfter e (s.reevaluated e) }

theorem State.restored_dest (s : State) (e : RouteEntry) : (s.restored e).dest = e.dest := s.reevaluated_dest e

theorem State.restored_entryLaw {s : State} {e : RouteEntry} (formed : e.formed) :
    s.entryLaw (s.restored e) = true :=
  (s.entryLaw_marks _ _).trans (State.reevaluated_entryLaw formed)

theorem State.reevaluate_entries {s : State} {dest : Nat} {e : RouteEntry} (held : s.routeEntry dest = some e) :
    (s.reevaluate dest).route.entries = replaceEntry (s.restored e) s.route.entries := by
  have marks (before after : RouteEntry) :
      (s.countHoldDown e (s.reevaluated e)).marksAfter before after = s.marksAfter before after := by
    unfold State.countHoldDown
    split <;> rfl
  unfold State.reevaluate
  rw [held]
  dsimp only
  rw [State.storeEntry_entries, State.countHoldDown_entries, marks]
  rfl

theorem State.reevaluate_absent {s : State} {dest : Nat} (absent : s.routeEntry dest = none) :
    s.reevaluate dest = s := by
  unfold State.reevaluate
  rw [absent]

end Sys2Proof.Machine

/-! ### The destination table at each command (R3, R13, R15) -/

namespace Sys2Proof.Machine

/-- The table law, where the entries of the listed destinations have yet to be re-evaluated. -/
structure State.Restoring (dests : List Nat) (s : State) : Prop where
  count : s.route.entries.length ≤ tableCap
  order : destOrdered s.route.entries
  runs : s.running = true ∨ s.route.entries = []
  formed : ∀ e ∈ s.route.entries, e.formed
  law : ∀ e ∈ s.route.entries, e.dest ∉ dests → s.entryLaw e = true

theorem State.routeLaw_iff (s : State) : s.routeLaw ↔ s.Restoring [] := by
  constructor
  · rintro ⟨⟨count, order, runs⟩, law⟩
    exact ⟨count, order, runs, fun e he => State.formed_of_entryLaw (law e he), fun e he _ => law e he⟩
  · rintro ⟨count, order, runs, -, law⟩
    exact ⟨⟨count, order, runs⟩, fun e he => law e he (List.not_mem_nil)⟩

theorem State.Restoring.empty {s : State} (none : s.route.entries = []) : s.Restoring [] := by
  have absent (e : RouteEntry) (he : e ∈ s.route.entries) : False := List.not_mem_nil (none ▸ he)
  exact ⟨by rw [none]; exact Nat.zero_le _, by rw [none]; exact .nil, .inr none,
    fun e he => (absent e he).elim, fun e he => (absent e he).elim⟩

section
variable {s t : State} {dests : List Nat}

theorem State.Restoring.of_same (h : s.Restoring dests) (routing : SameRouting s t) (running : t.running = s.running)
    (entries : t.route.entries = s.route.entries) : t.Restoring dests := by
  obtain ⟨count, order, runs, formed, law⟩ := h
  rw [← entries] at count order runs formed law
  exact ⟨count, order, running ▸ runs, formed, routing.entryLaw ▸ law⟩

/-- A change outside the start block, the alarm state unit and the route engine. -/
theorem OnlyChanges.restoring {a : List Block} (k : OnlyChanges a s t) (h : s.Restoring dests)
    (off : Block.within a [.clock, .ports, .bus, .time, .muster, .prog, .cabin, .trig, .page, .panel, .ind,
      .status, .pins, .pending] = true := by rfl) : t.Restoring dests := by
  have wide := k.widen off
  have route : t.route = s.route := wide .route (by decide)
  exact h.of_same wide.sameRouting (wide.running_eq (by decide)) (by rw [route])

/-- An entry takes another's place, its destination under way. -/
theorem State.Restoring.replace (h : s.Restoring dests) {e : RouteEntry} (formed : e.formed)
    (law : e.dest ∉ dests → s.entryLaw e = true) (f : RouteEngine → RouteEngine)
    (entries : (f s.route).entries = replaceEntry e s.route.entries) : (s.routeDo f).Restoring dests := by
  have routing : SameRouting s (s.routeDo f) := ⟨rfl, rfl, rfl⟩
  refine ⟨?_, ?_, ?_, ?_, ?_⟩
  · rw [State.routeDo_route, entries, replaceEntry_length]
    exact h.count
  · rw [State.routeDo_route, entries]
    exact replaceEntry_ordered h.order
  · rcases h.runs with runs | empty
    · exact .inl runs
    · refine .inr ?_
      rw [State.routeDo_route, entries, empty]
      rfl
  · rw [State.routeDo_route, entries]
    intro x hx
    rcases mem_replaceEntry.mp hx with ⟨old, -⟩ | ⟨rfl, -⟩
    · exact h.formed x old
    · exact formed
  · rw [State.routeDo_route, entries, routing.entryLaw]
    intro x hx off
    rcases mem_replaceEntry.mp hx with ⟨old, -⟩ | ⟨rfl, -⟩
    · exact h.law x old off
    · exact law off

theorem State.Restoring.weaken (h : s.Restoring dests) (d : Nat) : s.Restoring (d :: dests) :=
  ⟨h.count, h.order, h.runs, h.formed, fun e he off => h.law e he fun k => off (List.mem_cons_of_mem _ k)⟩

/-- A re-evaluation restores the law of one destination. -/
theorem State.Restoring.reevaluate {d : Nat} (h : s.Restoring (d :: dests)) : (s.reevaluate d).Restoring dests := by
  have only := s.reevaluate_changes d
  cases held : s.routeEntry d with
  | none =>
    rw [State.reevaluate_absent held]
    refine ⟨h.count, h.order, h.runs, h.formed, fun e he off => h.law e he fun mem => ?_⟩
    rcases List.mem_cons.mp mem with same | rest
    · exact State.routeEntry_none held e he same
    · exact off rest
  | some e =>
    obtain ⟨he, dest⟩ := State.routeEntry_some held
    have formed := h.formed e he
    have law : s.entryLaw (s.restored e) = true := State.restored_entryLaw formed
    have stored : (s.routeDo fun r => { r with entries := replaceEntry (s.restored e) r.entries }).Restoring
        (d :: dests) := h.replace (State.formed_of_entryLaw law) (fun _ => law) _ rfl
    have routing := only.sameRouting
    refine State.Restoring.of_same (s := s.routeDo fun r =>
      { r with entries := replaceEntry (s.restored e) r.entries }) ⟨stored.count, stored.order, stored.runs,
        stored.formed, fun x hx off => ?_⟩ ⟨routing.cfg, routing.reports, routing.emergency⟩
        (only.running_eq (by decide)) (State.reevaluate_entries held)
    by_cases same : x.dest = d
    · rcases mem_replaceEntry.mp hx with ⟨-, other⟩ | ⟨rfl, -⟩
      · exact absurd (same.trans (dest.symm.trans (s.restored_dest e).symm)) other
      · exact law
    · exact stored.law x hx fun mem => (List.mem_cons.mp mem).elim same off

theorem State.Restoring.reevaluates : ∀ {s : State} {l : List Nat}, s.Restoring l →
    (l.foldl State.reevaluate s).Restoring [] := by
  intro s l h
  induction l generalizing s with
  | nil => exact h
  | cons d l ih => exact ih h.reevaluate

/-- Entries of the values of their states are brought into the law all together (R18). -/
theorem State.reevaluateAllEvent_restoring (count : s.route.entries.length ≤ tableCap)
    (order : destOrdered s.route.entries) (runs : s.running = true ∨ s.route.entries = [])
    (formed : ∀ e ∈ s.route.entries, e.formed) : s.reevaluateAllEvent.Restoring [] := by
  have start : s.Restoring (s.route.entries.map fun e => e.dest) :=
    ⟨count, order, runs, formed, fun e he off => absurd (List.mem_map_of_mem he) off⟩
  exact (State.routeNotices_changes _ _ _).restoring start.reevaluates

theorem State.routeNotices_restoring (h : s.Restoring dests) (before : List RouteEntry) (removed : List Nat) :
    (s.routeNotices before removed).Restoring dests := (s.routeNotices_changes before removed).restoring h

/-! ### Marks (R23) -/

/-- Two tables that differ in marks alone. -/
def MarksMoved (a b : List RouteEntry) : Prop :=
  ∃ g : RouteEntry → RouteEntry, (∀ e, ∃ m, g e = { e with marks := m }) ∧ b = a.map g

theorem MarksMoved.refl (a : List RouteEntry) : MarksMoved a a := ⟨id, fun e => ⟨e.marks, rfl⟩, (List.map_id a).symm⟩

theorem MarksMoved.of_ite {a : List RouteEntry} (c : RouteEntry → Prop) [DecidablePred c]
    (m : RouteEntry → PerPort Mark) :
    MarksMoved a (a.map fun e => if c e then { e with marks := m e } else e) := by
  refine ⟨_, fun e => ?_, rfl⟩
  split
  · exact ⟨m e, rfl⟩
  · exact ⟨e.marks, rfl⟩

theorem markCarried_moved (p : Port) (ids : List Nat) (t : List RouteEntry) : MarksMoved t (markCarried p ids t) :=
  .of_ite (fun e => ids.contains e.dest = true) _

theorem clearCarried_moved (p : Port) (t : List RouteEntry) : MarksMoved t (clearCarried p t) :=
  .of_ite (fun e => e.marks.get p = .carried) _

theorem resetCarried_moved (p : Port) (t : List RouteEntry) : MarksMoved t (resetCarried p t) :=
  .of_ite (fun e => e.marks.get p = .carried) _

theorem State.Restoring.marks (h : s.Restoring dests) (routing : SameRouting s t) (running : t.running = s.running)
    (moved : MarksMoved s.route.entries t.route.entries) : t.Restoring dests := by
  obtain ⟨g, marks, entries⟩ := moved
  have dest (e : RouteEntry) : (g e).dest = e.dest := by
    obtain ⟨m, eq⟩ := marks e
    rw [eq]
  have entryLaw (u : State) (e : RouteEntry) : u.entryLaw (g e) = u.entryLaw e := by
    obtain ⟨m, eq⟩ := marks e
    rw [eq]
    rfl
  have state (e : RouteEntry) : (g e).state = e.state := by
    obtain ⟨m, eq⟩ := marks e
    rw [eq]
  refine ⟨?_, ?_, ?_, ?_, ?_⟩
  · rw [entries, List.length_map]
    exact h.count
  · rw [entries, destOrdered, List.pairwise_map]
    exact h.order.imp fun {x y} lt => by rwa [dest, dest]
  · rw [running, entries, List.map_eq_nil_iff]
    exact h.runs
  · rw [entries]
    intro x hx
    obtain ⟨e, he, rfl⟩ := List.mem_map.mp hx
    intro other u
    rw [entryLaw]
    exact h.formed e he (by rwa [state] at other) u
  · rw [entries, routing.entryLaw]
    intro x hx off
    obtain ⟨e, he, rfl⟩ := List.mem_map.mp hx
    rw [entryLaw]
    exact h.law e he (by rwa [dest] at off)

theorem State.startHead_moved (s : State) (p : Port) (q : List QueueEntry) :
    MarksMoved s.route.entries (s.startHead p q).route.entries := by
  induction q with
  | nil => exact .refl _
  | cons e rest ih =>
    unfold State.startHead
    split
    · exact .refl _
    · exact .refl _
    · split
      · exact ih
      · exact markCarried_moved p _ _

theorem State.startTransmission_moved (s : State) (p : Port) :
    MarksMoved s.route.entries (s.startTransmission p).route.entries := by
  unfold State.startTransmission
  split
  · exact s.startHead_moved p _
  · exact .refl _

theorem State.tellSent_moved (s : State) (p : Port) (f : InFlight) :
    MarksMoved s.route.entries (s.tellSent p f).route.entries := by
  unfold State.tellSent
  split
  · exact clearCarried_moved p _
  · exact .refl _

theorem State.tellUnsent_moved (s : State) (p : Port) (f : InFlight) :
    MarksMoved s.route.entries (s.tellUnsent p f).route.entries := by
  unfold State.tellUnsent
  split
  · exact resetCarried_moved p _
  · exact .refl _

theorem State.frameSent_moved (s : State) (p : Port) :
    MarksMoved s.route.entries (s.frameSent p).route.entries := by
  unfold State.frameSent
  split
  · exact .refl _
  · exact State.tellSent_moved (s.putPort p _) p _

theorem State.arbitrationWasLost_moved (s : State) (p : Port) :
    MarksMoved s.route.entries (s.arbitrationWasLost p).route.entries := by
  unfold State.arbitrationWasLost
  split
  · exact .refl _
  · exact State.tellUnsent_moved (s.putPort p _) p _

theorem State.transmitFaulted_moved (s : State) (p : Port) :
    MarksMoved s.route.entries (s.transmitFaulted p).route.entries := by
  unfold State.transmitFaulted
  split
  · exact .refl _
  · exact State.tellUnsent_moved (s.putPort p _) p _

/-! ### Deadlines of the table (R10, R17, R19) and schedules (R24, R25) -/

theorem State.expireCell_restoring (h : s.Restoring []) (dest slot : Nat) : (s.expireCell dest slot).Restoring [] := by
  unfold State.expireCell
  split
  · exact h
  · rename_i e held
    obtain ⟨he, same⟩ := State.routeEntry_some held
    split
    · exact h
    · split
      · refine State.routeNotices_restoring (State.Restoring.reevaluate ?_) _ _
        refine (h.weaken dest).replace (RouteEntry.formed_cells (h.formed e he) _) (fun off => ?_) _ rfl
        exact absurd (List.mem_cons.mpr (.inl same)) off
      · exact h

theorem State.afterHoldDown_law (e : RouteEntry) (d : Nat) :
    s.entryLaw (s.afterHoldDown e d) = true ∧ (s.afterHoldDown e d).dest = e.dest := by
  unfold State.afterHoldDown
  split
  · rename_i c best
    exact ⟨State.takeBest_entryLaw best, rfl⟩
  · exact ⟨State.becomeUnreachable_entryLaw d, rfl⟩

/-- An entry stored with the law of its state. -/
theorem State.storeEntry_restoring (h : s.Restoring dests) {before after : RouteEntry}
    (law : s.entryLaw after = true) : (s.storeEntry before after).Restoring dests := by
  have only := s.storeEntry_changes before after
  have routing := only.sameRouting
  have law' : s.entryLaw { after with marks := s.marksAfter before after } = true := law
  have stored := h.replace (State.formed_of_entryLaw law') (fun _ => law')
    (fun r => { r with entries := replaceEntry { after with marks := s.marksAfter before after } r.entries }) rfl
  exact stored.of_same ⟨routing.cfg, routing.reports, routing.emergency⟩ (only.running_eq (by decide))
    (s.storeEntry_entries before after)

theorem State.endHoldDown_restoring (h : s.Restoring []) (dest : Nat) : (s.endHoldDown dest).Restoring [] := by
  unfold State.endHoldDown
  split
  · exact h
  · split
    · exact h
    · split
      · exact State.routeNotices_restoring (State.storeEntry_restoring h (State.afterHoldDown_law _ _).1) _ _
      · exact h

/-- Entries leave the table. -/
theorem State.Restoring.remove (h : s.Restoring dests) (f : RouteEngine → RouteEngine)
    (sub : (f s.route).entries.Sublist s.route.entries) : (s.routeDo f).Restoring dests := by
  have routing : SameRouting s (s.routeDo f) := ⟨rfl, rfl, rfl⟩
  refine ⟨Nat.le_trans sub.length_le h.count, h.order.sublist sub, h.runs.imp_right fun empty => ?_,
    fun e he => h.formed e (sub.subset he), fun e he => routing.entryLaw ▸ h.law e (sub.subset he)⟩
  rw [empty] at sub
  exact List.sublist_nil.mp sub

theorem State.flushEntry_restoring (h : s.Restoring []) (dest : Nat) : (s.flushEntry dest).Restoring [] := by
  unfold State.flushEntry
  split
  · exact h
  · split
    · exact State.routeNotices_restoring (h.remove _ List.filter_sublist) _ _
    · exact h

theorem State.requestTriggered_restoring (h : s.Restoring dests) (p : Port) :
    (s.requestTriggered p).Restoring dests :=
  h.of_same ((s.requestTriggered_changes p).sameRouting) ((s.requestTriggered_changes p).running_eq (by decide))
    (s.requestTriggered_entries p)

theorem State.gapEnds_restoring (h : s.Restoring []) (p : Port) : (s.gapEnds p).Restoring [] := by
  have cleared : (s.routeDo fun r => { r with gapExpiry := r.gapExpiry.put p none }).Restoring [] :=
    h.remove _ (.refl _)
  unfold State.gapEnds
  split
  · dsimp only
    split
    · exact State.requestTriggered_restoring cleared p
    · exact cleared
  · exact h

theorem State.periodicFull_restoring (h : s.Restoring []) : s.periodicFull.Restoring [] := by
  have asked : (s.portsInUse.foldl (fun t p => t.requestToken p (.full 1)) s).Restoring [] :=
    OnlyChanges.restoring (OnlyChanges.foldl (fun t p => t.requestToken_changes p _) _ _) h
  unfold State.periodicFull
  split
  · exact asked.remove _ (.refl _)
  · exact h

/-! ### ADVERT frames (R8, R9, R20) -/

theorem State.refreshEntry_restoring (h : s.Restoring []) {a : AdvertEntry} {e : RouteEntry}
    (held : s.routeEntry a.dest = some e) (slots : List Nat) : (s.refreshEntry slots a e).Restoring [] := by
  obtain ⟨he, same⟩ := State.routeEntry_some held
  refine State.Restoring.reevaluate ((h.weaken a.dest).replace (RouteEntry.formed_cells (h.formed e he) _) (fun off => ?_) _ rfl)
  exact absurd (List.mem_cons.mpr (.inl same)) off

theorem State.createEntry_restoring (h : s.Restoring []) (runs : s.running = true)
    (room : s.route.entries.length < tableCap) {a : AdvertEntry} (fresh : ∀ e ∈ s.route.entries, e.dest ≠ a.dest)
    (slots : List Nat) (kind : DestKind) : (s.createEntry slots a kind).Restoring [] := by
  refine State.Restoring.reevaluate ⟨?_, insertEntry_ordered h.order fresh, .inl runs, ?_, ?_⟩
  · show (insertEntry _ _).length ≤ tableCap
    rw [insertEntry, length_insertBy]
    exact room
  · intro e he
    rcases mem_insertEntry.mp he with rfl | old
    · exact RouteEntry.formed_cells (RouteEntry.formed_fresh a.dest kind false s.clock) _
    · exact h.formed e old
  · intro e he off
    rcases mem_insertEntry.mp he with rfl | old
    · exact absurd (List.mem_singleton.mpr rfl) off
    · exact (SameRouting.entryLaw (s := s) ⟨rfl, rfl, rfl⟩) ▸ h.law e old (List.not_mem_nil)

theorem oldestUnreachable_mem {t : List RouteEntry} {e : RouteEntry} (h : oldestUnreachable t = some e) : e ∈ t :=
  (List.mem_filter.mp (leastBy_mem h)).1

theorem State.costliestVenue_mem {e : RouteEntry} (h : s.costliestVenue = some e) : e ∈ s.route.entries :=
  (List.mem_filter.mp (leastBy_mem h)).1

theorem State.evictee_mem {e : RouteEntry} (h : s.evictee = some e) : e ∈ s.route.entries := by
  unfold State.evictee at h
  split at h
  · rename_i x oldest
    cases h
    exact oldestUnreachable_mem oldest
  · exact State.costliestVenue_mem h

theorem AdvertWork.create_restoring {w : AdvertWork} (h : w.state.Restoring []) (runs : w.state.running = true)
    {a : AdvertEntry} (absent : w.state.routeEntry a.dest = none) (slots : List Nat) (kind : DestKind) :
    (w.create slots a kind).state.Restoring [] := by
  have fresh := State.routeEntry_none absent
  unfold AdvertWork.create
  split
  · rename_i room
    exact State.createEntry_restoring h runs room fresh slots kind
  · split
    · exact h.remove (fun r => { r with droppedDestinations := bump r.droppedDestinations }) (.refl _)
    · rename_i v found
      have held := State.evictee_mem found
      refine State.createEntry_restoring (h.remove (fun r => { r with
          entries := removeEntry v.dest r.entries
          evictedEntries := bump r.evictedEntries }) List.filter_sublist) runs
        (Nat.lt_of_lt_of_le (removeEntry_length held) h.count) (fun e he => ?_) slots kind
      exact fresh e (mem_removeEntry.mp he).1

theorem AdvertWork.take_restoring (slots : List Nat) {w : AdvertWork} (h : w.state.Restoring [])
    (runs : w.state.running = true) (a : AdvertEntry) : (w.take slots a).state.Restoring [] := by
  unfold AdvertWork.take
  split
  · exact h.remove (fun r => { r with skippedEntries := bump r.skippedEntries }) (.refl _)
  · split
    · rename_i e held
      exact State.refreshEntry_restoring h held slots
    · rename_i absent
      split
      · exact h
      · split
        · exact AdvertWork.create_restoring h runs absent slots _
        · exact h

theorem AdvertWork.takeAll_restoring (slots : List Nat) (entries : List AdvertEntry) {w : AdvertWork}
    (h : w.state.Restoring []) (runs : w.state.running = true) :
    (entries.foldl (AdvertWork.take slots) w).state.Restoring [] := by
  induction entries generalizing w with
  | nil => exact h
  | cons a as ih =>
    exact ih (AdvertWork.take_restoring slots h runs a)
      (((w.take_changes slots a).running_eq (by decide)).trans runs)

theorem State.takeAdvert_restoring (h : s.Restoring []) (p : Port) (sender : Nat) (entries : List AdvertEntry) :
    (s.takeAdvert p sender entries).Restoring [] := by
  unfold State.takeAdvert
  split
  · rename_i runs
    split
    · exact h.remove _ (.refl _)
    · exact State.routeNotices_restoring (AdvertWork.takeAll_restoring _ entries h runs) _ _
  · exact h

/-! ### Alarm and zone changes (R18) -/

theorem State.Restoring.reevaluateAll {u : State} (h : s.Restoring []) (entries : u.route.entries = s.route.entries)
    (runs : u.running = s.running) : u.reevaluateAllEvent.Restoring [] := by
  refine State.reevaluateAllEvent_restoring ?_ ?_ ?_ ?_
  · rw [entries]
    exact h.count
  · rw [entries]
    exact h.order
  · rw [entries, runs]
    exact h.runs
  · rw [entries]
    exact h.formed

theorem State.alarmNotice_restoring {u : State} (h : s.Restoring []) (cfg : u.cfg = s.cfg)
    (entries : u.route.entries = s.route.entries) (runs : u.running = s.running)
    (reports : u.alarm.reports = s.alarm.reports) (event : SweepEvent) :
    (u.alarmNotice s.alarm.level u.alarm.level event).Restoring [] := by
  have idle (life : u.start.lifecycle ≠ .listening) (life' : u.start.lifecycle ≠ .operating)
      {v : State} {a : List Block} (only : OnlyChanges a u v)
      (off : Block.within a [.page, .panel, .ind] = true) : v.Restoring [] := by
    have off' : u.running = false := by
      cases l : u.start.lifecycle <;> simp_all [State.running, Lifecycle.running]
    have empty : s.route.entries = [] := h.runs.resolve_left (by rw [← runs, off']; nofun)
    have wide := only.widen off
    have route : v.route = u.route := wide .route (by decide)
    have none : v.route.entries = [] := by rw [route, entries, empty]
    exact .empty none
  have running : (if s.alarm.level.emergency = u.alarm.level.emergency then u else u.reevaluateAllEvent).Restoring
      [] := by
    split
    · rename_i same
      exact h.of_same ⟨cfg, reports, same.symm⟩ runs entries
    · exact h.reevaluateAll entries runs
  have told (v : State) (k : v.Restoring []) : ((((((v.cabinTakesAlarm event).musterTakesAlarm
      u.alarm.level).triggerTakesAlarm s.alarm.level u.alarm.level).panelDo
      (fun e p => p.takeAlarm e s.alarm.level u.alarm.level)).indicatorTakes u.alarm.level).pageTakesAlarm
      u.alarm.level).Restoring [] := by
    refine OnlyChanges.restoring (State.pageTakesAlarm_changes _ _) ?_
    refine OnlyChanges.restoring (State.indicatorTakes_changes _ _) ?_
    refine OnlyChanges.restoring (State.panelDo_changes _ _) ?_
    refine OnlyChanges.restoring (State.triggerTakesAlarm_changes _ _ _) ?_
    refine OnlyChanges.restoring (State.musterTakesAlarm_changes _ _) ?_
    exact OnlyChanges.restoring (State.cabinTakesAlarm_changes _ _) k
  unfold State.alarmNotice
  split
  · rename_i life
    exact idle (by simp [life]) (by simp [life]) (OnlyChanges.refl [] u) rfl
  · rename_i life
    exact idle (by simp [life]) (by simp [life]) ((u.indicatorTakes_changes _).andThen
      (State.pageTakesAlarm_changes _ _) (c := [.page, .panel, .ind])) rfl
  · exact told _ running
  · exact told _ running

theorem State.takeAlarmFrame_restoring (h : s.Restoring []) (origin : Nat) (p : AlarmPayload) :
    (s.takeAlarmFrame origin p).1.Restoring [] := by
  rcases s.takeAlarmFrame_cases origin p with ⟨only, n, kept⟩ | ⟨-, newEpoch, -, taken⟩
  · have route : (s.takeAlarmFrame origin p).1.route = s.route := only .route (by decide)
    exact h.of_same ⟨only.cfg_eq (by decide), by rw [kept], by rw [kept]⟩ (only.running_eq (by decide))
      (by rw [route])
  · rw [taken]
    exact State.alarmNotice_restoring (u := s.changeAlarm origin p newEpoch) h rfl rfl rfl rfl _

theorem State.takeZoneFrame_restoring (h : s.Restoring []) (origin : Nat) (p : ZonePayload) :
    (s.takeZoneFrame origin p).1.Restoring [] := by
  rcases s.takeZoneFrame_cases origin p with ⟨n, taken⟩ | ⟨-, u, t, n, only, work, -, -, taken⟩
  · rw [taken]
    exact h.of_same ⟨rfl, rfl, rfl⟩ rfl rfl
  · have route : u.route = s.route := only .route (by decide)
    rw [taken]
    exact (State.musterReview_changes _).restoring
      (h.reevaluateAll (by rw [route]) work.sameStanding.running)

theorem State.takeReassignFrame_restoring (h : s.Restoring []) (origin : Nat) (p : ReassignPayload) :
    (s.takeReassignFrame origin p).1.Restoring [] := by
  have work : Work true s (s.takeReassignFrame origin p).1 := s.takeReassignFrame_work origin p
  have route : (s.takeReassignFrame origin p).1.route = s.route :=
    s.takeReassignFrame_changes origin p .route (by decide)
  have reports : (s.takeReassignFrame origin p).1.alarm.reports = s.alarm.reports := by
    rcases s.takeReassignFrame_cases origin p with ⟨n, taken⟩ | ⟨-, -, taken⟩
    · rw [taken]
      rfl
    · rw [taken, s.acceptReassign_alarm]
  exact h.of_same ⟨work.sameStanding.cfg, reports, by rw [work.sameLevels.alarm]⟩ work.sameStanding.running
    (by rw [route])

/-- The start block of a running node is told of what it heard. -/
theorem Work.restoring (work : Work true s t) {a : List Block} (only : OnlyChanges a s t)
    (off : Block.within a [.start, .bus, .ports, .time, .muster, .prog, .cabin, .trig, .page, .panel, .ind, .status,
      .pins] = true) (h : s.Restoring dests) : t.Restoring dests := by
  have wide := only.widen off
  have route : t.route = s.route := wide .route (by decide)
  have alarm : t.alarm = s.alarm := wide .alarm (by decide)
  exact h.of_same (.of_alarm work.sameStanding.cfg alarm) work.sameStanding.running (by rw [route])

theorem classHandler_restoring {p : Port} {cls : FrameClass} {f : RxFrame} {k : State → State}
    (hh : classHandler p cls f = some k) (h : s.Restoring []) : (k s).Restoring [] := by
  have relayed (u : State) (changed : Bool) (l : u.Restoring []) : (u.relay p cls f changed).Restoring [] :=
    (u.relay_changes p cls f changed).restoring l
  cases cls with
  | alarm =>
    obtain ⟨a, -, rfl⟩ := Option.map_eq_some_iff.mp hh
    exact relayed _ _ ((State.hearAlarm_work _ p a).restoring (State.hearAlarm_changes _ p a) rfl
      (State.takeAlarmFrame_restoring h _ a))
  | zone =>
    obtain ⟨z, -, rfl⟩ := Option.map_eq_some_iff.mp hh
    exact relayed _ _ ((State.hearZone_work _ p _ z).restoring (State.hearZone_changes _ p _ z) rfl
      (State.takeZoneFrame_restoring h _ z))
  | reassign =>
    obtain ⟨r, -, rfl⟩ := Option.map_eq_some_iff.mp hh
    exact relayed _ _ ((State.hearReassign_work _ p r).restoring (State.hearReassign_changes _ p r) rfl
      (State.takeReassignFrame_restoring h _ r))
  | advert =>
    obtain ⟨entries, -, rfl⟩ := Option.map_eq_some_iff.mp hh
    exact State.takeAdvert_restoring h p f.sender entries
  | _ => exact (classHandler_work hh (by decide) s).restoring (classHandler_blocks hh s) rfl h

end

/-! ### Entry to LISTENING (R4) -/

theorem ascending_pairwise (l : List Nat) : (ascending l).Pairwise (· < ·) := by
  suffices all : ∀ t : List Nat, t.Pairwise (· < ·) →
      (l.foldl (fun t d => if t.contains d then t else insertBy (fun x y => decide (x < y)) d t) t).Pairwise
        (· < ·) from all [] .nil
  induction l with
  | nil => exact fun t h => h
  | cons d l ih =>
    intro t h
    refine ih _ ?_
    dsimp only
    split
    · exact h
    · rename_i absent
      have other : ∀ y ∈ t, y ≠ d := fun y hy same => by simp [← same, hy] at absent
      exact pairwise_insertBy d t h (fun _ _ k => of_decide_eq_true k)
        (fun y hy k => Nat.lt_of_le_of_ne (Nat.le_of_not_lt (of_decide_eq_false k)) (other y hy))
        fun _ _ _ _ a b => Nat.lt_trans a b

theorem mem_ascending {x : Nat} {l : List Nat} : x ∈ ascending l ↔ x ∈ l := by
  suffices all : ∀ t : List Nat,
      x ∈ l.foldl (fun t d => if t.contains d then t else insertBy (fun x y => decide (x < y)) d t) t ↔
        x ∈ t ∨ x ∈ l from (all []).trans (by simp)
  induction l with
  | nil => simp
  | cons d l ih =>
    intro t
    rw [List.foldl_cons, ih]
    split
    · rename_i held
      have mem : d ∈ t := by simpa using held
      constructor
      · rintro (h | h)
        · exact .inl h
        · exact .inr (List.mem_cons_of_mem _ h)
      · rintro (h | h)
        · exact .inl h
        · rcases List.mem_cons.mp h with rfl | h
          · exact .inl mem
          · exact .inr h
    · rw [mem_insertBy, List.mem_cons, or_assoc, or_left_comm]

theorem ascending_length_le (l : List Nat) : (ascending l).length ≤ l.length :=
  List.Nodup.length_le_of_subset ((ascending_pairwise l).imp Nat.ne_of_lt) fun _ h => mem_ascending.mp h

theorem pinnedEntry_dest (cfg : ConfigCopy) (now dest : Nat) : (pinnedEntry cfg now dest).dest = dest := by
  unfold pinnedEntry
  split
  · rfl
  · split <;> rfl

theorem pinnedEntry_formed (cfg : ConfigCopy) (now dest : Nat) : (pinnedEntry cfg now dest).formed := by
  unfold pinnedEntry
  split
  · exact RouteEntry.formed_anchored _ _ _
  · split
    · exact RouteEntry.formed_fresh _ _ _ _
    · exact RouteEntry.formed_fresh _ _ _ _

theorem readImage_structure {image : List Byte} {c : ConfigCopy} {k : Nat} (good : readImage image = .good c k) :
    structureGood image = true := by
  unfold readImage at good
  generalize structureGood image = structural at good ⊢
  cases structural with
  | true => rfl
  | false =>
    generalize imageCheckGood image = check at good
    cases check <;> exact nomatch good

/-- A good image names at most 22 destinations (R171). -/
theorem pinnedIds_length_le {image : List Byte} {c : ConfigCopy} {k : Nat} (good : readImage image = .good c k) :
    (pinnedIds c).length ≤ 22 := by
  have structural := readImage_structure good
  obtain ⟨rfl, -⟩ := readImage_copy good
  simp only [structureGood, Bool.and_eq_true, decide_eq_true_eq] at structural
  obtain ⟨⟨⟨⟨⟨-, anchored⟩, labels⟩, signposted⟩, -⟩, -⟩ := structural
  refine Nat.le_trans (ascending_length_le _) ?_
  simp only [List.length_append, List.length_map, imageCopy, List.length_range]
  omega

theorem State.routeEntersListening_restoring {s : State} (few : (pinnedIds s.cfg).length ≤ tableCap)
    (runs : s.running = true) : s.routeEntersListening.Restoring [] := by
  refine State.reevaluateAllEvent_restoring ?_ ?_ (.inl runs) ?_
  · show ((pinnedIds s.cfg).map (pinnedEntry s.cfg s.clock)).length ≤ tableCap
    rwa [List.length_map]
  · refine List.pairwise_map.mpr ((ascending_pairwise _).imp fun {x y} lt => ?_)
    rwa [pinnedEntry_dest, pinnedEntry_dest]
  · intro e he
    obtain ⟨d, -, rfl⟩ := List.mem_map.mp he
    exact pinnedEntry_formed _ _ _

theorem State.entersListening_restoring {s : State} {image : List Byte} {c : ConfigCopy} {k : Nat}
    (good : readImage image = .good c k) : (s.entersListening c k).Restoring [] := by
  have few := pinnedIds_length_le good
  have used := (s.startDo (StartBlock.listens c k s.clock)).portsEnterListening_used
  have cfg : (s.startDo (StartBlock.listens c k s.clock)).portsEnterListening.cfg = c :=
    used.only.cfg_eq (by decide)
  have runs : (s.startDo (StartBlock.listens c k s.clock)).portsEnterListening.running = true :=
    used.only.running_eq (by decide)
  have routed := State.routeEntersListening_restoring (by rw [cfg]; exact Nat.le_trans few (by decide)) runs
  refine OnlyChanges.restoring (State.pageEntersListening_changes _) ?_
  refine OnlyChanges.restoring (State.panelDo_changes _ _) ?_
  refine OnlyChanges.restoring (State.triggerEntersListening_changes _) ?_
  exact OnlyChanges.restoring (State.cabinEntersListening_changes _) routed

theorem State.listenEnds_entries (s : State) : s.listenEnds.route.entries = s.route.entries := by
  by_cases ends : s.start.lifecycle = .listening ∧ due s.start.listenDeadline s.clock = true
  · have route : (s.startDo StartBlock.operates).firstFrames.route = s.route :=
      State.firstFrames_changes _ .route (by decide)
    rw [State.listenEnds_due ends.1 ends.2, State.timeDo_route, State.routeDo_route, route]
  · unfold State.listenEnds
    rw [if_neg ends]

theorem Taken.restoring {c : Instr} {s t : State} (ran : exec c s = .next t) (h : Taken c s t)
    (law : s.Restoring []) : t.Restoring [] := by
  have marks {u : State} {a : List Block} (only : OnlyChanges a s u)
      (off : Block.within a [.route, .ports, .ind] = true) (moved : MarksMoved s.route.entries u.route.entries) :
      u.Restoring [] :=
    law.marks (only.widen off).sameRouting ((only.widen off).running_eq (by decide)) moved
  cases h with
  | work done only =>
    by_cases outside : Block.route ∉ commandBlocks c
    · have route : t.route = s.route := only .route outside
      exact law.of_same (.of_alarm done.sameStanding.cfg (only .alarm (commandBlocks_alarm c)))
        done.sameStanding.running (by rw [route])
    · cases c with
      | transmissionStart p =>
        cases ran
        exact marks (s.startTransmission_changes p) rfl (s.startTransmission_moved p)
      | sent p =>
        cases ran
        exact marks (s.frameSent_changes p) rfl (s.frameSent_moved p)
      | arbitrationLost p =>
        cases ran
        exact marks (s.arbitrationWasLost_changes p) rfl (s.arbitrationWasLost_moved p)
      | transmitFault p =>
        cases ran
        exact marks (s.transmitFaulted_changes p) rfl (s.transmitFaulted_moved p)
      | cellExpiry d slot =>
        cases ran
        exact State.expireCell_restoring law d slot
      | holdDownDeadline d =>
        cases ran
        exact State.endHoldDown_restoring law d
      | flush d =>
        cases ran
        exact State.flushEntry_restoring law d
      | periodicFullRequest =>
        cases ran
        exact State.periodicFull_restoring law
      | gapExpiry p =>
        cases ran
        exact State.gapEnds_restoring law p
      | _ => exact absurd (by simp [commandBlocks]) outside
  | frame tested handled => exact classHandler_restoring handled (tested.2.restoring law)
  | image octets =>
    rcases s.imageReadEnds_cases octets with same | ⟨loading, ⟨config, clamps, good, enters⟩ | ⟨checkGood, bad⟩⟩
    · rwa [same]
    · rw [enters]
      exact State.entersListening_restoring good
    · have empty : s.route.entries = [] := law.runs.resolve_left (by rw [State.running, loading]; nofun)
      have route : (s.entersConfigFault octets checkGood).route = s.route :=
        s.entersConfigFault_changes octets checkGood .route (by decide)
      rw [bad]
      exact .empty (by rw [route, empty])
  | listen =>
    rcases s.listenEnds_cases with same | ⟨listening, rest⟩
    · rwa [same]
    · have alarm : s.listenEnds.alarm = s.alarm := s.listenEnds_changes .alarm (by decide)
      have standing := rest.sameStanding
      have runs : s.listenEnds.running = s.running := standing.running.trans (by
        simp only [State.running, listening]
        rfl)
      have entries : s.listenEnds.route.entries = s.route.entries := s.listenEnds_entries
      exact law.of_same (.of_alarm standing.cfg alarm) runs entries

/-- Settles O28: every operation on the table stores re-evaluated entries only, and where an alarm or a zone change
moves the candidates all entries are re-evaluated at once. -/
theorem routeLawKept : Obligations.RouteLawKept := by
  unfold Obligations.RouteLawKept
  intro s t law next
  rw [State.routeLaw_iff] at law ⊢
  exact step_keeps (P := State.Restoring []) (fun _ h => h.of_same ⟨rfl, rfl, rfl⟩ rfl rfl)
    (fun _ _ h => h.of_same ⟨rfl, rfl, rfl⟩ rfl rfl) (fun _ _ _ _ _ => .empty rfl)
    (fun _ _ _ ran how h => how.restoring ran h) law next

end Sys2Proof.Machine

/-! ### Steps, resets and hand-overs (chapters 8 and 11) -/

namespace Sys2Proof.Machine

/-- Settles O1: both branches of the step, as they stand. -/
theorem stepRunsFrontCommand : Obligations.StepRunsFrontCommand := by
  unfold Obligations.StepRunsFrontCommand
  refine ⟨fun c rest s front => ?_, fun s empty => ?_⟩
  · rw [step, front]
  · refine ⟨s.tick, ?_, rfl, s.tick_changes⟩
    rw [step, empty]

/-- What a reset of any cause and start count leaves. -/
theorem State.afterReset_leaves (cause : ResetCause) (count : Nat) (strap : PanelKind) (s : State) :
    ResetLeaves strap s (State.afterReset cause count strap s.pins s.pending) := by
  have port (p : Port) : (⟨PortCtl.reset, PortCtl.reset⟩ : PerPort PortCtl).get p = PortCtl.reset := by
    cases p <;> rfl
  refine ⟨rfl, rfl, rfl, rfl, rfl, fun p => by cases p <;> rfl, rfl, fun p => ?_, rfl, rfl, rfl, rfl, rfl, rfl, rfl,
    rfl, rfl, rfl, rfl, rfl, rfl, rfl, rfl, rfl, rfl, rfl, rfl, rfl, fun x hx => ?_, fun x hx => ?_, rfl, rfl, rfl, rfl,
    rfl, rfl, rfl, rfl, rfl, rfl, rfl, rfl, rfl⟩
  · cases p <;> exact ⟨rfl, rfl, rfl, rfl, rfl, rfl, rfl⟩
  · have sets : ∀ x ∈ TriggerUnit.reset.sets, x.state = .disabled := by decide
    exact sets x hx
  · have timers : ∀ x ∈ TriggerUnit.reset.timers, x.running = false ∧ x.count = 0 := by decide
    exact timers x hx

/-- Settles O2: a reset writes every block from its cause, count and strap alone. -/
theorem resetsRestore : Obligations.ResetsRestore := by
  unfold Obligations.ResetsRestore
  refine ⟨fun strap s => ⟨rfl, State.afterReset_leaves .power 0 strap s⟩, fun strap pulse s long => ?_,
    fun strap pulse s short => ?_⟩
  · refine ⟨?_, State.afterReset_leaves .line (min 255 (s.start.startCount + 1)) strap s⟩
    show Host.Outcome.next (s.lineResets strap pulse) = _
    rw [State.lineResets, if_pos (show minimumPulse ≤ pulse from long)]
    rfl
  · show Host.Outcome.next (s.lineResets strap pulse) = _
    rw [State.lineResets, if_neg (show ¬minimumPulse ≤ pulse from Nat.not_le_of_lt short)]

/-- Settles O3: each law at the reset state. -/
theorem resetMeetsLaws : Obligations.ResetMeetsLaws := by
  unfold Obligations.ResetMeetsLaws
  obtain ⟨muster, trigger, page⟩ := State.afterReset_levelsLawful .power 0 Config.resetStrap
    ⟨List.replicate 8 Config.resetLineHigh, Config.resetBusyHigh⟩ []
  refine ⟨⟨⟨Nat.zero_le _, .nil, .nil⟩, ⟨Nat.zero_le _, .nil, .nil⟩⟩, fun _ => ⟨rfl, rfl, rfl, rfl⟩,
    State.afterReset_faultLaw _ _ _ _ _, (State.routeLaw_iff _).mpr (.empty rfl), ⟨Nat.zero_le _, .nil, nofun⟩,
    ⟨.nil, nofun⟩, ?_, ?_, muster, trigger, page, ?_⟩
  · exact ⟨Nat.zero_le _, .nil, .nil, Nat.zero_le _, .nil, nofun, Nat.zero_le _, .nil, nofun⟩
  · exact ⟨Nat.zero_le _, .nil, rfl, rfl, nofun, rfl⟩
  · exact ⟨Nat.zero_le _, Nat.zero_le _, fun _ => rfl⟩

/-! ### Hand-overs by cause (R136) -/

/-- The urgency of a field by its page and number (R136). -/
def Page.fieldUrgent (page : Page) (n : Nat) : Bool :=
  match page with
  | .fallback => true
  | .muster => decide (n = 1 ∨ 16 ≤ n)
  | .abandon => decide (n = 1 ∨ 16 ≤ n)
  | .cabin => false
  | .spotlight => decide (n = 1)
  | .rotation _ => decide (n = 1)

/-- The origin mark of a field by its page and number (R136). -/
def Page.fieldMark (page : Page) (n : Nat) : OriginMark :=
  if page = .cabin ∧ n = 25 then .cabinInput
  else if page = .cabin ∧ (n = 23 ∨ n = 24) then .cabinInformation
  else .none

theorem musterFieldCause_urgent {page : Page} (guides : page = .muster ∨ page = .abandon) (n : Nat) :
    (musterFieldCause n).fieldUrgent page n = decide (n = 1 ∨ 16 ≤ n) := by
  unfold musterFieldCause
  by_cases h0 : n = 0
  · simp [h0, PageCause.fieldUrgent, PageCause.urgent]
  by_cases h1 : n = 1
  · simp [h1, PageCause.fieldUrgent, PageCause.urgent]
  by_cases h15 : n ≤ 15
  · have other : ¬(n = 19 ∨ n = 20) := by omega
    have low : ¬16 ≤ n := by omega
    simp [h0, h1, h15, other, low, PageCause.fieldUrgent]
  by_cases h18 : n ≤ 18
  · have high : 16 ≤ n := by omega
    simp [h0, h1, h15, h18, high, PageCause.fieldUrgent, PageCause.urgent]
  by_cases h20 : n ≤ 20
  · have high : 16 ≤ n := by omega
    have route : n = 19 ∨ n = 20 := by omega
    simp [h0, h1, h15, h18, h20, high, route, guides, PageCause.fieldUrgent]
  have high : 16 ≤ n := by omega
  by_cases h21 : n = 21
  · simp [h21, PageCause.fieldUrgent, PageCause.urgent]
  · simp [h0, h1, h15, h18, h20, h21, high, PageCause.fieldUrgent, PageCause.urgent]

theorem musterFieldCause_mark (n : Nat) : (musterFieldCause n).mark = .none := by
  unfold musterFieldCause
  repeat' split
  all_goals rfl

theorem handedRecord_eq (page : Page) (r : FieldRecord) :
    handedRecord page r = ⟨r, page.fieldUrgent r.num, page.fieldMark r.num⟩ := by
  have both : (fieldCause page r.num).fieldUrgent page r.num = page.fieldUrgent r.num ∧
      (fieldCause page r.num).mark = page.fieldMark r.num := by
    generalize r.num = n
    cases page with
    | fallback => exact ⟨rfl, rfl⟩
    | abandon => exact ⟨musterFieldCause_urgent (.inr rfl) n, musterFieldCause_mark n⟩
    | muster => exact ⟨musterFieldCause_urgent (.inl rfl) n, musterFieldCause_mark n⟩
    | spotlight =>
      by_cases h1 : n = 1 <;>
        simp [fieldCause, h1, PageCause.fieldUrgent, PageCause.urgent, PageCause.mark, Page.fieldUrgent,
          Page.fieldMark]
    | cabin =>
      by_cases h25 : n = 25
      · simp [fieldCause, h25, PageCause.fieldUrgent, PageCause.urgent, PageCause.mark, Page.fieldUrgent,
          Page.fieldMark]
      by_cases h23 : n = 23 ∨ n = 24 <;>
        simp [fieldCause, h25, h23, PageCause.fieldUrgent, PageCause.urgent, PageCause.mark, Page.fieldUrgent,
          Page.fieldMark]
    | rotation position =>
      cases position with
      | route =>
        by_cases h0 : n = 0
        · simp [fieldCause, h0, PageCause.fieldUrgent, PageCause.urgent, PageCause.mark, Page.fieldUrgent,
            Page.fieldMark]
        by_cases h1 : n = 1 <;>
          simp [fieldCause, h0, h1, PageCause.fieldUrgent, PageCause.urgent, PageCause.mark, Page.fieldUrgent,
            Page.fieldMark]
      | programme k =>
        by_cases h1 : n = 1 <;>
          simp [fieldCause, h1, PageCause.fieldUrgent, PageCause.urgent, PageCause.mark, Page.fieldUrgent,
            Page.fieldMark]
  rw [handedRecord, both.1, both.2]

section
variable {s : State} (cause : PageCause)

/-- Another page than the one handed last is handed whole and counted. -/
theorem State.handOver_pageChange (other : ∀ h, s.page.handed = some h → h.page ≠ s.page.selected) :
    (s.handOver cause).page.pageChanges = bump s.page.pageChanges ∧
      (s.handOver cause).panel =
        s.panel.takePageChange s.panelEnv (s.composePage s.page.selected) cause.urgent := by
  unfold State.handOver
  dsimp only
  split
  · exact ⟨rfl, rfl⟩
  · rename_i h held
    rw [if_pos (other h held)]
    exact ⟨rfl, rfl⟩

/-- Of the page handed last the changed records are handed. -/
theorem State.handOver_fieldChange {h : Handed} (held : s.page.handed = some h) (same : h.page = s.page.selected) :
    (s.handOver cause).page.pageChanges = s.page.pageChanges ∧
      (changedFields h.fields (s.composePage s.page.selected) = [] → (s.handOver cause).panel = s.panel) ∧
      (changedFields h.fields (s.composePage s.page.selected) ≠ [] →
        (s.handOver cause).panel = s.panel.takeFieldChange s.panelEnv
          ((changedFields h.fields (s.composePage s.page.selected)).map (handedRecord s.page.selected))) := by
  unfold State.handOver
  rw [held]
  dsimp only
  rw [if_neg (by simpa using same)]
  split
  · rename_i none
    exact ⟨rfl, fun _ => rfl, fun some => absurd none some⟩
  · rename_i some
    exact ⟨rfl, fun none => absurd none some, fun _ => rfl⟩

end

/-- Settles O50: a hand-over is a page change or a field change, and a record's own cause follows from its page and
number. -/
theorem changesHandedByCause : Obligations.ChangesHandedByCause := by
  unfold Obligations.ChangesHandedByCause
  intro cause s page composed handed byCause urgent mark t
  obtain ⟨n, taken⟩ := s.handOver_page cause
  have causes : byCause = cause.urgent := by cases cause <;> rfl
  have records : (fun r : FieldRecord => (⟨r, urgent r.num, mark r.num⟩ : HandedField)) = handedRecord page := by
    funext r
    rw [handedRecord_eq]
    cases h : page <;> simp only [urgent, mark, Page.fieldUrgent, Page.fieldMark, h]
  refine ⟨⟨by rw [taken], by rw [taken], s.handOver_changes cause⟩, fun other => ?_, fun h held same => ?_⟩
  · rw [causes]
    exact State.handOver_pageChange cause other
  · intro changed
    rw [records]
    exact State.handOver_fieldChange cause held same

end Sys2Proof.Machine

/-! ### Re-evaluation by the state of an entry (R14 to R17) -/

namespace Sys2Proof.Machine

section
variable {s : State} {e : RouteEntry}

theorem State.reevaluated_unreachable (state : e.state = .unreachable) :
    s.reevaluated e = (s.bestRoute e.cells (fun _ => true)).elim e e.takeRoute := by
  unfold State.reevaluated
  rw [state]
  dsimp only
  cases s.bestRoute e.cells (fun _ => true) <;> rfl

theorem State.reevaluated_lost (state : e.state = .reachable) (lost : s.currentCandidate e = none) :
    s.reevaluated e = (s.bestRoute e.cells (fun _ => true)).elim (s.giveUpRoute e) e.takeRoute := by
  unfold State.reevaluated
  rw [state, lost]
  dsimp only
  cases s.bestRoute e.cells (fun _ => true) <;> rfl

theorem State.reevaluated_kept {c : RouteCandidate} (state : e.state = .reachable)
    (current : s.currentCandidate e = some c) : s.reevaluated e = s.keepOrSwitch e c := by
  unfold State.reevaluated
  rw [state, current]

/-- Within the hysteresis of every candidate the next hop is kept (R15). -/
theorem State.keepOrSwitch_near {k : RouteCandidate}
    (near : ∀ n < 6, ∀ c, s.candidateAt e.cells n = some c → k.cost ≤ c.cost + s.cfg.hysteresis) :
    s.keepOrSwitch e k = e.takeRoute k := by
  unfold State.keepOrSwitch
  split
  · rfl
  · rename_i o best
    obtain ⟨⟨n, small, -, found⟩, -⟩ := State.bestRoute_spec best
    have := near n small o found
    exact if_neg (by omega)

/-- Another candidate lower by more than the hysteresis is taken (R15). -/
theorem State.keepOrSwitch_far {k c : RouteCandidate} (best : s.bestRoute e.cells (fun n => decide (n ≠ k.slot)) = some c)
    (far : c.cost + s.cfg.hysteresis < k.cost) : s.keepOrSwitch e k = e.takeRoute c := by
  unfold State.keepOrSwitch
  rw [best]
  exact if_pos (by omega)

end

/-- Settles O30: the rule for each state, with the best candidate the one that no other precedes. -/
theorem reevaluationByState : Obligations.ReevaluationByState := by
  unfold Obligations.ReevaluationByState
  intro s e reachable best
  have chosen {c : RouteCandidate} (h : best c) {admits : Nat → Bool} (admitted : admits c.slot = true) :
      s.bestRoute e.cells admits = some c := by
    obtain ⟨⟨n, small, found⟩, least⟩ := h
    exact State.bestRoute_eq_some small (State.candidateAt_slot found ▸ admitted) found
      fun m small' _ d found' => least d ⟨m, small', found'⟩
  have absent (h : ∀ c, ¬reachable c) : s.bestRoute e.cells (fun _ => true) = none :=
    State.bestRoute_eq_none fun n small => Option.eq_none_iff_forall_ne_some.mpr fun c found => h c ⟨n, small, found⟩
  refine ⟨?_, ?_, ?_, ?_⟩
  · rintro (state | state) <;> (unfold State.reevaluated; rw [state])
  · intro state
    rw [State.reevaluated_unreachable state]
    exact ⟨fun c h => by rw [chosen h rfl, Option.elim_some], fun h => by rw [absent h, Option.elim_none]⟩
  · intro state lost
    rw [State.reevaluated_lost state lost]
    refine ⟨fun c h => by rw [chosen h rfl, Option.elim_some], fun h => ?_⟩
    rw [absent h, Option.elim_none]
    exact ⟨fun zero => if_pos zero, fun some => if_neg some⟩
  · intro n k state hop small found
    have current : s.currentCandidate e = some k := by rw [State.currentCandidate, hop]; exact found
    rw [State.reevaluated_kept state current]
    refine ⟨fun near => State.keepOrSwitch_near fun m small' c found' => near c ⟨m, small', found'⟩,
      fun c h far => State.keepOrSwitch_far (chosen h (decide_eq_true ?_)) far⟩
    obtain ⟨⟨m, -, found'⟩, -⟩ := h
    intro same
    rw [State.candidateAt_slot found', State.candidateAt_slot found] at same
    rw [same] at found'
    cases found.symm.trans found'
    omega

end Sys2Proof.Machine

/-! ### Muster candidates (R48, R49, R50) -/

namespace Sys2Proof.Machine

/-- In a list of strictly ascending keys a key says the element. -/
theorem unique_of_ascending {α : Type} {key : α → Nat} {l : List α} (order : l.Pairwise (fun x y => key x < key y))
    {x y : α} (hx : x ∈ l) (hy : y ∈ l) (same : key x = key y) : x = y := by
  induction l with
  | nil => exact nomatch hx
  | cons z zs ih =>
    obtain ⟨first, rest⟩ := List.pairwise_cons.mp order
    rcases List.mem_cons.mp hx with rfl | hx' <;> rcases List.mem_cons.mp hy with rfl | hy'
    · rfl
    · exact absurd same (Nat.ne_of_lt (first y hy'))
    · exact absurd same.symm (Nat.ne_of_lt (first x hx'))
    · exact ih rest hx' hy'

/-- The place of a reassignment in the list holds one record (R42). -/
theorem State.reassignLaw.unique {s : State} (law : s.reassignLaw) {x y : Reassignment}
    (hx : x ∈ s.alarm.reassignments) (hy : y ∈ s.alarm.reassignments) (zone : x.zone = y.zone)
    (kind : x.kind = y.kind) : x = y := by
  have order := law.1.imp fun {a b} before => (Reassignment.before_iff a b).mp before
  exact unique_of_ascending (key := fun x => 2 * x.zone + x.kind.code) order hx hy (by rw [zone, kind])

section
variable (s : State) (k : PointKind)

/-- The destinations the configuration, the orders and the table name at a rank (R48). -/
def State.names (r : MusterRank) (d : Nat) : Prop :=
  match r with
  | .r0 => s.orderedDest k = some d
  | .r1 => d ≠ 0 ∧ s.cfg.primary k = d
  | .r2 => d ≠ 0 ∧ s.cfg.alternate k = d
  | .r3 => ∃ e, s.routeEntry d = some e ∧ e.servesKind k = true
  | .held => False

variable {s k}

theorem State.orderedDest_iff (law : s.reassignLaw) (d : Nat) : s.orderedDest k = some d ↔
    d ≠ 0 ∧ ∃ x ∈ s.alarm.reassignments, x.zone = s.cfg.zone ∧ x.kind = k ∧ x.dest = d := by
  have place (x : Reassignment) : (decide (x.zone = s.cfg.zone) && decide (x.kind = k)) = true ↔
      x.zone = s.cfg.zone ∧ x.kind = k := by simp
  unfold State.orderedDest State.reassignment
  constructor
  · intro h
    split at h
    · rename_i r found
      have at' := (place r).mp (List.find?_some (p := fun r : Reassignment => decide (r.zone = s.cfg.zone) && decide (r.kind = k)) found)
      split at h
      · cases h
      · rename_i some'
        cases h
        exact ⟨some', r, List.mem_of_find?_eq_some found, at'.1, at'.2, rfl⟩
    · cases h
  · rintro ⟨some', x, hx, zone, kind, rfl⟩
    split
    · rename_i r found
      have at' := (place r).mp (List.find?_some (p := fun r : Reassignment => decide (r.zone = s.cfg.zone) && decide (r.kind = k)) found)
      rw [law.unique (List.mem_of_find?_eq_some found) hx (at'.1.trans zone.symm) (at'.2.trans kind.symm)]
      exact if_neg some'
    · rename_i absent
      exact absurd ((place x).mpr ⟨zone, kind⟩) (by simpa using List.find?_eq_none.mp absent x hx)

/-- The rank of a destination is the best that names it. -/
theorem State.names_rankOf {d : Nat} (named : s.rankOf k d ≠ .held) : s.names k (s.rankOf k d) d := by
  unfold State.rankOf at named ⊢
  split
  · assumption
  · split
    · assumption
    · split
      · assumption
      · rename_i h0 h1 h2
        simp only [if_neg h0, if_neg h1, if_neg h2] at named ⊢
        split
        · rename_i e found
          split
          · rename_i serves
            exact ⟨e, found, serves⟩
          · rename_i other
            simp only [found, if_neg other] at named
            exact absurd rfl named
        · rename_i absent
          simp only [absent] at named
          exact absurd rfl named

theorem State.rankOf_le {d : Nat} {r : MusterRank} (named : s.names k r d) : (s.rankOf k d).code ≤ r.code := by
  unfold State.rankOf
  cases r with
  | r0 =>
    have named : s.orderedDest k = some d := named
    exact Nat.le_of_eq (congrArg MusterRank.code (if_pos named))
  | r1 =>
    have named : d ≠ 0 ∧ s.cfg.primary k = d := named
    split
    · exact Nat.zero_le _
    · exact Nat.le_refl _
  | r2 =>
    have named : d ≠ 0 ∧ s.cfg.alternate k = d := named
    split
    · exact Nat.zero_le _
    · split
      · exact Nat.le_succ _
      · exact Nat.le_refl _
    | r3 =>
    obtain ⟨e, found, serves⟩ := named
    split
    · exact Nat.zero_le _
    · split
      · decide
      · split
        · decide
        · simp only [found, serves, if_true]
          exact Nat.le_refl _
  | held => exact named.elim

theorem MusterRank.code_injective {r q : MusterRank} (h : r.code = q.code) : r = q := by
  cases r <;> cases q <;> simp_all [MusterRank.code]

/-- The rank of a destination, as the one that names it where no better one does. -/
theorem State.rankOf_iff {d : Nat} {r : MusterRank} : (s.rankOf k d = r ∧ r ≠ .held) ↔
    s.names k r d ∧ ∀ q : MusterRank, q.code < r.code → ¬s.names k q d := by
  constructor
  · rintro ⟨rfl, named⟩
    exact ⟨State.names_rankOf named, fun q less other => absurd (State.rankOf_le other) (Nat.not_le.mpr less)⟩
  · rintro ⟨named, least⟩
    have le := State.rankOf_le named
    have some' : s.rankOf k d ≠ .held := by
      intro held
      rw [held] at le
      cases r with
      | held => exact named.elim
      | _ => exact absurd le (by decide)
    have same : s.rankOf k d = r :=
      MusterRank.code_injective (Nat.le_antisymm le (Nat.not_lt.mp fun less => least _ less (State.names_rankOf some')))
    exact ⟨same, same ▸ some'⟩

theorem State.rankOf_held_iff {d : Nat} : s.rankOf k d = .held ↔ ∀ r, ¬s.names k r d := by
  constructor
  · intro held r named
    have le := State.rankOf_le named
    rw [held] at le
    cases r with
    | held => exact named.elim
    | _ => exact absurd le (by decide)
  · intro none
    refine Classical.byContradiction fun some' => ?_
    exact none _ (State.names_rankOf some')


theorem State.eligible_iff {d : Nat} : s.eligible d = true ↔
    (∃ e, s.routeEntry d = some e ∧ e.routed = true) ∧
      ∀ l, s.labelOf d = some l → (s.zoneAt l.zone l.deck).blocks = false := by
  unfold State.eligible
  rw [Bool.and_eq_true]
  refine and_congr ?_ ?_
  · cases s.routeEntry d <;> simp
  · cases s.labelOf d <;> simp

theorem RouteEntry.servesKind_iff {e : RouteEntry} : e.servesKind k = true ↔
    e.kind = k.destKind ∧ (e.state = .reachable ∨ e.state = .anchor) := by
  simp [RouteEntry.servesKind, RouteEntry.routed]

/-- The candidates are the destinations of a rank. -/
theorem State.mem_candidateDests (order : destOrdered s.route.entries) {d : Nat} :
    d ∈ s.candidateDests k ↔ s.rankOf k d ≠ .held := by
  have named : d ∈ s.candidateDests k ↔ ∃ r, s.names k r d := by
    have configured (x : Nat) : d ∈ (if x = 0 then [] else [x]) ↔ d ≠ 0 ∧ x = d := by
      split <;> simp <;> omega
    have served : d ∈ (s.route.entries.filter (RouteEntry.servesKind k)).map (fun e => e.dest) ↔
        ∃ e, s.routeEntry d = some e ∧ e.servesKind k = true := by
      simp only [List.mem_map, List.mem_filter]
      constructor
      · rintro ⟨e, ⟨he, serves⟩, rfl⟩
        exact ⟨e, State.routeEntry_of_mem order he, serves⟩
      · rintro ⟨e, found, serves⟩
        obtain ⟨he, dest⟩ := State.routeEntry_some found
        exact ⟨e, ⟨he, serves⟩, dest⟩
    unfold State.candidateDests
    rw [List.mem_append, List.mem_append, List.mem_append]
    refine (or_congr (or_congr (or_congr (?_ : _ ↔ s.orderedDest k = some d) (configured _)) (configured _))
      served).trans ?_
    · cases s.orderedDest k <;> simp [eq_comm]
    constructor
    · rintro (((h | h) | h) | h)
      · exact ⟨.r0, h⟩
      · exact ⟨.r1, h⟩
      · exact ⟨.r2, h⟩
      · exact ⟨.r3, h⟩
    · rintro ⟨r, h⟩
      cases r with
      | r0 => exact .inl (.inl (.inl h))
      | r1 => exact .inl (.inl (.inr h))
      | r2 => exact .inl (.inr h)
      | r3 => exact .inr h
      | held => exact h.elim
  rw [named, Ne, State.rankOf_held_iff, Classical.not_forall_not]

theorem Candidate.before_iff (x y : Candidate) : x.before y = true ↔ x.rank.code < y.rank.code ∨
    x.rank.code = y.rank.code ∧ (x.cost < y.cost ∨ x.cost = y.cost ∧ x.dest < y.dest) := by
  unfold Candidate.before
  split
  · simp only [decide_eq_true_eq]
    omega
  · split
    · simp only [decide_eq_true_eq]
      omega
    · simp only [decide_eq_true_eq]
      omega

theorem Candidate.before_false (x y : Candidate) : x.before y = false ↔ y.rank.code < x.rank.code ∨
    y.rank.code = x.rank.code ∧ (y.cost < x.cost ∨ y.cost = x.cost ∧ y.dest ≤ x.dest) := by
  rw [← Bool.not_eq_true, Candidate.before_iff]
  omega

/-- A destination among those the best candidate is chosen from. -/
def State.inPool (s : State) (k : PointKind) (admits : Candidate → Bool) (d : Nat) : Prop :=
  s.rankOf k d ≠ .held ∧ s.eligible d = true ∧ admits (s.candidateOf k d) = true

theorem State.mem_pool (order : destOrdered s.route.entries) {admits : Candidate → Bool} {c : Candidate} :
    c ∈ ((s.candidateDests k).map (s.candidateOf k)).filter (fun c => s.eligible c.dest && admits c) ↔
      ∃ d, s.inPool k admits d ∧ c = s.candidateOf k d := by
  simp only [List.mem_filter, List.mem_map, State.mem_candidateDests order, Bool.and_eq_true]
  constructor
  · rintro ⟨⟨d, named, rfl⟩, eligible, admitted⟩
    exact ⟨d, ⟨named, eligible, admitted⟩, rfl⟩
  · rintro ⟨d, ⟨named, eligible, admitted⟩, rfl⟩
    exact ⟨⟨d, named, rfl⟩, eligible, admitted⟩

/-- The best candidate is of the pool, and none of the pool precedes it (R50). -/
theorem State.bestCandidate_spec (order : destOrdered s.route.entries) {admits : Candidate → Bool} {c : Candidate}
    (h : s.bestCandidate k admits = some c) :
    (∃ d, s.inPool k admits d ∧ c = s.candidateOf k d) ∧
      ∀ d, s.inPool k admits d → (s.candidateOf k d).before c = false := by
  refine ⟨(State.mem_pool order).mp (leastBy_mem h), fun d pool => ?_⟩
  refine leastBy_least ?_ ?_ ?_ h _ ((State.mem_pool order).mpr ⟨d, pool, rfl⟩)
  · intro a b
    rw [Candidate.before_iff, Candidate.before_false]
    omega
  · intro a
    rw [Candidate.before_false]
    omega
  · intro a b c
    rw [Candidate.before_false, Candidate.before_false, Candidate.before_false]
    omega

theorem State.bestCandidate_eq_none (order : destOrdered s.route.entries) {admits : Candidate → Bool} :
    s.bestCandidate k admits = none ↔ ∀ d, ¬s.inPool k admits d := by
  constructor
  · intro none d pool
    have mem := (State.mem_pool order).mpr ⟨d, pool, rfl⟩
    rw [leastBy_none none] at mem
    exact nomatch mem
  · intro empty
    cases found : s.bestCandidate k admits with
    | none => rfl
    | some c =>
      obtain ⟨⟨d, pool, -⟩, -⟩ := State.bestCandidate_spec order found
      exact absurd pool (empty d)

/-- Of the ranks before the third each names one destination. -/
theorem State.names_unique {r : MusterRank} (before : r ≠ .r3) {d x : Nat} (hd : s.names k r d)
    (hx : s.names k r x) : d = x := by
  cases r with
  | r0 => exact Option.some.inj (hd.symm.trans hx)
  | r1 => exact hd.2.symm.trans hx.2
  | r2 => exact hd.2.symm.trans hx.2
  | r3 => exact absurd rfl before
  | held => exact hd.elim

/-- The cost that orders candidates of rank 3: that of the entry, which at an ANCHOR is 0 (R13, R50). -/
theorem State.candidateOf_cost (law : s.routeLaw) {d : Nat} {e : RouteEntry} (rank : s.rankOf k d = .r3)
    (he : e ∈ s.route.entries) (dest : e.dest = d) :
    (s.candidateOf k d).cost = if e.state = .anchor then 0 else e.cost := by
  have found : s.routeEntry d = some e := dest ▸ State.routeEntry_of_mem law.1.2.1 he
  have cost : (s.candidateOf k d).cost = e.cost := by
    unfold State.candidateOf
    simp only [rank, found]
  rw [cost]
  split
  · rename_i anchor
    have held := law.2 e he
    simp only [State.entryLaw, anchor, Bool.and_eq_true, decide_eq_true_eq] at held
    exact held.1.1.1.1
  · rfl

end

end Sys2Proof.Machine

namespace Sys2Proof.Machine

/-- Settles O36: ranks as the configuration, the orders and the table name them, and the choice as the one no
candidate of the pool precedes; a rank before the third names one destination, and at the third cost and id decide. -/
theorem bestEligibleCandidate : Obligations.BestEligibleCandidate := by
  unfold Obligations.BestEligibleCandidate
  intro s k orders law routed named ranked eligible cost
  have order : destOrdered s.route.entries := law.1.2.1
  have names (r : MusterRank) (d : Nat) : named r d ↔ s.names k r d := by
    cases r with
    | r0 => exact (State.orderedDest_iff orders d).symm
    | r1 => cases k <;> exact Iff.rfl
    | r2 => cases k <;> exact Iff.rfl
    | r3 =>
      have served : (∃ e ∈ s.route.entries, e.dest = d ∧ e.kind = k.destKind ∧ routed e) ↔ s.names k .r3 d := by
        constructor
        · rintro ⟨e, he, rfl, kind, state⟩
          exact ⟨e, State.routeEntry_of_mem order he, RouteEntry.servesKind_iff.mpr ⟨kind, state⟩⟩
        · rintro ⟨e, found, serves⟩
          obtain ⟨he, dest⟩ := State.routeEntry_some found
          exact ⟨e, he, dest, RouteEntry.servesKind_iff.mp serves⟩
      cases k <;> exact served
    | held => cases k <;> exact Iff.rfl
  have ranks (r : MusterRank) (d : Nat) : ranked r d ↔ s.rankOf k d = r ∧ r ≠ .held := by
    rw [State.rankOf_iff]
    exact and_congr (names r d) (forall₂_congr fun q _ => not_congr (names q d))
  have free (z : ZoneState) : z.blocks = false ↔ z ≠ .smoke ∧ z ≠ .fire := by cases z <;> decide
  have eligibles (d : Nat) : eligible d ↔ s.eligible d = true := by
    rw [State.eligible_iff]
    refine and_congr ?_ (forall₂_congr fun l _ => (free _).symm)
    constructor
    · rintro ⟨e, he, rfl, state⟩
      exact ⟨e, State.routeEntry_of_mem order he, by simpa [RouteEntry.routed] using state⟩
    · rintro ⟨e, found, state⟩
      obtain ⟨he, dest⟩ := State.routeEntry_some found
      exact ⟨e, he, dest, by simpa [RouteEntry.routed] using state⟩
  refine ⟨fun d => ⟨?_, fun r h => ((ranks r d).mp h).1⟩, eligibles, ?_⟩
  · rw [State.rankOf_held_iff]
    exact forall_congr' fun r => not_congr (names r d)
  intro admits pool
  have pools (r : MusterRank) (d : Nat) :
      pool r d ↔ s.rankOf k d = r ∧ s.inPool k (fun c => admits c.rank) d := by
    constructor
    · rintro ⟨rank, open', admitted⟩
      obtain ⟨rfl, named⟩ := (ranks r d).mp rank
      exact ⟨rfl, named, (eligibles d).mp open', admitted⟩
    · rintro ⟨rfl, named, open', admitted⟩
      exact ⟨(ranks _ d).mpr ⟨rfl, named⟩, (eligibles d).mpr open', admitted⟩
  constructor
  · intro empty
    exact (State.bestCandidate_eq_none order).mpr fun d inPool => empty _ d ((pools _ d).mpr ⟨rfl, inPool⟩)
  · intro r d inPool least
    have atD := (pools r d).mp inPool
    cases found : s.bestCandidate k (fun c => admits c.rank) with
    | none => exact absurd atD.2 ((State.bestCandidate_eq_none order).mp found d)
    | some c =>
      obtain ⟨⟨x, atX, rfl⟩, first⟩ := State.bestCandidate_spec order found
      have inPool' : pool (s.rankOf k x) x := (pools _ x).mpr ⟨rfl, atX⟩
      have notBefore := (Candidate.before_false _ _).mp (first d atD.2)
      have rankD : (s.candidateOf k d).rank = r := atD.1
      have rankX : (s.candidateOf k x).rank = s.rankOf k x := rfl
      rw [rankD, rankX] at notBefore
      suffices same : d = x by
        subst same
        exact ⟨_, rfl, rfl, rankD⟩
      rcases least _ x inPool' with less | ⟨rfl, near⟩
      · omega
      by_cases third : s.rankOf k x = .r3
      · obtain ⟨e, he, dest, -⟩ := inPool.2.1.1
        obtain ⟨e', he', dest', -⟩ := inPool'.2.1.1
        have closer := near third e he e' he' dest dest'
        have costD := State.candidateOf_cost law (atD.1.trans third) he dest
        have costX := State.candidateOf_cost law third he' dest'
        have destD : (s.candidateOf k d).dest = d := rfl
        have destX : (s.candidateOf k x).dest = x := rfl
        rw [costD, costX, destD, destX] at notBefore
        simp only [cost] at closer
        omega
      · exact State.names_unique third ((State.rankOf_iff.mp ⟨atD.1, atX.1⟩).1) (State.names_rankOf atX.1)

end Sys2Proof.Machine

/-! ### Requests as a port takes them, and the schedules that make them (R24, R25, R106, R158, R173, R174) -/

namespace Sys2Proof.Machine

theorem PerPort.put_get {α : Type} (v : PerPort α) (p : Port) : v.put p (v.get p) = v := by cases p <;> rfl

/-- What a request makes of its port, in OPERATING or not (R158). -/
def PortCtl.asked (c : PortCtl) (operating : Bool) (cls : FrameClass) (key : QueueKey) (content : QueueContent) :
    PortCtl :=
  if c.inUse = false ∨ operating = false then c
  else if c.state = .down then { c with refusedWhileDown := bump c.refusedWhileDown }
  else c.join cls key content

theorem State.request_ports (s : State) (p : Port) (cls : FrameClass) (key : QueueKey) (content : QueueContent) :
    (s.request p cls key content).ports =
      s.ports.put p ((s.ports.get p).asked (decide (s.start.lifecycle = .operating)) cls key content) := by
  unfold PortCtl.asked
  rcases s.request_cases p cls key content with ⟨off, eq⟩ | ⟨used, op, down, eq⟩ | ⟨used, op, up, eq⟩
  · rw [eq, if_pos (off.imp_right fun h => decide_eq_false h), PerPort.put_get]
  · simp [eq, used, op, down]
  · simp [eq, used, op, up]

theorem State.request_get (s : State) (p : Port) (cls : FrameClass) (key : QueueKey) (content : QueueContent) :
    (s.request p cls key content).ports.get p =
      (s.ports.get p).asked (decide (s.start.lifecycle = .operating)) cls key content := by
  rw [State.request_ports, PerPort.get_put_same]

theorem PortCtl.asked_of_unused {c : PortCtl} (unused : c.inUse = false) (operating : Bool) (cls : FrameClass)
    (key : QueueKey) (content : QueueContent) : c.asked operating cls key content = c := if_pos (.inl unused)

theorem PortCtl.asked_of_up {c : PortCtl} (used : c.inUse = true) (up : c.state = .up) (cls : FrameClass)
    (key : QueueKey) (content : QueueContent) : c.asked true cls key content = c.join cls key content := by
  simp [PortCtl.asked, used, up]

/-- Work done on each port in use that leaves the start block alone and touches its own port only. -/
theorem State.eachPort {s : State} {f : State → Port → State} {g : PortCtl → PortCtl}
    (work : ∀ t, t.start = s.start → ∀ p, (f t p).start = s.start ∧ (f t p).ports = t.ports.put p (g (t.ports.get p)))
    (unused : ∀ c : PortCtl, c.inUse = false → g c = c) (p : Port) :
    (s.portsInUse.foldl f s).ports.get p = g (s.ports.get p) := by
  have first := work s rfl .a
  have second := work s rfl .b
  have both := work (f s .a) first.1 .b
  have ports : s.portsInUse = (bif s.ports.a.inUse then [Port.a] else []) ++ bif s.ports.b.inUse then [Port.b] else [] := by
    unfold State.portsInUse
    show List.filter (fun p => (s.ports.get p).inUse) ([.a] ++ [.b]) = _
    rw [List.filter_append, filter_single, filter_single]
    rfl
  rw [ports]
  cases a : s.ports.a.inUse <;> cases b : s.ports.b.inUse
  · cases p
    · exact (unused _ a).symm
    · exact (unused _ b).symm
  · show (f s .b).ports.get p = _
    rw [second.2]
    cases p
    · exact (unused _ a).symm
    · rfl
  · show (f s .a).ports.get p = _
    rw [first.2]
    cases p
    · rfl
    · exact (unused _ b).symm
  · show (f (f s .a) .b).ports.get p = _
    rw [both.2, first.2]
    cases p <;> rfl

/-- A request on every port in use. -/
theorem State.requestEach_get (s : State) (cls : FrameClass) (key : QueueKey) (content : QueueContent) (p : Port) :
    (s.portsInUse.foldl (fun t p => t.request p cls key content) s).ports.get p =
      (s.ports.get p).asked (decide (s.start.lifecycle = .operating)) cls key content :=
  State.eachPort (g := fun c => c.asked (decide (s.start.lifecycle = .operating)) cls key content)
    (fun t start p => ⟨(t.request_changes p cls key content .start (by decide)).trans start, by
      rw [State.request_ports, start]⟩)
    (fun _ unused => PortCtl.asked_of_unused unused _ _ _ _) p

/-! ### SOLICIT frames (R174) -/

/-- Settles O9: the handler of R174 at the node that has heard the frame, whose start block is as it was. -/
theorem solicitTaken : Obligations.SolicitTaken := by
  unfold Obligations.SolicitTaken
  intro p f s hears empty
  have heard := s.heard_changes p
  have start : (s.heard p).start = s.start := heard .start (by decide)
  have clock : (s.heard p).clock = s.clock := heard .clock (by decide)
  have cfg : (s.heard p).cfg = s.cfg := heard.cfg_eq (by decide)
  have solicits := (s.heard p).takeSolicit_changes p
  have ports : ((s.heard p).takeSolicit p).ports = (s.heard p).ports := solicits .ports (by decide)
  have taken : exec (.solicitFrame p f) s = .next ((s.heard p).takeSolicit p) :=
    congrArg Host.Outcome.next (State.receive_eq (handle := fun t => t.takeSolicit p) hears (if_pos empty))
  refine ⟨_, taken, ?_, ?_, ports ▸ s.heard_counts p, ports ▸ s.heard_other p, heard.andThen solicits⟩
  · intro operating idle
    have sets : (s.heard p).takeSolicit p = (s.heard p).startDo fun b =>
        { b with
          schedules := b.schedules.put p (some ⟨(s.heard p).responseAt, false, [], []⟩)
          solicitsAnswered := bump b.solicitsAnswered } := by
      unfold State.takeSolicit
      rw [start, if_pos operating, idle]
    have at' : (s.heard p).responseAt = s.clock + s.cfg.nodeNumber % 16 * 25 + 25 := by
      rw [State.responseAt, clock, cfg]
    rw [sets, State.startDo_start, start, at']
    exact ⟨PerPort.get_put_same _ _ _, PerPort.get_put_otherPort _ _ _, rfl⟩
  · intro still
    have stays : (s.heard p).takeSolicit p = s.heard p := by
      unfold State.takeSolicit
      rw [start]
      split
      · rename_i operating
        split
        · rfl
        · rename_i idle
          rcases still with pending | listening
          · exact absurd idle pending
          · exact nomatch operating.symm.trans listening
      · rfl
    rw [stays, start]

/-! ### The periodic schedules (R24, R25, R106) -/

theorem due_some {d now : Nat} : due (some d) now = true ↔ d ≤ now := decide_eq_true_iff

theorem anyMarkSet_iff (p : Port) (t : List RouteEntry) : anyMarkSet p t = true ↔ ∃ e ∈ t, e.marks.get p = .set := by
  simp [anyMarkSet]

section
variable {s : State} {d : Nat}

theorem State.periodicFull_due (operating : s.start.lifecycle = .operating) (next : s.route.nextFull = some d)
    (now : d ≤ s.clock) :
    s.periodicFull = (s.portsInUse.foldl (fun t p => t.request p .advert .token (.token (.full 1))) s).routeDo
      (fun r => { r with nextFull := r.nextFull.map (· + s.advertMs) }) :=
  if_pos ⟨operating, next ▸ due_some.mpr now⟩

theorem State.beaconDue_due (operating : s.start.lifecycle = .operating) (next : s.time.beaconDeadline = some d)
    (now : d ≤ s.clock) :
    s.beaconDue = (if s.time.beaconing then
        s.portsInUse.foldl (fun t p => t.request p .beacon .whole .beacon) s else s).timeDo
      (fun u => { u with beaconDeadline := u.beaconDeadline.map (· + s.cfg.beaconInterval * 1000) }) :=
  if_pos ⟨operating, next ▸ due_some.mpr now⟩

theorem TimeUnit.beaconing_iff (u : TimeUnit) : u.beaconing = true ↔
    u.state = .synced ∧ ∃ n, u.ownStratum = some n ∧ n ≤ 14 := by
  unfold TimeUnit.beaconing
  rw [Bool.and_eq_true, decide_eq_true_iff]
  cases u.ownStratum <;> simp

theorem State.requestTriggered_route (s : State) (p : Port) : (s.requestTriggered p).route =
    { s.route with lastRequest := s.route.lastRequest.put p (some s.clock) } := by
  have route : (s.requestToken p .triggered).route = s.route := s.requestToken_changes p _ .route (by decide)
  unfold State.requestTriggered
  rw [State.routeDo_route, route]

theorem State.gapEnds_due {p : Port} (operating : s.start.lifecycle = .operating)
    (next : s.route.gapExpiry.get p = some d) (now : d ≤ s.clock) :
    s.gapEnds p =
      if anyMarkSet p s.route.entries then
        (s.routeDo (fun r => { r with gapExpiry := r.gapExpiry.put p none })).requestTriggered p
      else s.routeDo (fun r => { r with gapExpiry := r.gapExpiry.put p none }) :=
  if_pos ⟨operating, next ▸ due_some.mpr now⟩

end

/-- Settles O34: each of the three schedules at its due deadline. -/
theorem periodicSchedulesRun : Obligations.PeriodicSchedulesRun := by
  unfold Obligations.PeriodicSchedulesRun
  intro s d operating now
  refine ⟨fun next => ?_, fun next => ?_, fun p next => ?_⟩
  · have asked := OnlyChanges.foldl (fun t p => t.request_changes p .advert .token (.token (.full 1)))
      s.portsInUse s
    have only : OnlyChanges [.route, .ports] s s.periodicFull := s.periodicFull_changes
    have ports (p : Port) : s.periodicFull.ports.get p =
        (s.request p .advert .token (.token (.full 1))).ports.get p := by
      rw [State.periodicFull_due operating next now, State.routeDo_ports, State.requestEach_get, State.request_get]
    refine ⟨_, rfl, ?_, fun p _ => ports p, fun p unused => ?_, only⟩
    · rw [State.periodicFull_due operating next now, State.routeDo_route, asked .route (by decide), next]
      rfl
    · rw [ports, State.request_of_off _ _ _ (.inl unused)]
  · have asked := OnlyChanges.foldl (fun t p => t.request_changes p .beacon .whole .beacon) s.portsInUse s
    refine ⟨_, rfl, ?_, fun n synced stratum small => ?_, fun off => ?_, s.beaconDue_changes⟩
    · have time : (if s.time.beaconing then
          s.portsInUse.foldl (fun t p => t.request p .beacon .whole .beacon) s else s).time = s.time := by
        split
        · exact asked .time (by decide)
        · rfl
      rw [State.beaconDue_due operating next now, State.timeDo_time, time, next]
      rfl
    · have beacons : s.time.beaconing = true := s.time.beaconing_iff.mpr ⟨synced, n, stratum, small⟩
      have ports (p : Port) : s.beaconDue.ports.get p = (s.request p .beacon .whole .beacon).ports.get p := by
        rw [State.beaconDue_due operating next now, if_pos beacons, State.timeDo_ports, State.requestEach_get,
          State.request_get]
      refine ⟨fun p _ => ports p, fun p unused => ?_⟩
      rw [ports, State.request_of_off _ _ _ (.inl unused)]
    · have silent : ¬s.time.beaconing = true := by
        rw [TimeUnit.beaconing_iff]
        rintro ⟨synced, n, stratum, small⟩
        rcases off with other | high
        · exact other synced
        · exact absurd small (Nat.not_le.mpr (high n stratum))
      rw [State.beaconDue_due operating next now, if_neg silent]
      rfl
  · have only : OnlyChanges [.route, .ports] s (s.gapEnds p) := s.gapEnds_changes p
    by_cases marked : anyMarkSet p s.route.entries = true
    · have ends := (State.gapEnds_due operating next now).trans (if_pos marked)
      let t := s.routeDo fun r => { r with gapExpiry := r.gapExpiry.put p none }
      have request : (t.request p .advert .token (.token .triggered)).ports =
          (s.request p .advert .token (.token .triggered)).ports := by
        rw [State.request_ports, State.request_ports]
        rfl
      have after : (s.gapEnds p).route =
          { t.route with lastRequest := t.route.lastRequest.put p (some s.clock) } := by
        rw [ends]
        exact t.requestTriggered_route p
      have ports : (s.gapEnds p).ports = (s.request p .advert .token (.token .triggered)).ports := by
        rw [ends]
        exact request
      refine ⟨_, rfl, ?_, ?_, ?_, fun _ => ⟨?_, by rw [ports]⟩, fun none => ?_, ?_, ?_, only⟩
      · rw [after]
        rfl
      · rw [after]
        exact PerPort.get_put_same _ _ _
      · rw [after]
        exact PerPort.get_put_otherPort _ _ _
      · rw [after]
        exact PerPort.get_put_same _ _ _
      · obtain ⟨e, he, set⟩ := (anyMarkSet_iff p _).mp marked
        exact absurd set (none e he)
      · rw [after]
        exact PerPort.get_put_otherPort _ _ _
      · rw [ports]
        exact s.request_other_port p _ _ _
    · have ends := (State.gapEnds_due operating next now).trans (if_neg marked)
      refine ⟨_, rfl, ?_, ?_, ?_, fun some => absurd ((anyMarkSet_iff p _).mpr some) marked, fun _ => ?_, ?_, ?_, only⟩
      all_goals rw [ends]
      · rfl
      · exact PerPort.get_put_same _ _ _
      · exact PerPort.get_put_otherPort _ _ _
      · exact ⟨rfl, rfl⟩
      · rfl
      · rfl

/-! ### The end of the listen period (R173) -/

/-- The requests with which a node enters OPERATING on a port: its own report on port A of a CABIN node (R91). -/
def State.firstRequests (s : State) (p : Port) : List (FrameClass × QueueKey × QueueContent) :=
  [(.solicit, .whole, .fixed (s.ownFrame .solicit [])), (.advert, .token, .token (.full 1))] ++
    if p = .a ∧ s.cfg.role = .cabin then
      [(.service, .cabin s.cfg.cabinNumber, .fixed (s.ownFrame .service
        (servicePayload s.cfg.cabinNumber s.cabin.service s.cabin.request)))] ++
      if s.cabin.sweep = .idle then []
      else [(.sweep, .cabin s.cfg.cabinNumber, .fixed (s.ownFrame .sweep
        (sweepPayload s.cfg.cabinNumber s.cabin.sweep s.cabin.sweepMinute)))]
    else []

/-- A run of requests of a port in use and UP. -/
def PortCtl.joins (c : PortCtl) (l : List (FrameClass × QueueKey × QueueContent)) : PortCtl :=
  l.foldl (fun c e => c.asked true e.1 e.2.1 e.2.2) c

theorem State.cabinReport_get {s : State} (operating : s.start.lifecycle = .operating) (p : Port) :
    s.cabinReport.ports.get p = (s.ports.get p).joins (s.firstRequests p |>.drop 2) := by
  have op : decide (s.start.lifecycle = .operating) = true := decide_eq_true operating
  have service := s.queueService_changes
  have cfg : s.queueService.cfg = s.cfg := service.cfg_eq (by decide)
  have start : s.queueService.start = s.start := service .start (by decide)
  have cabin : s.queueService.cabin = s.cabin := service .cabin (by decide)
  have first : s.queueService.ports = s.ports.put .a ((s.ports.get .a).asked true .service
      (.cabin s.cfg.cabinNumber) (.fixed (s.ownFrame .service
        (servicePayload s.cfg.cabinNumber s.cabin.service s.cabin.request)))) := by
    rw [← op]
    exact s.request_ports _ _ _ _
  have second : s.queueService.queueSweep.ports = s.queueService.ports.put .a
      ((s.queueService.ports.get .a).asked true .sweep (.cabin s.cfg.cabinNumber) (.fixed (s.ownFrame .sweep
        (sweepPayload s.cfg.cabinNumber s.cabin.sweep s.cabin.sweepMinute)))) := by
    have := s.queueService.request_ports .a .sweep (.cabin s.queueService.cfg.cabinNumber)
      (.fixed (s.queueService.ownFrame .sweep (sweepPayload s.queueService.cfg.cabinNumber
        s.queueService.cabin.sweep s.queueService.cabin.sweepMinute)))
    rw [start, op] at this
    unfold State.ownFrame at this ⊢
    rw [cfg, cabin] at this
    unfold State.queueSweep State.requestOwn State.ownFrame
    rw [cfg, cabin]
    exact this
  unfold State.cabinReport State.firstRequests
  by_cases role : s.cfg.role = .cabin
  · rw [if_pos role]
    dsimp only
    rw [cabin]
    by_cases idle : s.cabin.sweep = .idle
    · rw [if_pos idle, first]
      cases p <;> simp [role, idle, PortCtl.joins, PerPort.get, PerPort.put]
    · rw [if_neg idle, second, first]
      cases p <;> simp [role, idle, PortCtl.joins, PerPort.get, PerPort.put]
  · rw [if_neg role]
    simp [role, PortCtl.joins]

theorem State.firstFrames_get {s : State} (operating : s.start.lifecycle = .operating) (p : Port) :
    s.firstFrames.ports.get p = (s.ports.get p).joins (s.firstRequests p) := by
  have op : decide (s.start.lifecycle = .operating) = true := decide_eq_true operating
  let solicited := s.portsInUse.foldl (fun t p => t.requestOwn p .solicit .whole []) s
  let asked := solicited.portsInUse.foldl (fun t p => t.requestToken p (.full 1)) solicited
  have first : OnlyChanges [.ports] s solicited := OnlyChanges.foldl (fun t p => t.requestOwn_changes p _ _ _) _ _
  have second : OnlyChanges [.ports] solicited asked := OnlyChanges.foldl (fun t p => t.requestToken_changes p _) _ _
  have both := first.trans second
  have start : solicited.start = s.start := first .start (by decide)
  have solicits : solicited.ports.get p =
      (s.ports.get p).asked true .solicit .whole (.fixed (s.ownFrame .solicit [])) := by
    refine State.eachPort (g := fun c => c.asked true .solicit .whole (.fixed (s.ownFrame .solicit [])))
      (fun t start p => ⟨(t.requestOwn_changes p _ _ _ .start (by decide)).trans start, ?_⟩)
      (fun _ unused => PortCtl.asked_of_unused unused _ _ _ _) p
    unfold State.requestOwn
    rw [State.request_ports, start, op]
    unfold State.ownFrame State.cfg
    rw [start]
  have tokens : asked.ports.get p = (solicited.ports.get p).asked true .advert .token (.token (.full 1)) := by
    rw [← op, ← start]
    exact solicited.requestEach_get _ _ _ p
  have same : asked.firstRequests p = s.firstRequests p := by
    unfold State.firstRequests State.ownFrame
    rw [both.cfg_eq (by decide), both .cabin (by decide)]
  show asked.cabinReport.ports.get p = _
  rw [State.cabinReport_get ((congrArg _ (both .start (by decide))).trans operating), same, tokens, solicits]
  rfl

theorem State.firstRequests_queue {s : State} {p : Port} {c : PortCtl} (used : c.inUse = true) (up : c.state = .up)
    (empty : c.queue = []) : (c.joins (s.firstRequests p)).queue.map (fun e => e.content) =
      (if p = .a ∧ s.cfg.role = .cabin ∧ s.cabin.sweep ≠ .idle then
          [.fixed (s.ownFrame .sweep (sweepPayload s.cfg.cabinNumber s.cabin.sweep s.cabin.sweepMinute))] else []) ++
        [.token (.full 1), .fixed (s.ownFrame .solicit [])] ++
        (if p = .a ∧ s.cfg.role = .cabin then
          [.fixed (s.ownFrame .service (servicePayload s.cfg.cabinNumber s.cabin.service s.cabin.request))]
        else []) := by
  unfold State.firstRequests
  by_cases cabin : p = .a ∧ s.cfg.role = .cabin
  · by_cases idle : s.cabin.sweep = .idle
    · simp [cabin, idle, PortCtl.joins, PortCtl.asked, PortCtl.join, used, up, empty, queueCap, enqueue, insertBy,
        QueueEntry.before, QueueEntry.sameKey, FrameClass.code]
    · simp [cabin, idle, PortCtl.joins, PortCtl.asked, PortCtl.join, used, up, empty, queueCap, enqueue, insertBy,
        QueueEntry.before, QueueEntry.sameKey, FrameClass.code]
  · have other : ¬(p = .a ∧ s.cfg.role = .cabin ∧ s.cabin.sweep ≠ .idle) := fun h => cabin ⟨h.1, h.2.1⟩
    simp [cabin, other, PortCtl.joins, PortCtl.asked, PortCtl.join, used, up, empty, queueCap, enqueue, insertBy,
        QueueEntry.before, QueueEntry.sameKey, FrameClass.code]

theorem PortCtl.joins_unused {c : PortCtl} (unused : c.inUse = false)
    (l : List (FrameClass × QueueKey × QueueContent)) : c.joins l = c := by
  induction l with
  | nil => rfl
  | cons e l ih => exact (congrArg (fun d : PortCtl => d.joins l) (PortCtl.asked_of_unused unused _ _ _ _)).trans ih

/-- Settles O8: the move to OPERATING, the two deadlines, and on each port the first requests in turn. -/
theorem listenPeriodEnds : Obligations.ListenPeriodEnds := by
  unfold Obligations.ListenPeriodEnds
  intro s d listening deadline now emptyA emptyB
  have ends := State.listenEnds_due listening (deadline ▸ due_some.mpr now)
  have moved := s.startDo_changes StartBlock.operates
  have asked := (s.startDo StartBlock.operates).firstFrames_changes
  have cfg : (s.startDo StartBlock.operates).firstFrames.cfg = s.cfg := asked.cfg_eq (by decide)
  have clock : (s.startDo StartBlock.operates).firstFrames.clock = s.clock := asked .clock (by decide)
  have ports (p : Port) : s.listenEnds.ports.get p =
      (s.ports.get p).joins ((s.startDo StartBlock.operates).firstRequests p) := by
    rw [ends]
    exact State.firstFrames_get rfl p
  refine ⟨_, rfl, ?_, ?_, ?_, fun p unused => ?_, fun p used up => ?_, s.listenEnds_changes⟩
  · rw [ends]
    exact asked .start (by decide)
  · rw [ends, State.timeDo_route, State.routeDo_route, asked .route (by decide), clock, cfg, State.advertMs, cfg]
    rfl
  · rw [ends, State.timeDo_time, State.routeDo_time, asked .time (by decide), clock, cfg]
    rfl
  · rw [ports, PortCtl.joins_unused unused]
  · have empty : (s.ports.get p).queue = [] := by cases p <;> assumption
    rw [ports]
    exact State.firstRequests_queue used up empty

end Sys2Proof.Machine

/-! ### ZONE and REASSIGN frames (R36 to R43) -/

namespace Sys2Proof.Machine

/-! ### Choices from a list -/

/-- Of two members of a list in order one stands first. -/
theorem pairwise_apart {α : Type} {R : α → α → Prop} {l : List α} (order : l.Pairwise R) {x y : α} (hx : x ∈ l)
    (hy : y ∈ l) : x = y ∨ R x y ∨ R y x := by
  induction l with
  | nil => exact nomatch hx
  | cons z zs ih =>
    obtain ⟨first, rest⟩ := List.pairwise_cons.mp order
    rcases List.mem_cons.mp hx with rfl | hx' <;> rcases List.mem_cons.mp hy with rfl | hy'
    · exact .inl rfl
    · exact .inr (.inl (first y hy'))
    · exact .inr (.inr (first x hx'))
    · exact ih rest hx' hy'

/-- The one element that no other precedes is chosen, where no two are ranked alike. -/
theorem leastBy_eq_some {α : Type} {lt : α → α → Bool} {l : List α} {v : α}
    (total : ∀ a b, lt a b = true → lt b a = false) (irrefl : ∀ a, lt a a = false)
    (trans : ∀ a b c, lt b a = false → lt c b = false → lt c a = false)
    (apart : ∀ x ∈ l, lt x v = false → lt v x = false → x = v) (hv : v ∈ l) (least : ∀ x ∈ l, lt x v = false) :
    leastBy lt l = some v := by
  cases found : leastBy lt l with
  | none => exact absurd (leastBy_none found ▸ hv) List.not_mem_nil
  | some m =>
    have hm := leastBy_mem found
    rw [apart m hm (least m hm) (leastBy_least total irrefl trans found v hv)]

theorem leastBy_eq_none {α : Type} {lt : α → α → Bool} {l : List α} (empty : ∀ x, x ∉ l) : leastBy lt l = none := by
  rw [List.eq_nil_iff_forall_not_mem.mpr empty]
  rfl

/-! ### The report that gives way in a full list (R39) -/

theorem ZoneReport.olderThan_iff (x y : ZoneReport) : x.olderThan y = true ↔ x.received < y.received ∨
    x.received = y.received ∧ (x.origin < y.origin ∨ x.origin = y.origin ∧ x.number < y.number) := by
  simp only [ZoneReport.olderThan, Bool.or_eq_true, Bool.and_eq_true, decide_eq_true_eq, ZoneReport.before_iff]

theorem ZoneReport.olderThan_false (x y : ZoneReport) : x.olderThan y = false ↔ ¬(x.received < y.received ∨
    x.received = y.received ∧ (x.origin < y.origin ∨ x.origin = y.origin ∧ x.number < y.number)) := by
  rw [← ZoneReport.olderThan_iff, Bool.not_eq_true]

theorem ZoneReport.milderThan_iff (x y : ZoneReport) : x.milderThan y = true ↔ x.state.code < y.state.code ∨
    x.state.code = y.state.code ∧ (x.received < y.received ∨
      x.received = y.received ∧ (x.origin < y.origin ∨ x.origin = y.origin ∧ x.number < y.number)) := by
  unfold ZoneReport.milderThan
  split
  · simp only [decide_eq_true_eq]
    omega
  · rw [ZoneReport.olderThan_iff]
    omega

theorem ZoneReport.milderThan_false (x y : ZoneReport) : x.milderThan y = false ↔ ¬(x.state.code < y.state.code ∨
    x.state.code = y.state.code ∧ (x.received < y.received ∨
      x.received = y.received ∧ (x.origin < y.origin ∨ x.origin = y.origin ∧ x.number < y.number))) := by
  rw [← ZoneReport.milderThan_iff, Bool.not_eq_true]

section
variable {t : List ZoneReport} (order : t.Pairwise (fun x y => x.before y = true))
include order

/-- A key is held once (R36). -/
theorem reports_unique {x y : ZoneReport} (hx : x ∈ t) (hy : y ∈ t) (origin : x.origin = y.origin)
    (number : x.number = y.number) : x = y := by
  rcases pairwise_apart order hx hy with same | before | before
  · exact same
  all_goals
    rw [ZoneReport.before_iff] at before
    omega

theorem findReport_some {origin number : Nat} {h : ZoneReport} (hh : h ∈ t) (ho : h.origin = origin)
    (hn : h.number = number) : t.find? (ZoneReport.hasKey origin number) = some h := by
  cases found : t.find? (ZoneReport.hasKey origin number) with
  | none => exact absurd ((ZoneReport.hasKey_iff _ _ _).mpr ⟨ho, hn⟩) (List.find?_eq_none.mp found h hh)
  | some x =>
    obtain ⟨xo, xn⟩ := (ZoneReport.hasKey_iff origin number x).mp (List.find?_some found)
    rw [reports_unique order (List.mem_of_find?_eq_some found) hh (xo.trans ho.symm) (xn.trans hn.symm)]

theorem displacedBy_clear {state : ZoneState} {v : ZoneReport} (hv : v ∈ t) (clear : v.state = .clear)
    (oldest : ∀ x ∈ t, x.state = .clear → x.olderThan v = false) : displacedBy state t = some v := by
  have chosen : leastBy ZoneReport.olderThan (t.filter (fun r => decide (r.state = .clear))) = some v := by
    refine leastBy_eq_some ?_ ?_ ?_ (fun x hx xv vx => ?_) (List.mem_filter.mpr ⟨hv, decide_eq_true clear⟩)
      fun x hx => ?_
    · intro a b
      rw [ZoneReport.olderThan_iff, ZoneReport.olderThan_false]
      omega
    · intro a
      rw [ZoneReport.olderThan_false]
      omega
    · intro a b c
      rw [ZoneReport.olderThan_false, ZoneReport.olderThan_false, ZoneReport.olderThan_false]
      omega
    · rw [ZoneReport.olderThan_false] at xv vx
      exact reports_unique order ((List.mem_filter.mp hx).1) hv (by omega) (by omega)
    · obtain ⟨hx, clear'⟩ := List.mem_filter.mp hx
      exact oldest x hx (of_decide_eq_true clear')
  unfold displacedBy
  rw [chosen]

theorem displacedBy_mild {state : ZoneState} {v : ZoneReport} (hv : v ∈ t) (none : ∀ x ∈ t, x.state ≠ .clear)
    (mild : v.state.code < state.code) (mildest : ∀ x ∈ t, x.milderThan v = false) :
    displacedBy state t = some v := by
  have noClear : leastBy ZoneReport.olderThan (t.filter (fun r => decide (r.state = .clear))) = .none :=
    leastBy_eq_none fun x hx => none x ((List.mem_filter.mp hx).1) (of_decide_eq_true (List.mem_filter.mp hx).2)
  unfold displacedBy
  rw [noClear]
  refine leastBy_eq_some ?_ ?_ ?_ (fun x hx xv vx => ?_) (List.mem_filter.mpr ⟨hv, decide_eq_true mild⟩)
    fun x hx => mildest x ((List.mem_filter.mp hx).1)
  · intro a b
    rw [ZoneReport.milderThan_iff, ZoneReport.milderThan_false]
    omega
  · intro a
    rw [ZoneReport.milderThan_false]
    omega
  · intro a b c
    rw [ZoneReport.milderThan_false, ZoneReport.milderThan_false, ZoneReport.milderThan_false]
    omega
  · rw [ZoneReport.milderThan_false] at xv vx
    exact reports_unique order ((List.mem_filter.mp hx).1) hv (by omega) (by omega)

end

theorem displacedBy_none {state : ZoneState} {t : List ZoneReport}
    (all : ∀ x ∈ t, x.state ≠ .clear ∧ state.code ≤ x.state.code) : displacedBy state t = none := by
  have noClear : leastBy ZoneReport.olderThan (t.filter (fun r => decide (r.state = .clear))) = none :=
    leastBy_eq_none fun x hx => (all x ((List.mem_filter.mp hx).1)).1 (of_decide_eq_true (List.mem_filter.mp hx).2)
  unfold displacedBy
  rw [noClear]
  refine leastBy_eq_none fun x hx => ?_
  obtain ⟨hx, less⟩ := List.mem_filter.mp hx
  exact absurd (of_decide_eq_true less) (Nat.not_lt.mpr (all x hx).2)

/-! ### What a ZONE frame makes of the record (R38) -/

section
variable {s : State} {origin : Nat} {z : ZonePayload}

theorem State.zoneChanged_alarm (s : State) : s.zoneChanged.alarm = s.alarm := s.zoneChanged_changes .alarm (by decide)

/-- A new report where there is room. -/
theorem State.takeZoneFrame_new (running : s.running = true)
    (absent : s.alarm.reports.find? (ZoneReport.hasKey origin z.number) = none)
    (room : s.alarm.reports.length < reportCap) :
    s.takeZoneFrame origin z = ((s.alarmDo fun u =>
      { u with reports := insertReport (z.report origin s.clock) u.reports }).zoneChanged, true) := by
  unfold State.takeZoneFrame
  rw [if_pos running, absent]
  exact if_pos room

/-- A newer version of a held report. -/
theorem State.takeZoneFrame_newer (running : s.running = true) {h : ZoneReport}
    (held : s.alarm.reports.find? (ZoneReport.hasKey origin z.number) = some h)
    (new : newer 8 z.sequence h.sequence = true) :
    s.takeZoneFrame origin z = ((s.putReports (origin, z.number) (insertReport (z.report origin s.clock)
      (removeReport origin z.number s.alarm.reports))).zoneChanged, true) := by
  unfold State.takeZoneFrame
  rw [if_pos running, held]
  exact if_pos new

/-- A version of a held report that is not newer. -/
theorem State.takeZoneFrame_old (running : s.running = true) {h : ZoneReport}
    (held : s.alarm.reports.find? (ZoneReport.hasKey origin z.number) = some h)
    (old : newer 8 z.sequence h.sequence = false) : s.takeZoneFrame origin z = (s, false) := by
  unfold State.takeZoneFrame
  rw [if_pos running, held]
  exact if_neg (by rw [old]; exact Bool.false_ne_true)

/-- A new report on a full list. -/
theorem State.takeZoneFrame_full (running : s.running = true)
    (absent : s.alarm.reports.find? (ZoneReport.hasKey origin z.number) = none)
    (full : ¬s.alarm.reports.length < reportCap) :
    s.takeZoneFrame origin z = s.storeOverFull (z.report origin s.clock) := by
  unfold State.takeZoneFrame
  rw [if_pos running, absent]
  exact if_neg full

theorem State.takeZoneFrame_evicts (running : s.running = true)
    (absent : s.alarm.reports.find? (ZoneReport.hasKey origin z.number) = none)
    (full : ¬s.alarm.reports.length < reportCap) {v : ZoneReport}
    (gives : displacedBy z.state s.alarm.reports = some v) :
    (s.takeZoneFrame origin z).1.alarm = { s.alarm with
      reports := insertReport (z.report origin s.clock) (removeReport v.origin v.number s.alarm.reports)
      evictedReports := bump s.alarm.evictedReports } := by
  have gives : displacedBy (z.report origin s.clock).state s.alarm.reports = some v := gives
  rw [State.takeZoneFrame_full running absent full]
  unfold State.storeOverFull
  rw [gives]
  exact State.zoneChanged_alarm _

theorem State.takeZoneFrame_drops (running : s.running = true)
    (absent : s.alarm.reports.find? (ZoneReport.hasKey origin z.number) = none)
    (full : ¬s.alarm.reports.length < reportCap) (gives : displacedBy z.state s.alarm.reports = none) :
    s.takeZoneFrame origin z =
      (s.alarmDo fun u => { u with droppedReports := bump u.droppedReports }, false) := by
  have gives : displacedBy (z.report origin s.clock).state s.alarm.reports = none := gives
  rw [State.takeZoneFrame_full running absent full]
  unfold State.storeOverFull
  rw [gives]

end

theorem mem_insertReport {r x : ZoneReport} {t : List ZoneReport} : x ∈ insertReport r t ↔ x = r ∨ x ∈ t :=
  mem_insertBy r x t

theorem mem_removeReport {h x : ZoneReport} {t : List ZoneReport}
    (order : t.Pairwise (fun x y => x.before y = true)) (hh : h ∈ t) :
    x ∈ removeReport h.origin h.number t ↔ x ∈ t ∧ x ≠ h := by
  unfold removeReport
  rw [List.mem_filter, Bool.not_eq_true', ZoneReport.hasKey_false]
  refine and_congr_right fun hx => not_congr ⟨fun key => reports_unique order hx hh key.1 key.2, ?_⟩
  rintro rfl
  exact ⟨rfl, rfl⟩

/-- The node as the owning block finds it reads as before but for its ports and indicator. -/
theorem State.heard_alarm (s : State) (p : Port) : (s.heard p).alarm = s.alarm := s.heard_changes p .alarm (by decide)

theorem State.heard_start (s : State) (p : Port) : (s.heard p).start = s.start := s.heard_changes p .start (by decide)

theorem State.heard_clock (s : State) (p : Port) : (s.heard p).clock = s.clock := s.heard_changes p .clock (by decide)

theorem State.heard_cfg (s : State) (p : Port) : (s.heard p).cfg = s.cfg := (s.heard_changes p).cfg_eq (by decide)

theorem State.heard_running (s : State) (p : Port) : (s.heard p).running = s.running :=
  (s.heard_changes p).running_eq (by decide)

/-- A frame that is no change is not relayed (R157). -/
theorem relayed_unchanged (p : Port) (cls : FrameClass) (f : RxFrame) (s : State) : relayed p cls f (s, false) = s :=
  if_neg fun h => Bool.false_ne_true h.2.2.2.2.1

theorem relayed_alarm (p : Port) (cls : FrameClass) (f : RxFrame) (r : State × Bool) :
    (relayed p cls f r).alarm = r.1.alarm := relayed_changes p cls f r .alarm (by decide)

/-- Settles O25: the five outcomes at the held record, with the report that gives way in a full list. -/
theorem zoneFrameTaken : Obligations.ZoneFrameTaken := by
  unfold Obligations.ZoneFrameTaken
  intro p f z s hears parsed law new held
  let u := s.heard p
  let t := relayed p .zone f ((u.takeZoneFrame f.origin z).1.hearZone p f.origin z, (u.takeZoneFrame f.origin z).2)
  have handled : classHandler p .zone f = some (fun s => relayed p .zone f
      ((s.takeZoneFrame f.origin z).1.hearZone p f.origin z, (s.takeZoneFrame f.origin z).2)) := by
    simp only [classHandler, parsed, Option.map_some]
  have taken : exec (.zoneFrame p f) s = .next t := congrArg Host.Outcome.next (State.receive_eq hears handled)
  have running : u.running = true := (s.heard_running p).trans hears.2.1
  have alarm : u.alarm = s.alarm := s.heard_alarm p
  have report : z.report f.origin u.clock = new := congrArg (z.report f.origin) (s.heard_clock p)
  have result : t.alarm = (u.takeZoneFrame f.origin z).1.alarm :=
    (relayed_alarm _ _ _ _).trans (State.hearZone_changes _ _ _ _ .alarm (by decide))
  have order := law.2.1
  have absent (none : ∀ r, ¬held r) : u.alarm.reports.find? (ZoneReport.hasKey f.origin z.number) = Option.none := by
    rw [alarm]
    exact List.find?_eq_none.mpr fun r hr key => none r ⟨hr, (ZoneReport.hasKey_iff _ _ _).mp key⟩
  have present {h : ZoneReport} (at' : held h) :
      u.alarm.reports.find? (ZoneReport.hasKey f.origin z.number) = some h := by
    rw [alarm]
    exact findReport_some order at'.1 at'.2.1 at'.2.2
  have full {n : Nat} (length : s.alarm.reports.length = 32) : ¬u.alarm.reports.length < reportCap := by
    rw [alarm, length]
    decide
  have only : OnlyChanges [.alarm, .start, .ports, .bus, .route, .muster, .trig, .page, .panel, .ind] s t :=
    (s.heard_changes p).andThen (classHandler_blocks handled u)
  have kept : t.reportLaw ∧ t.alarm.epoch = s.alarm.epoch ∧ t.alarm.level = s.alarm.level ∧
      t.alarm.reassignments = s.alarm.reassignments := by
    rw [State.reportLaw, result]
    rcases u.takeZoneFrame_cases f.origin z with ⟨n, eq⟩ | ⟨-, v, l, n, -, -, after, stored, eq⟩
    · rw [eq, State.alarmDo_alarm, alarm]
      exact ⟨law, rfl, rfl, rfl⟩
    · rw [eq, State.zoneChanged_alarm, after, alarm]
      rw [alarm] at stored
      exact ⟨stored.lawful (Nat.le_trans (Nat.min_le_left _ _) (Nat.le_max_left _ _)) law, rfl, rfl, rfl⟩
  refine ⟨t, taken, kept.1, ?_, ?_, ?_, ?_, kept.2.1, kept.2.2.1, kept.2.2.2, only⟩
  · intro none room r
    rw [result, State.takeZoneFrame_new running (absent none) (alarm ▸ room), State.zoneChanged_alarm,
      State.alarmDo_alarm, alarm, report]
    exact mem_insertReport
  · intro h at' newer r
    obtain ⟨hh, ho, hn⟩ := at'
    have after : t.alarm.reports = insertReport new (removeReport h.origin h.number s.alarm.reports) := by
      rw [result, State.takeZoneFrame_newer running (present ⟨hh, ho, hn⟩) newer, State.zoneChanged_alarm, ho, hn,
        ← report, ← alarm]
      rfl
    rw [after, mem_insertReport, mem_removeReport order hh]
  · intro h at' old
    have stays : t = u.hearZone p f.origin z := by
      show relayed p .zone f ((u.takeZoneFrame f.origin z).1.hearZone p f.origin z, (u.takeZoneFrame f.origin z).2) = _
      rw [State.takeZoneFrame_old running (present at') old]
      exact relayed_unchanged _ _ _ _
    have hears' := u.hearZone_changes p f.origin z
    rw [stays]
    exact ⟨(hears' .alarm (by decide)).trans alarm, (s.heard_changes p).andThen hears'⟩
  · intro none length
    refine ⟨fun v hv gives => ?_, fun all => ?_⟩
    · have displaced : displacedBy z.state u.alarm.reports = some v := by
        rw [alarm]
        rcases gives with ⟨clear, oldest⟩ | ⟨noClear, mild, mildest⟩
        · exact displacedBy_clear order hv clear oldest
        · exact displacedBy_mild order hv noClear mild mildest
      rw [result, State.takeZoneFrame_evicts running (absent none) (full (n := 0) length) displaced, alarm, report]
      refine ⟨fun r => ?_, rfl⟩
      rw [mem_insertReport, mem_removeReport order hv]
    · rw [result, State.takeZoneFrame_drops running (absent none) (full (n := 0) length)
        (alarm ▸ displacedBy_none all), State.alarmDo_alarm, alarm]

/-! ### REASSIGN frames (R43) -/

section
variable {s : State} {origin : Nat} {z : ReassignPayload}

theorem State.takeReassignFrame_otherEpoch (running : s.running = true) (other : s.alarm.epoch ≠ some z.epoch) :
    s.takeReassignFrame origin z =
      (s.alarmDo fun u => { u with otherEpochReassignments := bump u.otherEpochReassignments }, false) := by
  unfold State.takeReassignFrame
  rw [if_pos running, if_neg other]

/-- A record of a free place, or newer than the held one. -/
theorem State.takeReassignFrame_stores (running : s.running = true) (epoch : s.alarm.epoch = some z.epoch)
    (new : ∀ h, s.reassignment z.zone z.kind = some h → newer 8 z.sequence h.sequence = true) :
    s.takeReassignFrame origin z = (s.acceptReassign origin z, true) := by
  unfold State.takeReassignFrame
  rw [if_pos running, if_pos epoch]
  cases held : s.reassignment z.zone z.kind with
  | none => rfl
  | some h => exact if_pos (new h held)

theorem State.takeReassignFrame_old (running : s.running = true) (epoch : s.alarm.epoch = some z.epoch)
    {h : Reassignment} (held : s.reassignment z.zone z.kind = some h)
    (old : newer 8 z.sequence h.sequence = false) : s.takeReassignFrame origin z = (s, false) := by
  unfold State.takeReassignFrame
  rw [if_pos running, if_pos epoch, held]
  exact if_neg (by rw [old]; exact Bool.false_ne_true)

theorem State.reassignment_iff (law : s.reassignLaw) {zone : Nat} {kind : PointKind} {h : Reassignment} :
    s.reassignment zone kind = some h ↔ h ∈ s.alarm.reassignments ∧ h.zone = zone ∧ h.kind = kind := by
  have place (x : Reassignment) : (decide (x.zone = zone) && decide (x.kind = kind)) = true ↔
      x.zone = zone ∧ x.kind = kind := by simp
  unfold State.reassignment
  constructor
  · intro found
    exact ⟨List.mem_of_find?_eq_some found, (place h).mp (List.find?_some
      (p := fun r : Reassignment => decide (r.zone = zone) && decide (r.kind = kind)) found)⟩
  · rintro ⟨hh, at'⟩
    cases found : s.alarm.reassignments.find? (fun r => decide (r.zone = zone) && decide (r.kind = kind)) with
    | none => exact absurd ((place h).mpr at') (List.find?_eq_none.mp found h hh)
    | some x =>
      have xat := (place x).mp (List.find?_some
        (p := fun r : Reassignment => decide (r.zone = zone) && decide (r.kind = kind)) found)
      rw [law.unique (List.mem_of_find?_eq_some found) hh (xat.1.trans at'.1.symm) (xat.2.trans at'.2.symm)]

end

theorem mem_storeReassignment {r x : Reassignment} {t : List Reassignment} :
    x ∈ storeReassignment r t ↔ x = r ∨ x ∈ t ∧ ¬(x.zone = r.zone ∧ x.kind = r.kind) := by
  unfold storeReassignment
  rw [mem_insertBy, List.mem_filter, Bool.not_eq_true']
  simp [Reassignment.inPlace]

/-- Settles O26: the four cases at the held epoch and place. -/
theorem reassignFrameTaken : Obligations.ReassignFrameTaken := by
  unfold Obligations.ReassignFrameTaken
  intro p f z s hears parsed law new held
  let u := s.heard p
  let t := relayed p .reassign f ((u.takeReassignFrame f.origin z).1.hearReassign p z, (u.takeReassignFrame f.origin z).2)
  have handled : classHandler p .reassign f = some (fun s => relayed p .reassign f
      ((s.takeReassignFrame f.origin z).1.hearReassign p z, (s.takeReassignFrame f.origin z).2)) := by
    simp only [classHandler, parsed, Option.map_some]
  have taken : exec (.reassignFrame p f) s = .next t := congrArg Host.Outcome.next (State.receive_eq hears handled)
  have running : u.running = true := (s.heard_running p).trans hears.2.1
  have alarm : u.alarm = s.alarm := s.heard_alarm p
  have place {h : Reassignment} : u.reassignment z.zone z.kind = some h ↔ held h := by
    have law' : u.reassignLaw := by
      rw [State.reassignLaw, alarm]
      exact law
    rw [State.reassignment_iff law', alarm]
  have result : t.alarm = (u.takeReassignFrame f.origin z).1.alarm :=
    (relayed_alarm _ _ _ _).trans (State.hearReassign_changes _ _ _ .alarm (by decide))
  have stored (epoch : s.alarm.epoch = some z.epoch)
      (newest : ∀ h, held h → newer 8 z.sequence h.sequence = true) (r : Reassignment) :
      r ∈ t.alarm.reassignments ↔ r = new ∨ r ∈ s.alarm.reassignments ∧ ¬(r.zone = z.zone ∧ r.kind = z.kind) := by
    rw [result, State.takeReassignFrame_stores running (alarm ▸ epoch) fun h found => newest h (place.mp found),
      State.acceptReassign_alarm, alarm]
    exact mem_storeReassignment
  have only : OnlyChanges [.alarm, .start, .ports, .bus, .muster, .page, .panel, .ind] s t :=
    (s.heard_changes p).andThen (classHandler_blocks handled u)
  have kept : t.reassignLaw ∧ t.alarm.epoch = s.alarm.epoch ∧ t.alarm.level = s.alarm.level ∧
      t.alarm.reports = s.alarm.reports := by
    rw [State.reassignLaw, result]
    rcases u.takeReassignFrame_cases f.origin z with ⟨n, eq⟩ | ⟨-, epoch, eq⟩
    · rw [eq, State.alarmDo_alarm, alarm]
      exact ⟨law, rfl, rfl, rfl⟩
    · obtain ⟨low, high⟩ := parseReassign_zone parsed
      rw [alarm] at epoch
      rw [eq, State.acceptReassign_alarm, alarm]
      exact ⟨storeReassignment_lawful law epoch low high, rfl, rfl, rfl⟩
  refine ⟨t, taken, kept.1, ?_, ?_, ?_, ?_, kept.2.1, kept.2.2.1, kept.2.2.2, only⟩
  · intro other
    rw [result, State.takeReassignFrame_otherEpoch running (alarm ▸ other), State.alarmDo_alarm, alarm]
  · intro epoch none r
    rw [stored epoch (fun h at' => absurd at' (none h)) r]
    exact or_congr_right (and_iff_left_of_imp fun hr at' => none r ⟨hr, at'⟩)
  · intro h epoch at' newest r
    have unique (x : Reassignment) (atX : held x) : x = h :=
      law.unique atX.1 at'.1 (atX.2.1.trans at'.2.1.symm) (atX.2.2.trans at'.2.2.symm)
    rw [stored epoch (fun x atX => unique x atX ▸ newest) r]
    refine or_congr_right (and_congr_right fun hr => not_congr ⟨fun place => unique r ⟨hr, place⟩, ?_⟩)
    rintro rfl
    exact at'.2
  · intro h epoch at' old
    rw [result, State.takeReassignFrame_old running (alarm ▸ epoch) (place.mpr at') old, alarm]

end Sys2Proof.Machine

/-! ### ITEM and WITHDRAW frames (R60, R62 to R66) -/

namespace Sys2Proof.Machine

/-! ### A page that is shown stays shown -/

theorem State.shown_congr {s t : State} (clock : t.clock = s.clock) (start : t.start = s.start)
    (time : t.time = s.time) (route : t.route = s.route) (muster : t.muster = s.muster) (prog : t.prog = s.prog)
    (cabin : t.cabin = s.cabin) (page : t.page = s.page) (kind : t.panel.kind = s.panel.kind) (shown : s.shown) :
    t.shown := by
  have compose : t.composePage = s.composePage :=
    State.composePage_congr clock start time route muster prog cabin (by rw [page]) (by rw [page]) kind
  have arbiter : t.arbiter = s.arbiter :=
    State.arbiter_congr start (by rw [page]) (by rw [page]) (by rw [page])
  rw [State.shown, compose, arbiter, page]
  exact shown

/-- A change outside all a page is composed from. -/
theorem OnlyChanges.shown {a : List Block} {s t : State} (h : OnlyChanges a s t) (shown : s.shown)
    (off : Block.within a [.ports, .bus, .alarm, .trig, .ind, .status, .pins, .pending] = true := by rfl) : t.shown := by
  have k := h.widen off
  exact State.shown_congr (k .clock (by decide)) (k .start (by decide)) (k .time (by decide)) (k .route (by decide))
    (k .muster (by decide)) (k .prog (by decide)) (k .cabin (by decide)) (k .page (by decide))
    (congrArg _ (k .panel (by decide) : t.panel = s.panel)) shown

/-! ### The record given up by a full list (R63) -/

theorem getLast?_eq_some_of_last {α : Type} {R : α → α → Prop} {l : List α} (order : l.Pairwise R) {v : α}
    (hv : v ∈ l) (last : ∀ x ∈ l, ¬R v x) : l.getLast? = some v := by
  obtain ⟨m, found⟩ : ∃ m, l.getLast? = some m :=
    ⟨_, List.getLast?_eq_some_getLast (List.ne_nil_of_mem hv)⟩
  obtain ⟨init, rfl⟩ := List.getLast?_eq_some_iff.mp found
  rcases List.mem_append.mp hv with early | late
  · have before := (List.pairwise_append.mp order).2.2 v early m List.mem_cons_self
    exact absurd before (last m (by simp))
  · rw [found, List.mem_singleton.mp late]

theorem giveUp_eq_some {cfg : ConfigCopy} {pool : List Item} (order : pool.Pairwise (fun x y => x.before y = true))
    {v : Item} (hv : v ∈ pool)
    (latest : (inAudience cfg v = false ∧ ∀ x ∈ pool, inAudience cfg x = false → v.before x = false) ∨
      (∀ x ∈ pool, ¬inAudience cfg x = false) ∧ ∀ x ∈ pool, v.before x = false) : giveUp cfg pool = some v := by
  unfold giveUp
  rcases latest with ⟨outside, last⟩ | ⟨inside, last⟩
  · have found : (pool.filter (fun i => !inAudience cfg i)).getLast? = some v := by
      refine getLast?_eq_some_of_last (order.sublist List.filter_sublist)
        (List.mem_filter.mpr ⟨hv, by simp [outside]⟩) fun x hx before => ?_
      obtain ⟨hx, outX⟩ := List.mem_filter.mp hx
      exact Bool.false_ne_true ((last x hx (by simpa using outX)).symm.trans before)
    rw [found]
  · have empty : pool.filter (fun i => !inAudience cfg i) = [] :=
      List.filter_eq_nil_iff.mpr fun x hx outX => inside x hx (by simpa using outX)
    rw [empty]
    exact getLast?_eq_some_of_last order hv fun x hx before => Bool.false_ne_true ((last x hx).symm.trans before)

/-! ### The store after an ITEM frame (R62) -/

theorem mem_insertItem {new x : Item} {l : List Item} : x ∈ insertItem new l ↔ x = new ∨ x ∈ l :=
  mem_insertBy new x l

section
variable {p : ProgrammeStore}

/-- An id is held once. -/
theorem ProgrammeStore.Lawful.item_unique (law : p.Lawful) {x y : Item} (hx : x ∈ p.items) (hy : y ∈ p.items)
    (same : x.id = y.id) : x = y := by
  rcases pairwise_apart law.itemIds hx hy with eq | other | other
  · exact eq
  · exact absurd same other
  · exact absurd same.symm other

theorem ProgrammeStore.Lawful.findItem (law : p.Lawful) {h : Item} (hh : h ∈ p.items) {id : Nat} (same : h.id = id) :
    p.items.find? (fun i => i.id == id) = some h := by
  cases found : p.items.find? (fun i => i.id == id) with
  | none => exact absurd same (by simpa using List.find?_eq_none.mp found h hh)
  | some x =>
    have xid : x.id = id := by simpa using List.find?_some found
    rw [law.item_unique (List.mem_of_find?_eq_some found) hh (xid.trans same.symm)]

theorem ProgrammeStore.Lawful.tomb_unique (law : p.Lawful) {x y : Tombstone} (hx : x ∈ p.tombstones)
    (hy : y ∈ p.tombstones) (same : x.id = y.id) : x = y := by
  rcases pairwise_apart law.tombIds hx hy with eq | other | other
  · exact eq
  · exact absurd same other
  · exact absurd same.symm other

theorem ProgrammeStore.Lawful.findTomb (law : p.Lawful) {k : Tombstone} (hk : k ∈ p.tombstones) {id : Nat}
    (same : k.id = id) : p.tombstones.find? (fun t => t.id == id) = some k := by
  cases found : p.tombstones.find? (fun t => t.id == id) with
  | none => exact absurd same (by simpa using List.find?_eq_none.mp found k hk)
  | some x =>
    have xid : x.id = id := by simpa using List.find?_some found
    rw [law.tomb_unique (List.mem_of_find?_eq_some found) hk (xid.trans same.symm)]

theorem ProgrammeStore.Lawful.stopped_iff (law : p.Lawful) {new : Item} : p.stopped new = true ↔
    ∃ k ∈ p.tombstones, k.id = new.id ∧ newer 8 new.version k.version = false := by
  unfold ProgrammeStore.stopped
  constructor
  · intro stops
    split at stops
    · rename_i k found
      exact ⟨k, List.mem_of_find?_eq_some found, by simpa using List.find?_some found, by simpa using stops⟩
    · cases stops
  · rintro ⟨k, hk, same, old⟩
    rw [law.findTomb hk same]
    exact congrArg (!·) old

theorem ProgrammeStore.replace_items (cfg : ConfigCopy) (p : ProgrammeStore) (old new : Item) :
    (p.replace cfg old new).items = insertItem new (removeItem old.id p.items) := by
  unfold ProgrammeStore.replace
  dsimp only
  split <;> rfl

/-- What an ITEM frame leaves of the store whichever case it falls under. -/
theorem ProgrammeStore.takeItem_rest (cfg : ConfigCopy) (p : ProgrammeStore) (new : Item) :
    (p.takeItem cfg new).1.tombstones = p.tombstones ∧ (p.takeItem cfg new).1.clampedItems = p.clampedItems := by
  cases stops : p.stopped new with
  | true =>
    rw [ProgrammeStore.takeItem_stopped stops]
    exact ⟨rfl, rfl⟩
  | false =>
    cases found : p.items.find? (fun i => i.id == new.id) with
    | some old =>
      rw [ProgrammeStore.takeItem_held stops found]
      split
      · unfold ProgrammeStore.replace
        dsimp only
        split <;> exact ⟨rfl, rfl⟩
      · exact ⟨rfl, rfl⟩
    | none =>
      rw [ProgrammeStore.takeItem_absent stops found]
      split
      · exact ⟨rfl, rfl⟩
      · unfold ProgrammeStore.insertFull
        split
        · exact ⟨rfl, rfl⟩
        · split <;> exact ⟨rfl, rfl⟩

theorem ProgrammeStore.takeItem_hits {cfg : ConfigCopy} {new : Item} (passes : p.stopped new = false) :
    (p.takeItem cfg new).1.tombstoneHits = p.tombstoneHits := by
  cases found : p.items.find? (fun i => i.id == new.id) with
  | some old =>
    rw [ProgrammeStore.takeItem_held passes found]
    split
    · unfold ProgrammeStore.replace
      dsimp only
      split <;> rfl
    · rfl
  | none =>
    rw [ProgrammeStore.takeItem_absent passes found]
    split
    · rfl
    · unfold ProgrammeStore.insertFull
      split
      · rfl
      · split <;> rfl

section
variable (law : p.Lawful) {cfg : ConfigCopy} {new : Item} (passes : p.stopped new = false)
include law passes

theorem ProgrammeStore.takeItem_newer {h : Item} (hh : h ∈ p.items) (same : h.id = new.id)
    (later : newer 8 new.version h.version = true) (x : Item) :
    x ∈ (p.takeItem cfg new).1.items ↔ x = new ∨ x ∈ p.items ∧ x ≠ h := by
  rw [ProgrammeStore.takeItem_held passes (law.findItem hh same), if_pos later, ProgrammeStore.replace_items,
    mem_insertItem, mem_removeItem]
  refine or_congr_right (and_congr_right fun hx => not_congr ⟨law.item_unique hx hh, ?_⟩)
  rintro rfl
  rfl

theorem ProgrammeStore.takeItem_older {h : Item} (hh : h ∈ p.items) (same : h.id = new.id)
    (old : newer 8 new.version h.version = false) : p.takeItem cfg new = (p, false) := by
  rw [ProgrammeStore.takeItem_held passes (law.findItem hh same), old]
  rfl

/-- The pool of a full list gives up one record, the new one or a held one (R63). -/
theorem ProgrammeStore.takeItem_full (absent : ∀ h ∈ p.items, h.id ≠ new.id) (full : p.items.length = itemCap)
    {v : Item} (pool : v = new ∨ v ∈ p.items)
    (latest : (inAudience cfg v = false ∧
        ∀ x, x = new ∨ x ∈ p.items → inAudience cfg x = false → v.before x = false) ∨
      (∀ x, x = new ∨ x ∈ p.items → ¬inAudience cfg x = false) ∧
        ∀ x, x = new ∨ x ∈ p.items → v.before x = false) :
    (v = new → p.takeItem cfg new = ({ p with droppedItems := bump p.droppedItems }, false)) ∧
      (v ≠ new → p.takeItem cfg new =
        (({ p with
          items := insertItem new (removeItem v.id p.items)
          evictedItems := bump p.evictedItems } : ProgrammeStore).unspot v.id, true)) := by
  have none : p.items.find? (fun i => i.id == new.id) = none := by simpa using absent
  have gives : giveUp cfg (insertItem new p.items) = some v := by
    refine giveUp_eq_some (insertItem_order law.itemOrder absent) (mem_insertItem.mpr pool) ?_
    simpa only [mem_insertItem] using latest
  rw [ProgrammeStore.takeItem_absent passes none, if_neg (by rw [full]; exact Nat.lt_irrefl _)]
  unfold ProgrammeStore.insertFull
  rw [gives]
  dsimp only
  constructor
  · rintro rfl
    exact if_pos rfl
  · intro other
    refine if_neg fun same => ?_
    rcases pool with eq | held
    · exact other eq
    · exact absent v held same

end

end

/-! ### ITEM frames at the node -/

/-- The clamps of a frame are counted before the store takes it (R59). -/
def ItemPayload.noted (i : ItemPayload) (p : ProgrammeStore) : ProgrammeStore :=
  if i.clamps then { p with clampedItems := bump p.clampedItems } else p

theorem ItemPayload.noted_same (i : ItemPayload) (p : ProgrammeStore) :
    (i.noted p).items = p.items ∧ (i.noted p).tombstones = p.tombstones ∧ (i.noted p).spotlight = p.spotlight ∧
      (i.noted p).tombstoneHits = p.tombstoneHits ∧ (i.noted p).droppedItems = p.droppedItems ∧
      (i.noted p).evictedItems = p.evictedItems := by
  unfold ItemPayload.noted
  split <;> exact ⟨rfl, rfl, rfl, rfl, rfl, rfl⟩

theorem State.takeItemFrame_takes {s : State} (running : s.running = true) (i : ItemPayload) :
    (s.takeItemFrame i).1.prog = ((i.noted s.prog).takeItem s.cfg i.record).1 ∧
      (s.takeItemFrame i).2 = ((i.noted s.prog).takeItem s.cfg i.record).2 := by
  unfold State.takeItemFrame
  rw [if_pos running]
  have noted : (if i.clamps then s.progDo (fun q => { q with clampedItems := bump q.clampedItems }) else s) =
      s.progDo i.noted := by
    unfold ItemPayload.noted State.progDo
    cases i.clamps <;> rfl
  dsimp only
  rw [noted]
  have told (u : State) : u.pageTakesProgramme.prog = u.prog := u.pageTakesProgramme_changes .prog (by decide)
  split
  · rename_i q took
    refine ⟨(told _).trans ?_, ?_⟩
    · exact (congrArg Prod.fst took).symm
    · exact (congrArg Prod.snd took).symm
  · rename_i q took
    exact ⟨(congrArg Prod.fst took).symm, (congrArg Prod.snd took).symm⟩

theorem relayed_prog (p : Port) (cls : FrameClass) (f : RxFrame) (r : State × Bool) :
    (relayed p cls f r).prog = r.1.prog := relayed_changes p cls f r .prog (by decide)

theorem State.heard_prog (s : State) (p : Port) : (s.heard p).prog = s.prog := s.heard_changes p .prog (by decide)

/-- Settles O39: the cases of R62 at the store, whose laws say that an id and a tombstone are held once. -/
theorem itemFrameTaken : Obligations.ItemFrameTaken := by
  unfold Obligations.ItemFrameTaken
  intro p f i s hears parsed law r pool outside
  have law : s.prog.Lawful := s.programmeLaw_iff.mp law
  let u := s.heard p
  let t := relayed p .item f (u.takeItemFrame i)
  have handled : classHandler p .item f = some (fun s => relayed p .item f (s.takeItemFrame i)) := by
    simp only [classHandler, parsed, Option.map_some]
  have taken : exec (.itemFrame p f) s = .next t := congrArg Host.Outcome.next (State.receive_eq hears handled)
  have only : OnlyChanges [.prog, .ports, .bus, .page, .panel, .ind] s t :=
    (s.heard_changes p).andThen (classHandler_blocks handled u)
  have result : t.prog = ((i.noted s.prog).takeItem s.cfg r).1 := by
    rw [relayed_prog, (State.takeItemFrame_takes ((s.heard_running p).trans hears.2.1) i).1, s.heard_prog p,
      s.heard_cfg p]
  obtain ⟨items, tombs, spots, hits, dropped, evicted⟩ := i.noted_same s.prog
  have law' : (i.noted s.prog).Lawful := law.same items tombs spots
  have passes (new : ∀ k ∈ s.prog.tombstones, k.id = r.id → newer 8 r.version k.version = true) :
      (i.noted s.prog).stopped r = false := by
    rw [← Bool.not_eq_true, law'.stopped_iff, tombs]
    rintro ⟨k, hk, same, old⟩
    exact Bool.false_ne_true (old.symm.trans (new k hk same))
  have rest := ProgrammeStore.takeItem_rest s.cfg (i.noted s.prog) r
  refine ⟨t, taken, (State.programmeLaw_iff t).mpr (result ▸ law'.takeItem s.cfg r), ?_, fun clamps => ?_,
    fun hit => ?_, fun new => ?_, only⟩
  · rw [result, rest.1, tombs]
  · rw [result, rest.2, ItemPayload.noted, if_pos clamps]
  · have stops : (i.noted s.prog).stopped r = true := law'.stopped_iff.mpr (tombs.symm ▸ hit)
    rw [result, ProgrammeStore.takeItem_stopped stops]
    exact ⟨items, congrArg bump hits⟩
  · have passes := passes new
    refine ⟨by rw [result, ProgrammeStore.takeItem_hits passes, hits], ?_, ?_, ?_, ?_⟩
    · intro h hh same later x
      rw [result, ProgrammeStore.takeItem_newer law' passes (items.symm ▸ hh) same later, items]
    · intro h hh same old
      rw [result, ProgrammeStore.takeItem_older law' passes (items.symm ▸ hh) same old, items]
    · intro absent room x
      have room : s.prog.items.length < itemCap := room
      have none : (i.noted s.prog).items.find? (fun i => i.id == r.id) = none := by
        rw [items]
        simpa using absent
      rw [result, ProgrammeStore.takeItem_absent passes none, items, if_pos room]
      exact mem_insertItem
    · intro absent full v hv latest
      obtain ⟨drops, evicts⟩ := ProgrammeStore.takeItem_full law' passes (items.symm ▸ absent) (items.symm ▸ full)
        (by rw [items]; exact hv) (by rw [items]; exact latest)
      refine ⟨fun same => ?_, fun other => ?_⟩
      · rw [result, drops same]
        exact ⟨items, congrArg bump dropped⟩
      · rw [result, evicts other]
        refine ⟨fun x => ?_, congrArg bump evicted⟩
        have held : v ∈ s.prog.items := hv.resolve_left other
        show x ∈ insertItem r (removeItem v.id (i.noted s.prog).items) ↔ _
        rw [mem_insertItem, mem_removeItem, items]
        refine or_congr_right (and_congr_right fun hx => not_congr ⟨law.item_unique hx held, ?_⟩)
        rintro rfl
        rfl

/-! ### WITHDRAW frames -/

section
variable {p : ProgrammeStore} (w : Tombstone)

theorem ProgrammeStore.withdrawItem_rest (p : ProgrammeStore) : (p.withdrawItem w).1.tombstones = p.tombstones ∧
    (p.withdrawItem w).1.evictedTombstones = p.evictedTombstones := by
  unfold ProgrammeStore.withdrawItem
  split
  · split <;> exact ⟨rfl, rfl⟩
  · exact ⟨rfl, rfl⟩

theorem ProgrammeStore.withdrawTombstone_rest (p : ProgrammeStore) : (p.withdrawTombstone w).1.items = p.items ∧
    (p.withdrawTombstone w).1.withdrawnItems = p.withdrawnItems ∧
    (p.withdrawTombstone w).1.spotlight = p.spotlight := by
  unfold ProgrammeStore.withdrawTombstone ProgrammeStore.appendTombstone
  split
  · dsimp only
    split <;> exact ⟨rfl, rfl, rfl⟩
  · split <;> exact ⟨rfl, rfl, rfl⟩

variable {w}

theorem ProgrammeStore.withdrawItem_removes (law : p.Lawful) {h : Item} (hh : h ∈ p.items) (same : h.id = w.id)
    (old : newer 8 h.version w.version = false) : p.withdrawItem w =
      (({ p with
        items := removeItem w.id p.items
        withdrawnItems := bump p.withdrawnItems } : ProgrammeStore).unspot w.id, true) := by
  unfold ProgrammeStore.withdrawItem
  rw [law.findItem hh same]
  exact if_neg (by rw [old]; exact Bool.false_ne_true)

theorem ProgrammeStore.withdrawItem_keeps (stays : ∀ h ∈ p.items, h.id = w.id → newer 8 h.version w.version = true) :
    p.withdrawItem w = (p, false) := by
  unfold ProgrammeStore.withdrawItem
  split
  · rename_i i found
    exact if_pos (stays i (List.mem_of_find?_eq_some found) (by simpa using List.find?_some found))
  · rfl

theorem ProgrammeStore.withdrawTombstone_new (absent : ∀ k ∈ p.tombstones, k.id ≠ w.id) :
    p.withdrawTombstone w = (p.appendTombstone w, true) := by
  have none : p.tombstones.find? (fun t => t.id == w.id) = none := by simpa using absent
  unfold ProgrammeStore.withdrawTombstone
  rw [none]

theorem ProgrammeStore.withdrawTombstone_held (law : p.Lawful) {k : Tombstone} (hk : k ∈ p.tombstones)
    (same : k.id = w.id) : p.withdrawTombstone w =
      if k.version = w.version ∨ newer 8 k.version w.version = true then (p, false)
      else ({ p with tombstones := p.tombstones.filter (fun x => decide (x.id ≠ w.id)) ++ [w] }, true) := by
  unfold ProgrammeStore.withdrawTombstone
  rw [law.findTomb hk same]

end

/-- A WITHDRAW frame at a running node (R66). -/
theorem State.takeWithdrawFrame_takes {s : State} (running : s.running = true) (w : Tombstone) :
    s.takeWithdrawFrame w =
      (if (s.prog.withdrawItem w).2 then
          (s.progDo fun _ => ((s.prog.withdrawItem w).1.withdrawTombstone w).1).pageTakesProgramme
        else s.progDo fun _ => ((s.prog.withdrawItem w).1.withdrawTombstone w).1,
        (s.prog.withdrawItem w).2 || ((s.prog.withdrawItem w).1.withdrawTombstone w).2) := if_pos running

theorem State.takeWithdrawFrame_prog {s : State} (running : s.running = true) (w : Tombstone) :
    (s.takeWithdrawFrame w).1.prog = ((s.prog.withdrawItem w).1.withdrawTombstone w).1 := by
  rw [State.takeWithdrawFrame_takes running]
  dsimp only
  split
  · exact State.pageTakesProgramme_changes _ .prog (by decide)
  · rfl

/-- Settles O40: the two steps of R66 at the store, one on the items and one on the tombstones. -/
theorem withdrawFrameTaken : Obligations.WithdrawFrameTaken := by
  unfold Obligations.WithdrawFrameTaken
  intro p f w s hears parsed law
  have law : s.prog.Lawful := s.programmeLaw_iff.mp law
  let u := s.heard p
  let t := relayed p .withdraw f (u.takeWithdrawFrame w)
  have handled : classHandler p .withdraw f = some (fun s => relayed p .withdraw f (s.takeWithdrawFrame w)) := by
    simp only [classHandler, parsed, Option.map_some]
  have taken : exec (.withdrawFrame p f) s = .next t := congrArg Host.Outcome.next (State.receive_eq hears handled)
  have only : OnlyChanges [.prog, .ports, .bus, .page, .panel, .ind] s t :=
    (s.heard_changes p).andThen (classHandler_blocks handled u)
  have running : u.running = true := (s.heard_running p).trans hears.2.1
  have prog : u.prog = s.prog := s.heard_prog p
  have result : t.prog = ((s.prog.withdrawItem w).1.withdrawTombstone w).1 := by
    rw [relayed_prog, State.takeWithdrawFrame_prog running, prog]
  obtain ⟨first, alive⟩ := law.withdrawItem w
  obtain ⟨tombs, evicted⟩ := ProgrammeStore.withdrawItem_rest w s.prog
  obtain ⟨items, withdrawn, spots⟩ := ProgrammeStore.withdrawTombstone_rest w (s.prog.withdrawItem w).1
  refine ⟨t, taken, (State.programmeLaw_iff t).mpr (result ▸ first.withdrawTombstone alive), ?_, ?_, ?_, ?_, ?_, only⟩
  · intro h hh same old
    have removes := ProgrammeStore.withdrawItem_removes law hh same old
    rw [result, items, withdrawn, spots, removes]
    refine ⟨fun x => ?_, rfl, fun spot => ?_, ?_⟩
    · show x ∈ removeItem w.id s.prog.items ↔ _
      rw [mem_removeItem]
      refine and_congr_right fun hx => not_congr ⟨fun id => law.item_unique hx hh (id.trans same.symm), ?_⟩
      rintro rfl
      exact same
    · exact absurd rfl (of_decide_eq_true (List.mem_filter.mp spot).2)
    · have told : (u.takeWithdrawFrame w).1.shown := by
        rw [State.takeWithdrawFrame_takes running, prog, removes]
        exact State.finishPage_shown _ _ _
      exact (relayed_changes p .withdraw f (u.takeWithdrawFrame w)).shown told
  · intro stays
    have keeps := ProgrammeStore.withdrawItem_keeps stays
    refine ⟨by rw [result, items, keeps], by rw [result, withdrawn, keeps], by rw [result, spots, keeps], ?_⟩
    have quiet : OnlyChanges [.prog] u (u.takeWithdrawFrame w).1 := by
      rw [State.takeWithdrawFrame_takes running, prog, keeps]
      exact u.progDo_changes _
    exact ((s.heard_changes p).andThen quiet (c := [.prog, .ports, .ind])).andThen (relayed_changes _ _ _ _)
  · intro absent room
    have room : s.prog.tombstones.length < tombstoneCap := room
    rw [result, ProgrammeStore.withdrawTombstone_new (tombs.symm ▸ absent), ProgrammeStore.appendTombstone, tombs,
      if_pos room]
  · intro absent full
    have noRoom : ¬s.prog.tombstones.length < tombstoneCap := by
      rw [full]
      exact Nat.lt_irrefl _
    rw [result, ProgrammeStore.withdrawTombstone_new (tombs.symm ▸ absent), ProgrammeStore.appendTombstone, tombs,
      if_neg noRoom]
    exact ⟨rfl, congrArg bump evicted⟩
  · intro k hk same
    have held := ProgrammeStore.withdrawTombstone_held first (tombs.symm ▸ hk) same
    refine ⟨fun other old => ?_, fun stands => ?_⟩
    · have replaced : ¬(k.version = w.version ∨ newer 8 k.version w.version = true) := by
        rintro (eq | new)
        · exact other eq
        · exact Bool.false_ne_true (old.symm.trans new)
      rw [result, held, if_neg replaced, tombs]
      refine congrArg (· ++ [w]) (List.filter_congr fun x hx => decide_eq_decide.mpr (not_congr ⟨fun id => ?_, ?_⟩))
      · exact law.tomb_unique hx hk (id.trans same.symm)
      · rintro rfl
        exact same
    · rw [result, held, if_pos stands, tombs]

end Sys2Proof.Machine

/-! ### ALARM frames and the relay of flood frames (R31 to R35, R88, R93, R157) -/

namespace Sys2Proof.Machine

/-! ### The verdict on an ALARM frame (R31) -/

section
variable {u : AlarmUnit} {a : AlarmPayload}

theorem AlarmUnit.verdict_newEpoch (fresh : u.epoch = none ∨ ∃ e, u.epoch = some e ∧ newer 16 a.epoch e = true) :
    u.verdict a = .newEpoch := by
  unfold AlarmUnit.verdict
  rcases fresh with none | ⟨e, held, new⟩
  · rw [none]
  · rw [held]
    exact if_pos new

theorem AlarmUnit.verdict_sameEpoch (same : u.epoch = some a.epoch) :
    u.verdict a = if u.level.code < a.level.code then .levelRose else .noChange := by
  unfold AlarmUnit.verdict
  rw [same]
  dsimp only
  rw [if_neg (by rw [newer_self]; exact Bool.false_ne_true), if_pos rfl]

theorem AlarmUnit.verdict_older {e : Nat} (held : u.epoch = some e) (other : a.epoch ≠ e)
    (old : newer 16 a.epoch e = false) : u.verdict a = .older := by
  unfold AlarmUnit.verdict
  rw [held]
  dsimp only
  rw [if_neg (by rw [old]; exact Bool.false_ne_true), if_neg other]

/-- A frame brings a new epoch, raises the level within the held one, changes nothing of it, or is older. -/
theorem AlarmUnit.verdict_total (u : AlarmUnit) (a : AlarmPayload) :
    (u.epoch = none ∨ ∃ e, u.epoch = some e ∧ newer 16 a.epoch e = true) ∨
      u.epoch = some a.epoch ∧ u.level.code < a.level.code ∨
      u.epoch = some a.epoch ∧ a.level.code ≤ u.level.code ∨
      ∃ e, u.epoch = some e ∧ a.epoch ≠ e ∧ newer 16 a.epoch e = false := by
  cases held : u.epoch with
  | none => exact .inl (.inl rfl)
  | some e =>
    by_cases same : a.epoch = e
    · rcases Nat.lt_or_ge u.level.code a.level.code with rises | stays
      · exact .inr (.inl ⟨by rw [same], rises⟩)
      · exact .inr (.inr (.inl ⟨by rw [same], stays⟩))
    · cases new : newer 16 a.epoch e with
      | true => exact .inl (.inr ⟨e, rfl, new⟩)
      | false => exact .inr (.inr (.inr ⟨e, rfl, same, new⟩))

end

section
variable {s : State} (origin : Nat) {a : AlarmPayload} (loaded : s.start.lifecycle ≠ .loading)
include loaded

theorem State.takeAlarmFrame_newEpoch
    (fresh : s.alarm.epoch = none ∨ ∃ e, s.alarm.epoch = some e ∧ newer 16 a.epoch e = true) :
    s.takeAlarmFrame origin a = (s.acceptAlarm origin a true, true) := by
  unfold State.takeAlarmFrame
  rw [if_neg loaded, AlarmUnit.verdict_newEpoch fresh]

theorem State.takeAlarmFrame_rose (same : s.alarm.epoch = some a.epoch) (rises : s.alarm.level.code < a.level.code) :
    s.takeAlarmFrame origin a = (s.acceptAlarm origin a false, true) := by
  unfold State.takeAlarmFrame
  rw [if_neg loaded, AlarmUnit.verdict_sameEpoch same, if_pos rises]

theorem State.takeAlarmFrame_same (same : s.alarm.epoch = some a.epoch) (stays : a.level.code ≤ s.alarm.level.code) :
    s.takeAlarmFrame origin a = (s, false) := by
  unfold State.takeAlarmFrame
  rw [if_neg loaded, AlarmUnit.verdict_sameEpoch same, if_neg (Nat.not_lt.mpr stays)]

theorem State.takeAlarmFrame_older {e : Nat} (held : s.alarm.epoch = some e) (other : a.epoch ≠ e)
    (old : newer 16 a.epoch e = false) : s.takeAlarmFrame origin a =
      (s.alarmDo fun u => { u with olderAlarmFrames := bump u.olderAlarmFrames }, false) := by
  unfold State.takeAlarmFrame
  rw [if_neg loaded, AlarmUnit.verdict_older held other old]

end

/-! ### The notices of an alarm change (R34) -/

theorem State.lampFor_congr {s t : State} (clock : t.clock = s.clock) (cfg : t.cfg = s.cfg) : t.lampFor = s.lampFor := by
  funext l
  cases l <;> simp [State.lampFor, State.blinkOn, clock, cfg]

/-- An alarm notice ends at the indicator unit and the page selector. -/
theorem State.alarmNotice_ends {s : State} (loaded : s.start.lifecycle ≠ .loading) (before after : Level)
    (event : SweepEvent) : ∃ u : State, s.alarmNotice before after event = (u.indicatorTakes after).pageTakesAlarm after := by
  unfold State.alarmNotice
  split
  · rename_i loading
    exact absurd loading loaded
  · exact ⟨_, rfl⟩
  · exact ⟨_, rfl⟩
  · exact ⟨_, rfl⟩

/-- The lamp line shows the new level, and the arbiter's page is shown. -/
theorem State.alarmNotice_shows {s : State} (loaded : s.start.lifecycle ≠ .loading) (before after : Level)
    (event : SweepEvent) :
    let t := s.alarmNotice before after event
    t.page.level = after ∧ t.ind.level = after ∧ t.ind.lamp = t.lampFor after ∧ t.shown := by
  obtain ⟨u, ends⟩ := State.alarmNotice_ends loaded before after event
  obtain ⟨page, ind, -⟩ := u.indicatorPage_levels after
  have tail := (u.indicatorTakes after).pageTakesAlarm_changes after
  dsimp only
  rw [ends]
  refine ⟨page, ind, ?_, State.finishPage_shown _ _ _⟩
  rw [tail .ind (by decide), State.lampFor_congr (s := u) (tail .clock (by decide)) (tail.cfg_eq (by decide))]
  rfl

theorem State.acceptAlarm_shows {s : State} (loaded : s.start.lifecycle ≠ .loading) (origin : Nat) (a : AlarmPayload)
    (newEpoch : Bool) :
    let t := s.acceptAlarm origin a newEpoch
    t.page.level = a.level ∧ t.ind.level = a.level ∧ t.ind.lamp = t.lampFor a.level ∧ t.shown := by
  have life : (s.changeAlarm origin a newEpoch).start.lifecycle = s.start.lifecycle :=
    (s.changeAlarm_rest origin a newEpoch (steady := true)).sameStanding.lifecycle
  exact State.alarmNotice_shows (life ▸ loaded) _ _ _

theorem State.acceptAlarm_levels {s : State} (running : s.running = true) (origin : Nat) (a : AlarmPayload)
    (newEpoch : Bool) :
    let t := s.acceptAlarm origin a newEpoch
    t.page.level = a.level ∧ t.ind.level = a.level ∧ t.panel.level = a.level ∧ t.trig.level = a.level ∧
      t.muster.kind = musterKindFor a.level := by
  have runs : (s.changeAlarm origin a newEpoch).running = s.running :=
    (s.changeAlarm_rest origin a newEpoch (steady := true)).sameStanding.running
  exact State.alarmNotice_levels (runs.trans running) _ _ _

theorem State.loaded_of_running {s : State} (running : s.running = true) : s.start.lifecycle ≠ .loading := by
  intro loading
  rw [State.running, loading] at running
  exact nomatch running

/-! ### ALARM frames at the node -/

/-- What an ALARM frame makes of the node that has heard it. -/
def State.afterAlarm (s : State) (p : Port) (f : RxFrame) (a : AlarmPayload) : State :=
  relayed p .alarm f ((s.takeAlarmFrame f.origin a).1.hearAlarm p a, (s.takeAlarmFrame f.origin a).2)

theorem classHandler_alarm {p : Port} {f : RxFrame} {a : AlarmPayload} (parsed : parseAlarm f.payload = some a) :
    classHandler p .alarm f = some fun s => s.afterAlarm p f a := by
  simp only [classHandler, parsed, Option.map_some]
  rfl

/-- In CONFIG_FAULT a frame is not tested for its sender (R155). -/
theorem State.receive_fault {s : State} {p : Port} {cls : FrameClass} {f : RxFrame} {handle : State → State}
    (fault : s.start.lifecycle = .configFault) (used : (s.ports.get p).inUse = true) (short : f.payload.length ≤ 120)
    (range : headerInRange f = true) (handled : classHandler p cls f = some handle) :
    s.receiveFrame p cls f = handle (s.heard p) := by
  have start : (s.noteGood p).start = s.start := s.noteGood_changes p .start (by decide)
  unfold State.receiveFrame
  rw [if_neg (by simp [used]), if_neg (by omega)]
  unfold State.takeFrame
  rw [start, if_neg (fun e => e.1 fault), if_pos range, handled]
  rfl

/-- Outside OPERATING nothing is relayed (R157). -/
theorem relayed_off {s : State} (off : s.start.lifecycle ≠ .operating) (p : Port) (cls : FrameClass) (f : RxFrame)
    (changed : Bool) : relayed p cls f (s, changed) = s := if_neg fun h => off h.2.2.2.1

theorem State.hearAlarm_off {s : State} (off : s.start.lifecycle ≠ .operating) (p : Port) (a : AlarmPayload) :
    s.hearAlarm p a = s := by
  unfold State.hearAlarm State.heardOn
  rw [if_neg off]
  exact ite_self _

section
variable (s : State) (p : Port) (f : RxFrame) (a : AlarmPayload)

/-- After its owning block an ALARM frame reaches the start block's marks and the bus side alone. -/
theorem State.afterAlarm_rest : OnlyChanges [.start, .ports, .bus] (s.takeAlarmFrame f.origin a).1 (s.afterAlarm p f a) :=
  (State.hearAlarm_changes _ p a).andThen (relayed_changes p .alarm f _)

theorem State.afterAlarm_standing : SameStanding (s.takeAlarmFrame f.origin a).1 (s.afterAlarm p f a) :=
  ((State.hearAlarm_work _ p a (steady := true)).trans (State.relay_work _ _ _ _ _)).sameStanding

theorem State.afterAlarm_life : s.start.sameLife (s.afterAlarm p f a).start :=
  ((s.takeAlarmFrame_work f.origin a).sameStanding.trans (s.afterAlarm_standing p f a)).life

variable {s p f a}

/-- Outside OPERATING what the owning block makes of the frame stands. -/
theorem State.afterAlarm_off (off : s.start.lifecycle ≠ .operating) :
    s.afterAlarm p f a = (s.takeAlarmFrame f.origin a).1 := by
  have off' : (s.takeAlarmFrame f.origin a).1.start.lifecycle ≠ .operating :=
    (s.takeAlarmFrame_work f.origin a).sameStanding.lifecycle ▸ off
  unfold State.afterAlarm
  rw [State.hearAlarm_off off']
  exact relayed_off off' _ _ _ _

/-- In CONFIG_FAULT the record changes, the lamp and the page (R34, R171). -/
theorem State.takeAlarmFrame_fault (fault : s.start.lifecycle = .configFault) (origin : Nat) :
    OnlyChanges [.alarm, .start, .panel, .ind, .page] s (s.takeAlarmFrame origin a).1 := by
  rcases s.takeAlarmFrame_cases origin a with ⟨only, -⟩ | ⟨-, newEpoch, -, took⟩
  · exact only.widen
  · have changed := s.changeAlarm_changes origin a newEpoch
    have life : (s.changeAlarm origin a newEpoch).start.lifecycle = .configFault :=
      (s.changeAlarm_rest origin a newEpoch (steady := true)).sameStanding.lifecycle.trans fault
    have told (u : State) : OnlyChanges [.panel, .ind, .page] u ((u.indicatorTakes a.level).pageTakesAlarm a.level) :=
      (u.indicatorTakes_changes a.level).andThen (State.pageTakesAlarm_changes _ _)
    rw [took]
    show OnlyChanges _ s ((s.changeAlarm origin a newEpoch).alarmNotice _ _ _)
    unfold State.alarmNotice
    rw [life]
    exact changed.andThen (told _)

section
variable {newEpoch : Bool} (took : s.takeAlarmFrame f.origin a = (s.acceptAlarm f.origin a newEpoch, true))
include took

/-- A change reaches the record. -/
theorem State.afterAlarm_record : (s.afterAlarm p f a).alarm = s.alarm.changed f.origin a s.clock newEpoch := by
  rw [s.afterAlarm_rest p f a .alarm (by decide), took, State.acceptAlarm_alarm]

/-- A change reaches the indicator unit and the page. -/
theorem State.afterAlarm_shows (loaded : s.start.lifecycle ≠ .loading) :
    let t := s.afterAlarm p f a
    t.page.level = a.level ∧ t.ind.level = a.level ∧ t.ind.lamp = t.lampFor a.level ∧
      t.page.selected = t.arbiter ∧ (t.start.lifecycle ≠ .operating → t.shown) := by
  obtain ⟨page, ind, lamp, shown⟩ := State.acceptAlarm_shows loaded f.origin a newEpoch
  have rest := s.afterAlarm_rest p f a
  have standing := s.afterAlarm_standing p f a
  rw [took] at rest standing
  have lamps : (s.afterAlarm p f a).lampFor = (s.acceptAlarm f.origin a newEpoch).lampFor :=
    State.lampFor_congr standing.clock standing.cfg
  have pages : (s.afterAlarm p f a).page = (s.acceptAlarm f.origin a newEpoch).page := rest .page (by decide)
  have inds : (s.afterAlarm p f a).ind = (s.acceptAlarm f.origin a newEpoch).ind := rest .ind (by decide)
  have arbiter : (s.afterAlarm p f a).arbiter = (s.acceptAlarm f.origin a newEpoch).arbiter := by
    unfold State.arbiter
    rw [standing.running, standing.cfg, pages]
  refine ⟨by rw [pages, page], by rw [inds, ind], by rw [inds, lamps, lamp], by rw [pages, arbiter, shown.1],
    fun off => ?_⟩
  have unmarked : s.afterAlarm p f a = s.acceptAlarm f.origin a newEpoch := by
    rw [State.afterAlarm_off (s.afterAlarm_life p f a |>.1 ▸ off), took]
  exact unmarked ▸ shown

/-- At a running node a change reaches the trigger unit and the panel controller. -/
theorem State.afterAlarm_running (running : s.running = true) :
    (s.afterAlarm p f a).trig.level = a.level ∧ (s.afterAlarm p f a).panel.level = a.level ∧
      (s.afterAlarm p f a).muster.kind = musterKindFor a.level := by
  obtain ⟨-, -, panel, trig, muster⟩ := State.acceptAlarm_levels running f.origin a newEpoch
  have rest := s.afterAlarm_rest p f a
  rw [took] at rest
  exact ⟨by rw [rest .trig (by decide), trig], by rw [rest .panel (by decide), panel],
    by rw [rest .muster (by decide), muster]⟩

end

/-- A frame that repeats the record marks the pending response alone. -/
theorem State.afterAlarm_same (took : s.takeAlarmFrame f.origin a = (s, false)) :
    s.afterAlarm p f a = s.hearAlarm p a := by
  unfold State.afterAlarm
  rw [took]
  exact relayed_unchanged _ _ _ _

/-- A frame of an older epoch is counted alone. -/
theorem State.afterAlarm_older {e : Nat} (loaded : s.start.lifecycle ≠ .loading) (held : s.alarm.epoch = some e)
    (other : a.epoch ≠ e) (old : newer 16 a.epoch e = false) :
    s.afterAlarm p f a = s.alarmDo fun u => { u with olderAlarmFrames := bump u.olderAlarmFrames } := by
  unfold State.afterAlarm
  rw [State.takeAlarmFrame_older f.origin loaded held other old]
  refine (relayed_unchanged _ _ _ _).trans (if_neg fun same => other ?_)
  exact Option.some.inj (same.1.symm.trans held)

end

/-- A change to a new epoch, or within the held one. -/
theorem AlarmUnit.changed_rose {u : AlarmUnit} {a : AlarmPayload} (same : u.epoch = some a.epoch) (origin now : Nat) :
    u.changed origin a now false = { u with level := a.level, origin := origin, changedAt := some now } := by
  rw [AlarmUnit.changed, ← same]
  rfl

/-- Settles O23: the verdict of R31 decides, and a change reaches the blocks of the node's lifecycle state. -/
theorem alarmFrameTaken : Obligations.AlarmFrameTaken := by
  unfold Obligations.AlarmFrameTaken
  constructor
  · intro p f a s hears parsed
    have running : (s.heard p).running = true := (s.heard_running p).trans hears.2.1
    have loaded := State.loaded_of_running running
    have alarm := s.heard_alarm p
    have heard := s.heard_changes p
    have life := (s.heard p).afterAlarm_life p f a
    rw [s.heard_start p] at life
    refine ⟨_, congrArg Host.Outcome.next (State.receive_eq hears (classHandler_alarm parsed)), fun fresh => ?_,
      fun same rises => ?_, fun same stays => ?_, fun e held other old => ?_, life.1, life.2.1,
      heard.andThen (classHandler_blocks (classHandler_alarm parsed) _)⟩
    · have took := State.takeAlarmFrame_newEpoch f.origin loaded (alarm ▸ fresh)
      obtain ⟨page, ind, lamp, -⟩ := State.afterAlarm_shows took loaded (p := p)
      obtain ⟨trig, panel, -⟩ := State.afterAlarm_running took running (p := p)
      refine ⟨⟨page, ind, trig, panel, lamp⟩, ?_⟩
      rw [State.afterAlarm_record took, alarm, s.heard_clock p]
      rfl
    · have took := State.takeAlarmFrame_rose f.origin loaded (alarm ▸ same) (alarm ▸ rises)
      obtain ⟨page, ind, lamp, -⟩ := State.afterAlarm_shows took loaded (p := p)
      obtain ⟨trig, panel, -⟩ := State.afterAlarm_running took running (p := p)
      refine ⟨⟨page, ind, trig, panel, lamp⟩, ?_⟩
      rw [State.afterAlarm_record took, alarm, s.heard_clock p, AlarmUnit.changed_rose same]
    · rw [State.afterAlarm_same (State.takeAlarmFrame_same f.origin loaded (alarm ▸ same) (alarm ▸ stays))]
      have marks := (s.heard p).hearAlarm_changes p a
      exact ⟨(marks .alarm (by decide)).trans alarm, heard.andThen marks⟩
    · rw [State.afterAlarm_older loaded (alarm ▸ held) other old]
      exact ⟨by rw [State.alarmDo_alarm, alarm], heard.andThen (State.alarmDo_changes _ _)⟩
  · intro p f a s fault used short range parsed
    have start := s.heard_start p
    have off : (s.heard p).start.lifecycle ≠ .operating := by
      rw [start, fault]
      nofun
    have loaded : (s.heard p).start.lifecycle ≠ .loading := by
      rw [start, fault]
      nofun
    have alarm := s.heard_alarm p
    have heard := s.heard_changes p
    have life := (s.heard p).afterAlarm_life p f a
    rw [start] at life
    have faults : ((s.heard p).afterAlarm p f a).start.lifecycle = .configFault := life.1.trans fault
    have off' : ((s.heard p).afterAlarm p f a).start.lifecycle ≠ .operating := by
      rw [faults]
      nofun
    have stops : ((s.heard p).afterAlarm p f a).arbiter = .fallback := by
      refine if_pos ?_
      rw [State.running, faults]
      rfl
    have only : OnlyChanges [.alarm, .start, .ports, .panel, .ind, .page] s ((s.heard p).afterAlarm p f a) := by
      rw [State.afterAlarm_off off]
      exact heard.andThen (State.takeAlarmFrame_fault (start ▸ fault) f.origin)
    refine ⟨_, congrArg Host.Outcome.next (State.receive_fault fault used short range (classHandler_alarm parsed)),
      fun fresh => ?_, fun same rises => ?_, fun same stays => ?_, fun e held other old => ?_, faults, life.2.1, only⟩
    · have took := State.takeAlarmFrame_newEpoch f.origin loaded (alarm ▸ fresh)
      obtain ⟨page, ind, lamp, selected, shown⟩ := State.afterAlarm_shows took loaded (p := p)
      refine ⟨⟨page, ind, lamp, selected.trans stops, shown off'⟩, ?_⟩
      rw [State.afterAlarm_record took, alarm, s.heard_clock p]
      rfl
    · have took := State.takeAlarmFrame_rose f.origin loaded (alarm ▸ same) (alarm ▸ rises)
      obtain ⟨page, ind, lamp, selected, shown⟩ := State.afterAlarm_shows took loaded (p := p)
      refine ⟨⟨page, ind, lamp, selected.trans stops, shown off'⟩, ?_⟩
      rw [State.afterAlarm_record took, alarm, s.heard_clock p, AlarmUnit.changed_rose same]
    · rw [State.afterAlarm_same (State.takeAlarmFrame_same f.origin loaded (alarm ▸ same) (alarm ▸ stays)),
        State.hearAlarm_off off]
      exact heard
    · rw [State.afterAlarm_older loaded (alarm ▸ held) other old]
      exact ⟨by rw [State.alarmDo_alarm, alarm], heard.andThen (State.alarmDo_changes _ _)⟩

end Sys2Proof.Machine

/-! ### Sweep events and the relay of flood frames (R33, R88, R93, R157) -/

namespace Sys2Proof.Machine

/-! ### What a sweep event makes of the cabin unit (R88, R93) -/

/-- The cabin unit after a sweep event: a CABIN node's own state, any other node's tally (R88, R93). -/
def CabinUnit.takesEvent (role : Role) (minute : Option Nat) (event : SweepEvent) (u : CabinUnit) : CabinUnit :=
  match event with
  | .none => u
  | .onset =>
    if role = .cabin then { u with service := .none, sweep := .unchecked, sweepMinute := minute }
    else { u with tally := u.tally.map (fun l => l.map (fun x => { x with sweep := .unchecked })) }
  | .ending =>
    if role = .cabin then if u.sweep = .idle then u else { u with sweep := .idle, sweepMinute := minute }
    else { u with tally := u.tally.map (fun l => l.map (fun x => { x with sweep := .idle })) }

section
variable (s : State)

theorem State.serviceChange_cabin (service : ServiceState) (request : Nat) :
    (s.serviceChange service request).cabin = { s.cabin with service := service, request := request } :=
  ((State.queueService_changes _).andThen (State.pageNotice_changes _ _) (c := [.ports, .page, .panel])) .cabin
    (by decide)

theorem State.sweepChange_cabin (sweep : SweepState) :
    (s.sweepChange sweep).cabin = { s.cabin with sweep := sweep, sweepMinute := s.sweepMinuteNow } :=
  ((State.queueSweep_changes _).andThen (State.pageNotice_changes _ _) (c := [.ports, .page, .panel])) .cabin
    (by decide)

theorem State.takeTally_cabin (before after : List TallyEntry) :
    (s.takeTally before after).cabin = { s.cabin with tally := some after } := by
  unfold State.takeTally
  dsimp only
  split
  · rfl
  · exact State.pageNotice_changes _ _ .cabin (by decide)

theorem State.tallyAll_cabin (sweep : SweepState) : (s.tallyAll sweep).cabin =
    { s.cabin with tally := s.cabin.tally.map (fun l => l.map (fun x => { x with sweep := sweep })) } := by
  unfold State.tallyAll
  split
  · rename_i none
    rw [none, Option.map_none, ← none]
  · rename_i t held
    rw [State.takeTally_cabin, held, Option.map_some]

theorem State.sweepMinuteNow_congr {s t : State} (clock : t.clock = s.clock) (time : t.time = s.time) :
    t.sweepMinuteNow = s.sweepMinuteNow := by
  simp only [State.sweepMinuteNow, State.programmeMinute, State.shipMs, clock, time]

theorem State.cabinTakesAlarm_cabin (event : SweepEvent) :
    (s.cabinTakesAlarm event).cabin = s.cabin.takesEvent s.cfg.role s.sweepMinuteNow event := by
  cases event with
  | none => rfl
  | onset =>
    unfold State.cabinTakesAlarm CabinUnit.takesEvent
    dsimp only
    split
    · rw [State.sweepChange_cabin]
      split
      · rename_i none
        rw [← none]
      · have changes := s.serviceChange_changes .none s.cabin.request
        rw [State.serviceChange_cabin, State.sweepMinuteNow_congr (changes .clock (by decide)) (changes .time (by decide))]
    · exact s.tallyAll_cabin .unchecked
  | ending =>
    unfold State.cabinTakesAlarm CabinUnit.takesEvent
    dsimp only
    split
    · split
      · rfl
      · exact s.sweepChange_cabin .idle
    · exact s.tallyAll_cabin .idle

variable {s}

theorem State.alarmNotice_cabin (running : s.running = true) (before after : Level) (event : SweepEvent) :
    (s.alarmNotice before after event).cabin = s.cabin.takesEvent s.cfg.role s.sweepMinuteNow event := by
  have rest (u : State) : ((((((u.cabinTakesAlarm event).musterTakesAlarm after).triggerTakesAlarm before after).panelDo
      (fun e p => p.takeAlarm e before after)).indicatorTakes after).pageTakesAlarm after).cabin =
      (u.cabinTakesAlarm event).cabin := by
    rw [State.pageTakesAlarm_changes _ _ .cabin (by decide), State.indicatorTakes_cabin, State.panelDo_cabin,
      State.triggerTakesAlarm_changes _ _ _ .cabin (by decide), State.musterTakesAlarm_changes _ _ .cabin (by decide)]
  have evaluated : OnlyChanges [.route, .ports, .muster, .trig, .page, .panel] s
      (if before.emergency = after.emergency then s else s.reevaluateAllEvent) :=
    .ite (.refl _ s) s.reevaluateAllEvent_changes.widen
  have told : (State.cabinTakesAlarm (if before.emergency = after.emergency then s else s.reevaluateAllEvent)
      event).cabin = s.cabin.takesEvent s.cfg.role s.sweepMinuteNow event := by
    rw [State.cabinTakesAlarm_cabin, evaluated.cfg_eq (by decide), evaluated .cabin (by decide),
      State.sweepMinuteNow_congr (evaluated .clock (by decide)) (evaluated .time (by decide))]
  unfold State.alarmNotice
  split
  · rename_i loading
    rw [State.running, loading] at running
    exact nomatch running
  · rename_i fault
    rw [State.running, fault] at running
    exact nomatch running
  · exact (rest _).trans told
  · exact (rest _).trans told

theorem State.acceptAlarm_cabin (running : s.running = true) (origin : Nat) (a : AlarmPayload) (newEpoch : Bool) :
    (s.acceptAlarm origin a newEpoch).cabin =
      s.cabin.takesEvent s.cfg.role s.sweepMinuteNow (sweepEventOf newEpoch s.alarm.level a.level) := by
  have standing := (s.changeAlarm_rest origin a newEpoch (steady := true)).sameStanding
  have runs : (s.changeAlarm origin a newEpoch).running = true := standing.running.trans running
  exact (State.alarmNotice_cabin runs _ _ _).trans (by rw [standing.cfg]; rfl)

end

/-- A frame of the held epoch or of an older one brings none. -/
theorem AlarmUnit.not_fresh {u : AlarmUnit} {a : AlarmPayload} {e : Nat} (held : u.epoch = some e)
    (old : newer 16 a.epoch e = false) : ¬(u.epoch = none ∨ ∃ e, u.epoch = some e ∧ newer 16 a.epoch e = true) := by
  rintro (none | ⟨e', held', new⟩)
  · exact nomatch none.symm.trans held
  · cases held.symm.trans held'
    exact Bool.false_ne_true (old.symm.trans new)

/-- Settles O24: the sweep event of the verdict, taken by the cabin unit and by no block after it. -/
theorem alarmMovesSweep : Obligations.AlarmMovesSweep := by
  unfold Obligations.AlarmMovesSweep
  intro p f a s hears parsed fresh rises onset ending
  let u := s.heard p
  have running : u.running = true := (s.heard_running p).trans hears.2.1
  have loaded := State.loaded_of_running running
  have alarm : u.alarm = s.alarm := s.heard_alarm p
  have heard := s.heard_changes p
  have cabin : u.cabin = s.cabin := heard .cabin (by decide)
  have minute : u.sweepMinuteNow = s.sweepMinuteNow :=
    State.sweepMinuteNow_congr (s.heard_clock p) (heard .time (by decide))
  have after : (u.afterAlarm p f a).cabin = (u.takeAlarmFrame f.origin a).1.cabin :=
    u.afterAlarm_rest p f a .cabin (by decide)
  have changed {newEpoch : Bool} (took : u.takeAlarmFrame f.origin a = (u.acceptAlarm f.origin a newEpoch, true)) :
      (u.afterAlarm p f a).cabin =
        s.cabin.takesEvent s.cfg.role s.sweepMinuteNow (sweepEventOf newEpoch s.alarm.level a.level) := by
    rw [after, took, State.acceptAlarm_cabin running, cabin, minute, alarm, s.heard_cfg p]
  -- The event is ONSET, END or none as the two conditions say.
  have event : ∃ e : SweepEvent, (u.afterAlarm p f a).cabin = s.cabin.takesEvent s.cfg.role s.sweepMinuteNow e ∧
      (onset ↔ e = .onset) ∧ (ending ↔ e = .ending) := by
    have apart (none : ¬fresh) (still : ¬rises) : ¬onset ∧ ¬ending :=
      ⟨fun h => h.2.elim none fun k => still k.1, fun h => none h.1⟩
    rcases s.alarm.verdict_total a with new | ⟨same, rose⟩ | ⟨same, stays⟩ | ⟨e, held, other, old⟩
    · refine ⟨_, changed (State.takeAlarmFrame_newEpoch f.origin loaded (alarm ▸ new)), ?_, ?_⟩
      · cases emergency : a.level.emergency <;> simp [onset, sweepEventOf, emergency, fresh, new]
      · cases emergency : a.level.emergency <;> simp [ending, sweepEventOf, emergency, fresh, new]
    · have notFresh : ¬fresh := AlarmUnit.not_fresh same (newer_self 16 _)
      refine ⟨_, changed (State.takeAlarmFrame_rose f.origin loaded (alarm ▸ same) (alarm ▸ rose)), ?_, ?_⟩
      · have roses : rises := ⟨same, rose⟩
        cases emergency : a.level.emergency <;> cases before : s.alarm.level.emergency <;>
          simp [onset, sweepEventOf, emergency, before, notFresh, roses]
      · have never : ¬ending := fun h => notFresh h.1
        cases emergency : a.level.emergency <;> cases before : s.alarm.level.emergency <;>
          simp [sweepEventOf, emergency, before, never]
    · have notFresh : ¬fresh := AlarmUnit.not_fresh same (newer_self 16 _)
      obtain ⟨no, no'⟩ := apart notFresh fun h => Nat.not_lt.mpr stays h.2
      refine ⟨.none, ?_, by simp [no], by simp [no']⟩
      rw [after, State.takeAlarmFrame_same f.origin loaded (alarm ▸ same) (alarm ▸ stays), cabin]
      rfl
    · have notFresh : ¬fresh := AlarmUnit.not_fresh held old
      obtain ⟨no, no'⟩ := apart notFresh fun h => other (Option.some.inj (h.1.symm.trans held))
      refine ⟨.none, ?_, by simp [no], by simp [no']⟩
      rw [after, State.takeAlarmFrame_older f.origin loaded (alarm ▸ held) other old]
      exact cabin
  obtain ⟨e, result, isOnset, isEnding⟩ := event
  refine ⟨_, congrArg Host.Outcome.next (State.receive_eq hears (classHandler_alarm parsed)), ?_, ?_, ?_, ?_, ?_⟩
  all_goals rw [result]
  · intro role on
    rw [isOnset.mp on]
    exact if_pos role
  · intro role ends moved
    rw [isEnding.mp ends]
    exact (if_pos role).trans (if_neg moved)
  · intro role ends idle
    rw [isEnding.mp ends]
    exact (if_pos role).trans (if_pos idle)
  · rintro role (on | ends)
    · rw [isOnset.mp on, if_pos on.1]
      exact if_neg role
    · rw [isEnding.mp ends, if_neg (by rw [ends.2]; exact Bool.false_ne_true)]
      exact if_neg role
  · intro notOnset notEnding
    cases e with
    | none => rfl
    | onset => exact absurd (isOnset.mpr rfl) notOnset
    | ending => exact absurd (isEnding.mpr rfl) notEnding


/-! ### Which frames are changes (R157) -/

section
variable {s : State} {origin : Nat}

/-- An ALARM frame is a change where the held epoch or level moves. -/
theorem State.takeAlarmFrame_changed (loaded : s.start.lifecycle ≠ .loading) (a : AlarmPayload) :
    (s.takeAlarmFrame origin a).2 = true ↔ (s.takeAlarmFrame origin a).1.alarm.epoch ≠ s.alarm.epoch ∨
      (s.takeAlarmFrame origin a).1.alarm.level ≠ s.alarm.level := by
  rcases s.alarm.verdict_total a with new | ⟨same, rose⟩ | ⟨same, stays⟩ | ⟨e, held, other, old⟩
  · rw [State.takeAlarmFrame_newEpoch origin loaded new, State.acceptAlarm_alarm]
    refine iff_of_true rfl (.inl fun same => ?_)
    rcases new with none | ⟨e, held, new⟩
    · exact nomatch same.trans none
    · cases same.trans held
      exact Bool.false_ne_true ((newer_self 16 _).symm.trans new)
  · rw [State.takeAlarmFrame_rose origin loaded same rose, State.acceptAlarm_alarm]
    refine iff_of_true rfl (.inr fun level => ?_)
    have level : a.level = s.alarm.level := level
    rw [level] at rose
    exact Nat.lt_irrefl _ rose
  · rw [State.takeAlarmFrame_same origin loaded same stays]
    simp
  · rw [State.takeAlarmFrame_older origin loaded held other old]
    simp

/-- A ZONE frame is a change where the report list moves. -/
theorem State.takeZoneFrame_changed (running : s.running = true) (law : s.reportLaw) (z : ZonePayload) :
    (s.takeZoneFrame origin z).2 = true ↔ (s.takeZoneFrame origin z).1.alarm.reports ≠ s.alarm.reports := by
  have unheld (none : s.alarm.reports.find? (ZoneReport.hasKey origin z.number) = none) :
      z.report origin s.clock ∉ s.alarm.reports := fun held =>
    List.find?_eq_none.mp none _ held ((ZoneReport.hasKey_iff _ _ _).mpr ⟨rfl, rfl⟩)
  cases found : s.alarm.reports.find? (ZoneReport.hasKey origin z.number) with
  | some h =>
    obtain ⟨ho, hn⟩ := (ZoneReport.hasKey_iff origin z.number h).mp (List.find?_some found)
    cases new : newer 8 z.sequence h.sequence with
    | true =>
      rw [State.takeZoneFrame_newer running found new, State.zoneChanged_alarm]
      refine iff_of_true rfl fun same => ?_
      have held : z.report origin s.clock ∈ s.alarm.reports := same ▸ mem_insertReport.mpr (.inl rfl)
      have eq := reports_unique law.2.1 held (List.mem_of_find?_eq_some found) ho.symm hn.symm
      rw [← eq] at new
      exact Bool.false_ne_true ((newer_self 8 _).symm.trans new)
    | false =>
      rw [State.takeZoneFrame_old running found new]
      simp
  | none =>
    by_cases room : s.alarm.reports.length < reportCap
    · rw [State.takeZoneFrame_new running found room, State.zoneChanged_alarm]
      exact iff_of_true rfl fun same => unheld found (same ▸ mem_insertReport.mpr (.inl rfl))
    · cases gives : displacedBy z.state s.alarm.reports with
      | some v =>
        have flag : (s.takeZoneFrame origin z).2 = true := by
          have gives : displacedBy (z.report origin s.clock).state s.alarm.reports = some v := gives
          rw [State.takeZoneFrame_full running found room, State.storeOverFull, gives]
        rw [State.takeZoneFrame_evicts running found room gives]
        exact iff_of_true flag fun same => unheld found (same ▸ mem_insertReport.mpr (.inl rfl))
      | none =>
        rw [State.takeZoneFrame_drops running found room gives]
        simp

/-- A REASSIGN frame is a change where the reassignment list moves. -/
theorem State.takeReassignFrame_changed (running : s.running = true) (law : s.reassignLaw) (r : ReassignPayload) :
    (s.takeReassignFrame origin r).2 = true ↔
      (s.takeReassignFrame origin r).1.alarm.reassignments ≠ s.alarm.reassignments := by
  by_cases epoch : s.alarm.epoch = some r.epoch
  · by_cases old : ∃ h, s.reassignment r.zone r.kind = some h ∧ newer 8 r.sequence h.sequence = false
    · obtain ⟨h, held, old⟩ := old
      rw [State.takeReassignFrame_old running epoch held old]
      simp
    · have newest (h : Reassignment) (held : s.reassignment r.zone r.kind = some h) :
          newer 8 r.sequence h.sequence = true := by
        rw [← Bool.not_eq_false]
        exact fun notNew => old ⟨h, held, notNew⟩
      rw [State.takeReassignFrame_stores running epoch newest, State.acceptReassign_alarm]
      refine iff_of_true rfl fun same => ?_
      have held : r.record origin ∈ s.alarm.reassignments := same ▸ mem_storeReassignment.mpr (.inl rfl)
      have new := newest _ ((State.reassignment_iff law).mpr ⟨held, rfl, rfl⟩)
      exact Bool.false_ne_true ((newer_self 8 _).symm.trans new)
  · rw [State.takeReassignFrame_otherEpoch running epoch]
    simp

end

section
variable {p : ProgrammeStore} (law : p.Lawful)
include law

theorem ProgrammeStore.takeItem_changed (cfg : ConfigCopy) (new : Item) :
    (p.takeItem cfg new).2 = true ↔ (p.takeItem cfg new).1.items ≠ p.items := by
  cases stops : p.stopped new with
  | true =>
    rw [ProgrammeStore.takeItem_stopped stops]
    simp
  | false =>
    cases found : p.items.find? (fun i => i.id == new.id) with
    | some old =>
      have held := List.mem_of_find?_eq_some found
      have same : old.id = new.id := by simpa using List.find?_some found
      cases later : newer 8 new.version old.version with
      | true =>
        have moved := ProgrammeStore.takeItem_newer law stops held same later (cfg := cfg) new
        refine iff_of_true (by rw [ProgrammeStore.takeItem_held stops found, if_pos later]) fun eq => ?_
        rw [eq] at moved
        rw [law.item_unique (moved.mpr (.inl rfl)) held same.symm] at later
        exact Bool.false_ne_true ((newer_self 8 _).symm.trans later)
      | false =>
        rw [ProgrammeStore.takeItem_older law stops held same later]
        simp
    | none =>
      have fresh : new ∉ p.items := fun held => by simpa using List.find?_eq_none.mp found new held
      rw [ProgrammeStore.takeItem_absent stops found]
      split
      · exact iff_of_true rfl fun eq => fresh (eq ▸ mem_insertItem.mpr (.inl rfl))
      · unfold ProgrammeStore.insertFull
        split
        · simp
        · split
          · simp
          · exact iff_of_true rfl fun eq => fresh (eq ▸ mem_insertItem.mpr (.inl rfl))

omit law in
theorem ProgrammeStore.withdrawItem_changed (w : Tombstone) :
    (p.withdrawItem w).2 = true ↔ (p.withdrawItem w).1.items ≠ p.items := by
  unfold ProgrammeStore.withdrawItem
  split
  · rename_i i found
    have id : i.id = w.id := by simpa using List.find?_some found
    split
    · simp
    · refine iff_of_true rfl fun eq => ?_
      have held := List.mem_of_find?_eq_some found
      rw [← eq] at held
      exact (mem_removeItem.mp held).2 id
  · simp

theorem ProgrammeStore.withdrawTombstone_changed (w : Tombstone) :
    (p.withdrawTombstone w).2 = true ↔ (p.withdrawTombstone w).1.tombstones ≠ p.tombstones := by
  by_cases held : ∃ k ∈ p.tombstones, k.id = w.id
  · obtain ⟨k, hk, same⟩ := held
    rw [ProgrammeStore.withdrawTombstone_held law hk same]
    split
    · simp
    · rename_i other
      refine iff_of_true rfl fun eq => other (.inl ?_)
      have hw : w ∈ p.tombstones := eq ▸ List.mem_append_right _ List.mem_cons_self
      rw [law.tomb_unique hk hw same]
  · have absent : ∀ k ∈ p.tombstones, k.id ≠ w.id := fun k hk same => held ⟨k, hk, same⟩
    rw [ProgrammeStore.withdrawTombstone_new absent]
    refine iff_of_true rfl fun eq => ?_
    have appended : w ∈ (p.appendTombstone w).tombstones := by
      unfold ProgrammeStore.appendTombstone
      split <;> exact List.mem_append_right _ List.mem_cons_self
    exact absent w (eq ▸ appended) rfl

end

/-! ### The relay (R157) -/

theorem State.heard_inUse (s : State) (p q : Port) : ((s.heard p).ports.get q).inUse = (s.ports.get q).inUse := by
  have good (q : Port) : ((s.noteGood p).ports.get q).inUse = (s.ports.get q).inUse := by
    unfold State.noteGood
    dsimp only
    split
    · cases p <;> cases q <;> rfl
    · split <;> cases p <;> cases q <;> rfl
  rw [← good q]
  cases p <;> cases q <;> rfl

/-- What a relay leaves, at a node that stands as it stood before the frame. -/
theorem relayed_outcome {s v : State} {p : Port} {cls : FrameClass} {f : RxFrame} {changed : Bool} {P : Prop}
    {key : QueueKey} (cfg : v.cfg = s.cfg) (side : SameFaultSide (s.heard p) v) (bus : v.bus = s.bus)
    (keys : relayKey cls f = key) (flag : changed = true ↔ P) :
    let floods : Prop := s.cfg.role = .stair ∧ s.ports.a.inUse = true ∧ s.ports.b.inUse = true ∧
      s.start.lifecycle = .operating ∧ 0 < f.hop
    let t := relayed p cls f (v, changed)
    (floods → P →
      t.bus = { s.bus with relayedCopies := bump s.bus.relayedCopies } ∧
      t.ports = (v.request (otherPort p) cls key
        (.fixed ⟨cls, f.hop - 1, s.cfg.nodeNumber, f.origin, f.payload⟩)).ports ∧
      OnlyChanges [.bus, .ports] v t) ∧ (¬floods ∨ ¬P → t = v) := by
  have life : v.start.lifecycle = s.start.lifecycle := side.lifecycle.trans (by rw [s.heard_start p])
  have useA : v.ports.a.inUse = s.ports.a.inUse := (side.ports .a).1.trans (s.heard_inUse p .a)
  have useB : v.ports.b.inUse = s.ports.b.inUse := (side.ports .b).1.trans (s.heard_inUse p .b)
  intro floods t
  have opens : (v.cfg.role = .stair ∧ v.ports.a.inUse = true ∧ v.ports.b.inUse = true ∧
      v.start.lifecycle = .operating ∧ changed = true ∧ 0 < f.hop) ↔ floods ∧ P := by
    rw [cfg, useA, useB, life, flag]
    exact ⟨fun ⟨a, b, c, d, e, g⟩ => ⟨⟨a, b, c, d, g⟩, e⟩, fun ⟨⟨a, b, c, d, g⟩, e⟩ => ⟨a, b, c, d, e, g⟩⟩
  constructor
  · intro flood moved
    let counted : State := { v with bus := { v.bus with relayedCopies := bump v.bus.relayedCopies } }
    have relays : t = counted.request (otherPort p) cls key
        (.fixed ⟨cls, f.hop - 1, s.cfg.nodeNumber, f.origin, f.payload⟩) := by
      rw [← keys, ← cfg]
      exact if_pos (opens.mpr ⟨flood, moved⟩)
    refine ⟨?_, ?_, relayed_changes p cls f (v, changed)⟩
    · rw [relays, State.request_changes _ _ _ _ _ .bus (by decide), ← bus]
    · rw [relays, State.request_ports, State.request_ports]
  · intro still
    exact if_neg fun h => by
      obtain ⟨flood, moved⟩ := opens.mp h
      exact still.elim (absurd flood) (absurd moved)

/-! ### The keys of relayed frames -/

theorem PointKind.code_ofCode {n : Nat} {k : PointKind} (h : PointKind.ofCode n = some k) : k.code = n := by
  unfold PointKind.ofCode at h
  split at h
  · cases h
    rfl
  · cases h
    rfl
  · cases h

theorem relayKey_zone {f : RxFrame} {z : ZonePayload} (parsed : parseZone f.payload = some z) :
    relayKey .zone f = .zoneReport f.origin z.number := by
  unfold parseZone at parsed
  split at parsed
  · rename_i payload
    split at parsed
    · obtain ⟨state, -, rfl⟩ := Option.map_eq_some_iff.mp parsed
      unfold relayKey
      rw [payload]
    · cases parsed
  · cases parsed

theorem relayKey_reassign {f : RxFrame} {r : ReassignPayload} (parsed : parseReassign f.payload = some r) :
    relayKey .reassign f = .place r.zone r.kind.code := by
  unfold parseReassign at parsed
  split at parsed
  · rename_i payload
    split at parsed
    · obtain ⟨kind, code, rfl⟩ := Option.map_eq_some_iff.mp parsed
      unfold relayKey
      rw [payload, PointKind.code_ofCode code]
    · cases parsed
  · cases parsed

theorem relayKey_item {f : RxFrame} {i : ItemPayload} (parsed : parseItem f.payload = some i) :
    relayKey .item f = .itemId i.record.id := by
  unfold parseItem at parsed
  split at parsed
  · rename_i payload
    split at parsed
    · split at parsed
      · cases parsed
        unfold relayKey
        rw [payload]
        rfl
      · cases parsed
    · cases parsed
  · cases parsed

theorem relayKey_withdraw {f : RxFrame} {w : Tombstone} (parsed : parseWithdraw f.payload = some w) :
    relayKey .withdraw f = .itemId w.id := by
  unfold parseWithdraw at parsed
  split at parsed
  · rename_i payload
    split at parsed
    · cases parsed
    · cases parsed
      unfold relayKey
      rw [payload]
  · cases parsed

/-- Settles O21: for each flood class what the owning block calls a change is a move of what it holds, and the relay
is the same. -/
theorem floodFramesRelayed : Obligations.FloodFramesRelayed := by
  unfold Obligations.FloodFramesRelayed
  intro p f s hears reports reassignments programme heard floods relays
  have running : (s.heard p).running = true := (s.heard_running p).trans hears.2.1
  have loaded := State.loaded_of_running running
  have alarm := s.heard_alarm p
  have prog := s.heard_prog p
  have cfg := s.heard_cfg p
  have bus : (s.heard p).bus = s.bus := s.heard_changes p .bus (by decide)
  refine ⟨fun a parsed => ?_, fun z parsed => ?_, fun r parsed => ?_, fun i parsed => ?_, fun w parsed => ?_⟩
  · let took := (s.heard p).takeAlarmFrame f.origin a
    have marked := State.hearAlarm_changes took.1 p a
    have only : OnlyChanges _ (s.heard p) (took.1.hearAlarm p a) :=
      (State.takeAlarmFrame_changes (s.heard p) f.origin a).andThen marked
        (c := [.alarm, .start, .route, .ports, .cabin, .muster, .trig, .panel, .ind, .page])
    have standing := (((s.heard p).takeAlarmFrame_work f.origin a).trans (State.hearAlarm_work took.1 p a)).sameStanding
    have side := ((s.heard p).takeAlarmFrame_sameFaultSide f.origin a).trans (took.1.hearAlarm_sameFaultSide p a)
    have flag : took.2 = true ↔ (took.1.hearAlarm p a).alarm.epoch ≠ s.alarm.epoch ∨
        (took.1.hearAlarm p a).alarm.level ≠ s.alarm.level := by
      rw [marked .alarm (by decide), ← alarm]
      exact State.takeAlarmFrame_changed loaded a
    have stays := (only .bus (by decide)).trans bus
    exact ⟨stays, _, congrArg Host.Outcome.next (State.receive_eq hears (classHandler_alarm parsed)),
      relayed_outcome (standing.cfg.trans cfg) side stays rfl flag⟩
  · let took := (s.heard p).takeZoneFrame f.origin z
    have marked := State.hearZone_changes took.1 p f.origin z
    have only : OnlyChanges _ (s.heard p) (took.1.hearZone p f.origin z) :=
      (State.takeZoneFrame_changes (s.heard p) f.origin z).andThen marked
        (c := [.alarm, .start, .route, .ports, .muster, .trig, .page, .panel])
    have standing := (((s.heard p).takeZoneFrame_work f.origin z (steady := true)).trans
      (State.hearZone_work took.1 p f.origin z)).sameStanding
    have side := ((s.heard p).takeZoneFrame_sameFaultSide f.origin z).trans
      (took.1.hearZone_sameFaultSide p f.origin z)
    have flag : took.2 = true ↔ (took.1.hearZone p f.origin z).alarm.reports ≠ s.alarm.reports := by
      rw [marked .alarm (by decide), ← alarm]
      exact State.takeZoneFrame_changed running (by rw [State.reportLaw, alarm]; exact reports) z
    have handled : classHandler p .zone f = some (fun s => relayed p .zone f
        ((s.takeZoneFrame f.origin z).1.hearZone p f.origin z, (s.takeZoneFrame f.origin z).2)) := by
      simp only [classHandler, parsed, Option.map_some]
    have stays := (only .bus (by decide)).trans bus
    exact ⟨stays, _, congrArg Host.Outcome.next (State.receive_eq hears handled),
      relayed_outcome (standing.cfg.trans cfg) side stays (relayKey_zone parsed) flag⟩
  · let took := (s.heard p).takeReassignFrame f.origin r
    have marked := State.hearReassign_changes took.1 p r
    have only : OnlyChanges _ (s.heard p) (took.1.hearReassign p r) :=
      (State.takeReassignFrame_changes (s.heard p) f.origin r).andThen marked
        (c := [.alarm, .start, .muster, .page, .panel])
    have standing := (((s.heard p).takeReassignFrame_work f.origin r (steady := true)).trans
      (State.hearReassign_work took.1 p r)).sameStanding
    have side := ((s.heard p).takeReassignFrame_sameFaultSide f.origin r).trans
      (took.1.hearReassign_sameFaultSide p r)
    have flag : took.2 = true ↔ (took.1.hearReassign p r).alarm.reassignments ≠ s.alarm.reassignments := by
      rw [marked .alarm (by decide), ← alarm]
      exact State.takeReassignFrame_changed running (by rw [State.reassignLaw, alarm]; exact reassignments) r
    have handled : classHandler p .reassign f = some (fun s => relayed p .reassign f
        ((s.takeReassignFrame f.origin r).1.hearReassign p r, (s.takeReassignFrame f.origin r).2)) := by
      simp only [classHandler, parsed, Option.map_some]
    have stays := (only .bus (by decide)).trans bus
    exact ⟨stays, _, congrArg Host.Outcome.next (State.receive_eq hears handled),
      relayed_outcome (standing.cfg.trans cfg) side stays (relayKey_reassign parsed) flag⟩
  · have law : s.prog.Lawful := s.programmeLaw_iff.mp programme
    obtain ⟨items, tombs, spots, -⟩ := i.noted_same s.prog
    have only := State.takeItemFrame_changes (s.heard p) i
    have standing := ((s.heard p).takeItemFrame_work i (steady := true)).sameStanding
    have flag : ((s.heard p).takeItemFrame i).2 = true ↔
        ((s.heard p).takeItemFrame i).1.prog.items ≠ s.prog.items := by
      obtain ⟨store, changed⟩ := State.takeItemFrame_takes running i
      rw [store, changed, prog, cfg, ← items]
      exact ProgrammeStore.takeItem_changed (law.same items tombs spots) s.cfg i.record
    have handled : classHandler p .item f = some (fun s => relayed p .item f (s.takeItemFrame i)) := by
      simp only [classHandler, parsed, Option.map_some]
    have stays := (only .bus (by decide)).trans bus
    exact ⟨stays, _, congrArg Host.Outcome.next (State.receive_eq hears handled),
      relayed_outcome (standing.cfg.trans cfg) ((s.heard p).takeItemFrame_sameFaultSide i) stays
        (relayKey_item parsed) flag⟩
  · have law : s.prog.Lawful := s.programmeLaw_iff.mp programme
    obtain ⟨tombs, -⟩ := ProgrammeStore.withdrawItem_rest w s.prog
    obtain ⟨items, -⟩ := ProgrammeStore.withdrawTombstone_rest w (s.prog.withdrawItem w).1
    have only := State.takeWithdrawFrame_changes (s.heard p) w
    have standing := ((s.heard p).takeWithdrawFrame_work w (steady := true)).sameStanding
    have flag : ((s.heard p).takeWithdrawFrame w).2 = true ↔
        ((s.heard p).takeWithdrawFrame w).1.prog.items ≠ s.prog.items ∨
          ((s.heard p).takeWithdrawFrame w).1.prog.tombstones ≠ s.prog.tombstones := by
      rw [State.takeWithdrawFrame_prog running, State.takeWithdrawFrame_takes running, prog, items]
      dsimp only
      rw [Bool.or_eq_true, ProgrammeStore.withdrawItem_changed,
        ProgrammeStore.withdrawTombstone_changed (law.withdrawItem w).1, tombs]
    have handled : classHandler p .withdraw f = some (fun s => relayed p .withdraw f (s.takeWithdrawFrame w)) := by
      simp only [classHandler, parsed, Option.map_some]
    have stays := (only .bus (by decide)).trans bus
    exact ⟨stays, _, congrArg Host.Outcome.next (State.receive_eq hears handled),
      relayed_outcome (standing.cfg.trans cfg) ((s.heard p).takeWithdrawFrame_sameFaultSide w) stays
        (relayKey_withdraw parsed) flag⟩

end Sys2Proof.Machine

/-! ### The muster record (R47, R51 to R56) -/

namespace Sys2Proof.Machine

/-! ### What candidates are weighed by -/

/-- Two states that name, weigh and choose candidates alike. -/
structure SameCandidates (s t : State) : Prop where
  cfg : t.cfg = s.cfg
  alarm : t.alarm = s.alarm
  route : t.route = s.route

section
variable {s t : State} (h : SameCandidates s t)
include h

theorem SameCandidates.routeEntry : t.routeEntry = s.routeEntry := by
  funext d
  rw [State.routeEntry, State.routeEntry, h.route]

theorem SameCandidates.orderedDest : t.orderedDest = s.orderedDest := by
  funext k
  unfold State.orderedDest State.reassignment
  rw [h.alarm, h.cfg]

theorem SameCandidates.rankOf : t.rankOf = s.rankOf := by
  funext k d
  unfold State.rankOf
  rw [h.orderedDest, h.cfg, h.routeEntry]

theorem SameCandidates.eligible : t.eligible = s.eligible := by
  funext d
  unfold State.eligible State.labelOf State.zoneAt
  rw [h.routeEntry, h.cfg, h.alarm]

theorem SameCandidates.bestCandidate : t.bestCandidate = s.bestCandidate := by
  have candidate : t.candidateOf = s.candidateOf := by
    funext k d
    unfold State.candidateOf
    rw [h.rankOf, h.routeEntry]
  funext k admits
  unfold State.bestCandidate State.candidateDests
  rw [h.orderedDest, h.cfg, h.route, candidate, h.eligible]

/-- A review depends on the candidates, the clock and the record. -/
theorem SameCandidates.review (clock : t.clock = s.clock) (muster : t.muster = s.muster) : t.review = s.review := by
  unfold State.review State.reviewEligible State.maintainPending
  rw [h.bestCandidate, h.eligible, h.rankOf, h.cfg, clock, muster]

end

theorem SameCandidates.trans {s t u : State} (h : SameCandidates s t) (k : SameCandidates t u) : SameCandidates s u :=
  ⟨k.cfg.trans h.cfg, k.alarm.trans h.alarm, k.route.trans h.route⟩

/-- A change outside the start block, the alarm state unit and the route engine. -/
theorem OnlyChanges.sameCandidates {a : List Block} {s t : State} (h : OnlyChanges a s t)
    (off : Block.within a [.clock, .ports, .bus, .time, .muster, .prog, .cabin, .trig, .page, .panel, .ind,
      .status, .pins, .pending] = true := by rfl) : SameCandidates s t :=
  ⟨(h.widen off).cfg_eq (by decide), (h.widen off) .alarm (by decide), (h.widen off) .route (by decide)⟩

theorem State.bestCandidate_admits {s : State} {k : PointKind} {admits : Candidate → Bool} {c : Candidate}
    (h : s.bestCandidate k admits = some c) : admits c = true :=
  (Bool.and_eq_true_iff.mp (List.mem_filter.mp (leastBy_mem h)).2).2

/-! ### The cases of a review (R52 to R55) -/

section
variable {s : State} {k : PointKind} {d : Nat}

theorem State.review_none (kind : s.muster.kind = some k) (target : s.muster.dest = none) :
    s.review = s.muster.pointAt (s.bestCandidate k (fun _ => true)) := by
  unfold State.review
  rw [kind, target]

theorem State.review_lost (kind : s.muster.kind = some k) (target : s.muster.dest = some d)
    (lost : s.eligible d = false) : s.review =
      { s.muster.dropPending with switchesOnLoss := bump s.muster.switchesOnLoss }.pointAt
        (s.bestCandidate k (fun _ => true)) := by
  unfold State.review
  rw [kind, target]
  exact if_neg (by rw [lost]; exact Bool.false_ne_true)

theorem State.review_eligible (kind : s.muster.kind = some k) (target : s.muster.dest = some d)
    (eligible : s.eligible d = true) : s.review = s.reviewEligible k d := by
  unfold State.review
  rw [kind, target]
  exact if_pos eligible

/-- An eligible order for another destination is let over (R53). -/
theorem State.reviewEligible_ordered {c : Candidate}
    (ordered : s.bestCandidate k (fun c => decide (c.rank = .r0)) = some c) (other : c.dest ≠ d) :
    s.reviewEligible k d = { s.muster with
      dest := some c.dest, rank := some .r0
      candidate := none, candidateRank := none, returnDeadline := none } := by
  have rank : c.rank = .r0 := of_decide_eq_true (State.bestCandidate_admits (admits := fun c => decide (c.rank = .r0)) ordered)
  unfold State.reviewEligible
  rw [ordered]
  refine (if_neg other).trans ?_
  rw [← rank]
  rfl

theorem State.reviewEligible_maintains
    (unordered : ∀ c, s.bestCandidate k (fun c => decide (c.rank = .r0)) = some c → c.dest = d) :
    s.reviewEligible k d = s.maintainPending k { s.muster with rank := some (s.rankOf k d) } (s.rankOf k d) := by
  unfold State.reviewEligible
  dsimp only
  split
  · rename_i c ordered
    exact if_pos (unordered c ordered)
  · rfl

variable {m : MusterSelector} {rank : MusterRank}

theorem State.maintainPending_none (best : s.bestCandidate k (fun c => decide (c.rank.code < rank.code)) = none) :
    s.maintainPending k m rank = m.dropPending := by
  unfold State.maintainPending
  rw [best]

theorem State.maintainPending_kept {c : Candidate}
    (best : s.bestCandidate k (fun c => decide (c.rank.code < rank.code)) = some c)
    (held : m.candidate = some c.dest) : s.maintainPending k m rank = { m with candidateRank := some c.rank } := by
  unfold State.maintainPending
  rw [best]
  exact if_pos held

theorem State.maintainPending_taken {c : Candidate}
    (best : s.bestCandidate k (fun c => decide (c.rank.code < rank.code)) = some c)
    (other : m.candidate ≠ some c.dest) :
    s.maintainPending k m rank =
      if s.cfg.returnDelay = 0 then
        MusterSelector.makeReturn { m with
          candidate := some c.dest
          candidateRank := some c.rank
          returnDeadline := some (s.clock + s.cfg.returnDelay * 1000) }
      else { m with
        candidate := some c.dest
        candidateRank := some c.rank
        returnDeadline := some (s.clock + s.cfg.returnDelay * 1000) } := by
  unfold State.maintainPending
  rw [best]
  exact if_neg other

end

/-! ### The notices that reach the record -/

theorem State.takeMuster_muster (s : State) (m : MusterSelector) : (s.takeMuster m).muster = m := by
  unfold State.takeMuster
  dsimp only
  split
  · rfl
  · exact ((State.pageNotice_changes _ _).andThen (State.panelDo_changes _ _) (c := [.page, .panel])) .muster (by decide)

theorem PanelCtl.takeUrgency_kind (e : PanelEnv) (p : PanelCtl) : (p.takeUrgency e).kind = p.kind :=
  (PanelCtl.takeUrgency_sameFailure e p).1

/-- A new target is shown (R56). -/
theorem State.takeMuster_shown {s : State} {m : MusterSelector} (moved : ¬(s.muster.kind = m.kind ∧ s.muster.dest = m.dest)) :
    (s.takeMuster m).shown := by
  unfold State.takeMuster
  rw [if_neg moved]
  let u := (s.musterDo fun _ => m).pageNotice .musterTarget
  have kind : (u.panelDo fun e p => p.takeUrgency e).panel.kind = u.panel.kind := PanelCtl.takeUrgency_kind _ _
  exact State.shown_congr (s := u) rfl rfl rfl rfl rfl rfl rfl rfl kind (State.finishPage_shown _ _ _)

theorem State.freshSelection_congr {s t : State} (h : SameCandidates s t) (muster : t.muster = s.muster)
    (after : Level) : t.freshSelection after = s.freshSelection after := by
  cases after <;> simp only [State.freshSelection, muster, h.bestCandidate]

/-- At a running node the record after an alarm notice is a fresh selection from the candidates as they then stand
(R51). -/
theorem State.alarmNotice_muster {s : State} (running : s.running = true) (before after : Level)
    (event : SweepEvent) : ∃ c : State, (s.alarmNotice before after event).muster = c.freshSelection after ∧
      SameCandidates c (s.alarmNotice before after event) := by
  have rest (u : State) : OnlyChanges [.trig, .panel, .ind, .page] (u.musterTakesAlarm after)
      (((((u.musterTakesAlarm after).triggerTakesAlarm before after).panelDo
        (fun e p => p.takeAlarm e before after)).indicatorTakes after).pageTakesAlarm after) :=
    (((State.triggerTakesAlarm_changes _ _ _).andThen (State.panelDo_changes _ _) (c := [.trig, .page, .panel])).andThen
      (State.indicatorTakes_changes _ _) (c := [.trig, .panel, .ind, .page])).andThen (State.pageTakesAlarm_changes _ _)
  have told (u : State) : ∃ c : State, (((((u.musterTakesAlarm after).triggerTakesAlarm before after).panelDo
        (fun e p => p.takeAlarm e before after)).indicatorTakes after).pageTakesAlarm after).muster =
          c.freshSelection after ∧
      SameCandidates c (((((u.musterTakesAlarm after).triggerTakesAlarm before after).panelDo
        (fun e p => p.takeAlarm e before after)).indicatorTakes after).pageTakesAlarm after) :=
    ⟨u, ((rest u) .muster (by decide)).trans (u.takeMuster_muster _),
      (u.musterTakesAlarm_changes after).sameCandidates.trans (rest u).sameCandidates⟩
  unfold State.alarmNotice
  split
  · rename_i loading
    rw [State.running, loading] at running
    exact nomatch running
  · rename_i fault
    rw [State.running, fault] at running
    exact nomatch running
  · exact told _
  · exact told _

/-- What a fresh selection holds (R47, R51). -/
theorem State.freshSelection_holds (s : State) (after : Level) :
    let m := s.freshSelection after
    m.candidate = none ∧ m.candidateRank = none ∧ m.returnDeadline = none ∧ m.kind = musterKindFor after ∧
      (after.emergency = false → m.dest = none ∧ m.rank = none) ∧
      ∀ k, musterKindFor after = some k →
        m.dest = (s.bestCandidate k (fun _ => true)).map (fun c => c.dest) ∧
        m.rank = (s.bestCandidate k (fun _ => true)).map (fun c => c.rank) := by
  cases after with
  | normal => exact ⟨rfl, rfl, rfl, rfl, fun _ => ⟨rfl, rfl⟩, nofun⟩
  | alert => exact ⟨rfl, rfl, rfl, rfl, fun _ => ⟨rfl, rfl⟩, nofun⟩
  | general =>
    refine ⟨rfl, rfl, rfl, rfl, nofun, ?_⟩
    rintro k ⟨⟩
    exact ⟨rfl, rfl⟩
  | abandon =>
    refine ⟨rfl, rfl, rfl, rfl, nofun, ?_⟩
    rintro k ⟨⟩
    exact ⟨rfl, rfl⟩

/-- The review of a zone change follows the one of its re-evaluation, where that moved a route (R27, R40). -/
theorem State.zoneChanged_muster (s : State) :
    let review (m : MusterSelector) : MusterSelector := { s.zoneChanged with muster := m }.review
    s.zoneChanged.muster = review s.muster ∨ s.zoneChanged.muster = review (review s.muster) := by
  let v := s.reevaluateAll
  have evaluated : OnlyChanges [.route, .ports] s v := s.reevaluateAll_changes
  have told := v.routeNotices_changes s.route.entries []
  have reviewed := s.reevaluateAllEvent.musterReview_changes
  have last : OnlyChanges [.muster, .trig, .page, .panel] v s.zoneChanged := told.andThen reviewed
  -- A review made anywhere on the way weighs the candidates as the end does.
  have asEnd {w : State} (only : OnlyChanges [.muster, .trig, .page, .panel] v w) :
      w.review = ({ s.zoneChanged with muster := w.muster } : State).review := by
    refine (SameCandidates.review (s := w) (t := { s.zoneChanged with muster := w.muster }) ⟨?_, ?_, ?_⟩ ?_ rfl).symm
    · exact (last.cfg_eq (by decide)).trans (only.cfg_eq (by decide)).symm
    · exact (last .alarm (by decide)).trans (only .alarm (by decide)).symm
    · exact (last .route (by decide)).trans (only .route (by decide)).symm
    · exact (last .clock (by decide)).trans (only .clock (by decide)).symm
  have final : s.zoneChanged.muster = (v.routeNotices s.route.entries []).review := s.reevaluateAllEvent.takeMuster_muster _
  have muster : v.muster = s.muster := evaluated .muster (by decide)
  have between : (v.routeNotices s.route.entries []).muster = s.muster ∨
      (v.routeNotices s.route.entries []).muster = v.review := by
    have page (w : State) : (w.pageNotice .route).muster = w.muster := w.pageNotice_changes .route .muster (by decide)
    have cascaded (os : List Occurrence) : (v.musterReview.cascades os).muster = v.review :=
      (State.cascades_changes _ _ .muster (by decide)).trans (v.takeMuster_muster _)
    unfold State.routeNotices
    dsimp only
    split
    · split
      · exact .inl muster
      · exact .inr (cascaded _)
    · rw [page]
      split
      · exact .inl muster
      · exact .inr (cascaded _)
  dsimp only
  rw [final, asEnd told]
  rcases between with same | moved
  · exact .inl (by rw [same])
  · refine .inr ?_
    rw [moved, asEnd (.refl _ v), muster]

/-! ### The frames that reach the record -/

section
variable {s : State} {origin : Nat}

theorem State.takeZoneFrame_unchanged {z : ZonePayload} (still : (s.takeZoneFrame origin z).2 = false) :
    OnlyChanges [.alarm] s (s.takeZoneFrame origin z).1 := by
  revert still
  unfold State.takeZoneFrame State.storeOverFull
  split
  · dsimp only
    split
    · split
      · exact nofun
      · exact fun _ => .refl _ s
    · split
      · exact nofun
      · split
        · exact fun _ => s.alarmDo_changes _
        · exact nofun
  · exact fun _ => .refl _ s

theorem State.takeReassignFrame_unchanged {r : ReassignPayload} (still : (s.takeReassignFrame origin r).2 = false) :
    OnlyChanges [.alarm] s (s.takeReassignFrame origin r).1 := by
  revert still
  unfold State.takeReassignFrame
  split
  · split
    · split
      · exact nofun
      · split
        · exact nofun
        · exact fun _ => .refl _ s
    · exact fun _ => s.alarmDo_changes _
  · exact fun _ => .refl _ s

/-- A record of another zone or kind brings no review (R44, R52). -/
theorem State.acceptReassign_unreviewed {r : ReassignPayload}
    (other : r.zone ≠ s.cfg.zone ∨ s.muster.kind ≠ some r.kind) : (s.acceptReassign origin r).muster = s.muster := by
  unfold State.acceptReassign State.musterTakesReassignment
  rw [State.mapSchedules_cfg, State.alarmDo_cfg]
  split
  · rename_i h
    exact other.elim (absurd h.1) (absurd h.2)
  · rfl

end

theorem exec_returnDeadline {s : State} {d : Nat} (running : s.running = true)
    (deadline : s.muster.returnDeadline = some d) (now : d ≤ s.clock) :
    exec .returnDeadline s = .next s.musterReturn :=
  congrArg Host.Outcome.next (if_pos (by rw [running, deadline]; exact due_some.mpr now))

/-- Settles O37: the cases of a review in turn, then what brings a fresh selection, a review or a return. -/
theorem musterFollows : Obligations.MusterFollows := by
  unfold Obligations.MusterFollows
  refine ⟨?_, ?_, ?_, ?_, ?_⟩
  · intro s k kind m all ordered
    refine ⟨State.review_none kind, fun d target lost => ?_, fun d target eligible => ?_⟩
    · rw [State.review_lost kind target lost]
      rfl
    · rw [State.review_eligible kind target eligible]
      refine ⟨fun c order other => State.reviewEligible_ordered order other, fun unordered => ?_⟩
      rw [State.reviewEligible_maintains unordered]
      refine ⟨fun none => State.maintainPending_none none, fun c best => ⟨fun held => ?_, fun other => ?_⟩⟩
      · exact State.maintainPending_kept best held
      · have taken := State.maintainPending_taken (m := { m with rank := some (s.rankOf k d) }) best other
        exact ⟨fun later => taken.trans (if_neg later), fun now => taken.trans (if_pos now)⟩
  · intro p f a s hears parsed change
    have running : (s.heard p).running = true := (s.heard_running p).trans hears.2.1
    have loaded := State.loaded_of_running running
    have alarm := s.heard_alarm p
    obtain ⟨newEpoch, took⟩ : ∃ newEpoch, (s.heard p).takeAlarmFrame f.origin a =
        ((s.heard p).acceptAlarm f.origin a newEpoch, true) := by
      rcases change with none | new | ⟨same, rises⟩
      · exact ⟨_, State.takeAlarmFrame_newEpoch f.origin loaded (.inl (alarm ▸ none))⟩
      · exact ⟨_, State.takeAlarmFrame_newEpoch f.origin loaded (.inr (alarm ▸ new))⟩
      · exact ⟨_, State.takeAlarmFrame_rose f.origin loaded (alarm ▸ same) (alarm ▸ rises)⟩
    have runs : ((s.heard p).changeAlarm f.origin a newEpoch).running = true :=
      (State.changeAlarm_rest (s.heard p) f.origin a newEpoch (steady := true)).sameStanding.running.trans running
    obtain ⟨c, selected, alike⟩ := State.alarmNotice_muster runs (s.heard p).alarm.level a.level
      (sweepEventOf newEpoch (s.heard p).alarm.level a.level)
    have rest := (s.heard p).afterAlarm_rest p f a
    have standing := (s.heard p).afterAlarm_standing p f a
    rw [took] at rest standing
    have muster : ((s.heard p).afterAlarm p f a).muster = c.freshSelection a.level :=
      (rest .muster (by decide)).trans selected
    have best : ((s.heard p).afterAlarm p f a).bestCandidate = c.bestCandidate :=
      (alike.trans ⟨standing.cfg, rest .alarm (by decide), rest .route (by decide)⟩).bestCandidate
    refine ⟨_, congrArg Host.Outcome.next (State.receive_eq hears (classHandler_alarm parsed)), ?_⟩
    rw [muster, best]
    exact c.freshSelection_holds a.level
  · intro p f r s hears parsed
    let took := (s.heard p).takeReassignFrame f.origin r
    have handled : classHandler p .reassign f = some (fun s => relayed p .reassign f
        ((s.takeReassignFrame f.origin r).1.hearReassign p r, (s.takeReassignFrame f.origin r).2)) := by
      simp only [classHandler, parsed, Option.map_some]
    have running : (s.heard p).running = true := (s.heard_running p).trans hears.2.1
    have alarm := s.heard_alarm p
    have heard := s.heard_changes p
    let t := relayed p .reassign f (took.1.hearReassign p r, took.2)
    have rest : OnlyChanges [.start, .bus, .ports] took.1 t :=
      (State.hearReassign_changes took.1 p r).andThen (relayed_changes _ _ _ _)
    have standing : SameStanding took.1 t := ((State.hearReassign_work took.1 p r (steady := true)).trans
      (State.relay_work _ _ _ _ _)).sameStanding
    have record : t.alarm = took.1.alarm := rest .alarm (by decide)
    have muster : t.muster = took.1.muster := rest .muster (by decide)
    refine ⟨t, congrArg Host.Outcome.next (State.receive_eq hears handled), fun moved zone kind => ?_,
      fun still law => ?_⟩
    · rcases (s.heard p).takeReassignFrame_cases f.origin r with ⟨n, eq⟩ | ⟨-, -, eq⟩
      · refine absurd ?_ moved
        rw [record, eq, State.alarmDo_alarm, alarm]
      · let v := (((s.heard p).alarmDo fun u =>
          { u with reassignments := storeReassignment (r.record f.origin) u.reassignments }).mapSchedules
            (Schedule.unmarkPlace (r.zone, r.kind)))
        have before : SameStanding (s.heard p) v := ((State.alarmDo_changes (s.heard p) _).sameStanding).trans
          (State.mapSchedules_work _ _ (steady := true)).sameStanding
        have accepted : took.1 = v.musterReview := by
          rw [eq]
          refine if_pos ⟨?_, ?_⟩
          · rw [before.cfg, s.heard_cfg p]
            exact zone
          · exact (congrArg _ (heard .muster (by decide))).trans kind
        have vMuster : v.muster = s.muster := heard .muster (by decide)
        have reviewed := v.musterReview_changes
        rw [← accepted] at reviewed
        rw [muster, accepted, State.musterReview, State.takeMuster_muster]
        refine (SameCandidates.review (t := { t with muster := s.muster }) ⟨?_, ?_, ?_⟩ ?_ vMuster.symm).symm
        · exact standing.cfg.trans (reviewed.cfg_eq (by decide))
        · exact record.trans (reviewed .alarm (by decide))
        · exact (rest .route (by decide)).trans (reviewed .route (by decide))
        · exact (rest .clock (by decide)).trans (reviewed .clock (by decide))
    · have law' : (s.heard p).reassignLaw := by
        rw [State.reassignLaw, alarm]
        exact law
      rw [muster, ← (heard .muster (by decide) : (s.heard p).muster = s.muster)]
      by_cases same : t.alarm.reassignments = s.alarm.reassignments
      · have unchanged : took.2 = false := by
          rw [← Bool.not_eq_true, State.takeReassignFrame_changed running law' r, Classical.not_not, alarm, ← record]
          exact same
        exact State.takeReassignFrame_unchanged unchanged .muster (by decide)
      · rcases (s.heard p).takeReassignFrame_cases f.origin r with ⟨n, eq⟩ | ⟨-, -, eq⟩
        · rw [eq]
          rfl
        · rw [eq, State.acceptReassign_unreviewed]
          rw [s.heard_cfg p, (heard .muster (by decide) : (s.heard p).muster = s.muster)]
          exact still.resolve_left same
  · intro p f z s hears parsed law
    let took := (s.heard p).takeZoneFrame f.origin z
    have handled : classHandler p .zone f = some (fun s => relayed p .zone f
        ((s.takeZoneFrame f.origin z).1.hearZone p f.origin z, (s.takeZoneFrame f.origin z).2)) := by
      simp only [classHandler, parsed, Option.map_some]
    have running : (s.heard p).running = true := (s.heard_running p).trans hears.2.1
    have alarm := s.heard_alarm p
    have heard := s.heard_changes p
    let t := relayed p .zone f (took.1.hearZone p f.origin z, took.2)
    have rest : OnlyChanges [.start, .bus, .ports] took.1 t :=
      (State.hearZone_changes took.1 p f.origin z).andThen (relayed_changes _ _ _ _)
    have standing : SameStanding took.1 t := ((State.hearZone_work took.1 p f.origin z (steady := true)).trans
      (State.relay_work _ _ _ _ _)).sameStanding
    have record : t.alarm = took.1.alarm := rest .alarm (by decide)
    have muster : t.muster = took.1.muster := rest .muster (by decide)
    refine ⟨t, congrArg Host.Outcome.next (State.receive_eq hears handled), fun moved => ?_, fun still => ?_⟩
    · rcases (s.heard p).takeZoneFrame_cases f.origin z with ⟨n, eq⟩ | ⟨-, v, l, n, only, -, -, -, eq⟩
      · refine absurd ?_ moved
        rw [record, eq, State.alarmDo_alarm, alarm]
      · have vMuster : v.muster = s.muster := (only .muster (by decide)).trans (heard .muster (by decide))
        have cfg : took.1.cfg = v.zoneChanged.cfg := congrArg State.cfg eq
        have alarms : took.1.alarm = v.zoneChanged.alarm := congrArg State.alarm eq
        have routes : took.1.route = v.zoneChanged.route := congrArg State.route eq
        have clocks : took.1.clock = v.zoneChanged.clock := congrArg State.clock eq
        have alike (m : MusterSelector) :
            ({ t with muster := m } : State).review = ({ v.zoneChanged with muster := m } : State).review :=
          SameCandidates.review (s := { v.zoneChanged with muster := m }) (t := { t with muster := m })
            ⟨standing.cfg.trans cfg, record.trans alarms, (rest .route (by decide)).trans routes⟩
            ((rest .clock (by decide)).trans clocks) rfl
        have reviewed := v.zoneChanged_muster
        dsimp only at reviewed ⊢
        rw [muster, alike, alike, ← vMuster, (congrArg _ eq : took.1.muster = v.zoneChanged.muster)]
        exact reviewed
    · have unchanged : took.2 = false := by
        have law' : (s.heard p).reportLaw := by
          rw [State.reportLaw, alarm]
          exact law
        rw [← Bool.not_eq_true, State.takeZoneFrame_changed running law' z, Classical.not_not, alarm, ← record]
        exact still
      rw [muster, ← (heard .muster (by decide) : (s.heard p).muster = s.muster)]
      exact State.takeZoneFrame_unchanged unchanged .muster (by decide)
  · intro s d running deadline now
    refine ⟨_, exec_returnDeadline running deadline now, s.takeMuster_muster _, fun moved => ?_, fun same => ?_,
      s.musterReturn_changes⟩
    · exact State.takeMuster_shown fun h => moved h.2
    · have still : s.musterReturn = s.musterDo fun _ => s.muster.makeReturn := if_pos ⟨rfl, same⟩
      rw [still]
      exact s.musterDo_changes _

end Sys2Proof.Machine

/-! ### Octets of frames: numbers, the check, and what a receiver reads (R155, R164) -/

namespace Sys2Proof.Machine

theorem toNat_octet {n : Nat} (small : n < 256) : (BitVec.ofNat 8 n).toNat = n := by
  rw [BitVec.toNat_ofNat]; exact Nat.mod_eq_of_lt small

theorem octets2_eq_pair (n : Nat) (hi lo : Byte) : octets2 n = [hi, lo] ↔ n % 65536 = word16 hi lo := by
  have high := hi.isLt
  have low := lo.isLt
  simp only [octets2, word16, List.cons.injEq, ← BitVec.toNat_inj, BitVec.toNat_ofNat, and_true]
  omega

theorem word16_octets {n : Nat} (small : n < 65536) : word16 (BitVec.ofNat 8 (n / 256)) (BitVec.ofNat 8 n) = n :=
  ((octets2_eq_pair n _ _).mp rfl).symm.trans (Nat.mod_eq_of_lt small)

theorem word24_octets {n : Nat} (small : n < 16777216) :
    word24 (BitVec.ofNat 8 (n / 65536)) (BitVec.ofNat 8 (n / 256)) (BitVec.ofNat 8 n) = n := by
  simp only [word24, BitVec.toNat_ofNat]; omega

theorem word32_octets {n : Nat} (small : n < 4294967296) :
    word32 (BitVec.ofNat 8 (n / 16777216)) (BitVec.ofNat 8 (n / 65536)) (BitVec.ofNat 8 (n / 256))
      (BitVec.ofNat 8 n) = n := by
  simp only [word32, BitVec.toNat_ofNat]; omega

theorem FrameClass.ofCode_code (c : FrameClass) : FrameClass.ofCode c.code = some c := by cases c <;> rfl

theorem FrameClass.ofCode_eq_none {n : Nat} : FrameClass.ofCode n = none ↔ 12 < n := by
  by_cases known : n < 13
  · revert n
    decide
  · refine iff_of_true ?_ (by omega)
    unfold FrameClass.ofCode
    split <;> first | rfl | (simp at known)

/-! ### The CRC, bit by bit -/

/-- One step of the CRC of polynomial 0x1021 on one bit of the message. -/
def crcBit (c : BitVec 16) (b : Bool) : BitVec 16 := (c <<< 1) ^^^ (if c.msb = b then 0#16 else 0x1021#16)

/-- Bits that lie ahead in the register count when they reach its top: the CRC is linear. -/
theorem crcShift_xor (c w : BitVec 16) : crcShift (c ^^^ w) = crcBit c w.msb ^^^ (w <<< 1) := by
  unfold crcShift crcBit
  rw [BitVec.msb_xor, BitVec.shiftLeft_xor_distrib]
  cases c.msb <;> cases w.msb <;> simp [BitVec.xor_assoc, BitVec.xor_comm (w <<< 1)]

theorem crcOctet_bits (c : BitVec 16) (o : Byte) :
    crcOctet c o = ([7, 6, 5, 4, 3, 2, 1, 0].map o.getLsbD).foldl crcBit c := by
  have bit (i : Nat) (le : i ≤ 7) : (o.setWidth 16 <<< 8 <<< i).msb = o.getLsbD (7 - i) := by
    rw [BitVec.msb_eq_getLsbD_last, BitVec.getLsbD_shiftLeft, BitVec.getLsbD_shiftLeft, BitVec.getLsbD_setWidth]
    rw [show 16 - 1 - i - 8 = 7 - i by omega]
    simp only [decide_true, Bool.true_and, show 16 - 1 < 16 by omega, show ¬16 - 1 < i by omega, show ¬16 - 1 - i < 8 by omega,
      show 16 - 1 - i < 16 by omega, show 7 - i < 16 by omega, decide_false, Bool.not_false, Bool.and_true]
  have gone : o.setWidth 16 <<< 8 <<< 8 = 0#16 := by
    rw [← BitVec.shiftLeft_add]; exact BitVec.shiftLeft_eq_zero (by decide)
  unfold crcOctet
  simp only [crcShift_xor, ← BitVec.shiftLeft_add, Nat.reduceAdd] at *
  have ahead := fun i le => bit i le
  simp only [List.map, List.foldl]
  rw [gone, BitVec.xor_zero]
  rw [show (o.setWidth 16 <<< 8).msb = _ from bit 0 (by omega), show (o.setWidth 16 <<< 9).msb = _ from bit 1 (by omega),
    show (o.setWidth 16 <<< 10).msb = _ from bit 2 (by omega), show (o.setWidth 16 <<< 11).msb = _ from bit 3 (by omega),
    show (o.setWidth 16 <<< 12).msb = _ from bit 4 (by omega), show (o.setWidth 16 <<< 13).msb = _ from bit 5 (by omega),
    show (o.setWidth 16 <<< 14).msb = _ from bit 6 (by omega), show (o.setWidth 16 <<< 15).msb = _ from bit 7 (by omega)]

theorem crc16_bits (l : List Byte) :
    crc16 l = (l.flatMap (fun x => [7, 6, 5, 4, 3, 2, 1, 0].map x.getLsbD)).foldl crcBit 0xFFFF#16 := by
  rw [List.foldl_flatMap]
  unfold crc16
  congr 1
  funext c o
  exact crcOctet_bits c o

/-! ### The tests of a run of octets (R155) -/

theorem parseFrame_header (c h s1 s0 o1 o0 len : Byte) (rest : List Byte) :
    parseFrame (c :: h :: s1 :: s0 :: o1 :: o0 :: len :: rest) =
      if 120 < len.toNat ∨ rest.length ≠ len.toNat + 2 then .lengthError
      else if octets2 (crc16 ((c :: h :: s1 :: s0 :: o1 :: o0 :: len :: rest).take (7 + len.toNat))).toNat ≠
        rest.drop len.toNat then .checkError
      else (FrameClass.ofCode c.toNat).elim .unknownClass
        (fun cls => .good cls ⟨h.toNat, word16 s1 s0, word16 o1 o0, rest.take len.toNat⟩) := by
  simp only [parseFrame]
  cases FrameClass.ofCode c.toNat <;> rfl

/-- A run of octets has no whole header, or splits into its header and the rest. -/
theorem header_cases (octets : List Byte) :
    (octets.length < 7 ∧ parseFrame octets = .lengthError) ∨
      ∃ c h s1 s0 o1 o0 len rest, octets = c :: h :: s1 :: s0 :: o1 :: o0 :: len :: rest := by
  match octets with
  | [] | [_] | [_, _] | [_, _, _] | [_, _, _, _] | [_, _, _, _, _] | [_, _, _, _, _, _] => exact .inl ⟨by simp, rfl⟩
  | c :: h :: s1 :: s0 :: o1 :: o0 :: len :: rest => exact .inr ⟨c, h, s1, s0, o1, o0, len, rest, rfl⟩

/-- Octet i of a run, 0 beyond its end. -/
def octetAt (octets : List Byte) (i : Nat) : Nat := (octets.getD i 0#8).toNat

theorem parseFrame_lengthError (octets : List Byte) :
    parseFrame octets = .lengthError ↔
      octets.length < 9 ∨ 120 < octetAt octets 6 ∨ octets.length ≠ 9 + octetAt octets 6 := by
  rcases header_cases octets with ⟨short, eq⟩ | ⟨c, h, s1, s0, o1, o0, len, rest, rfl⟩
  · exact iff_of_true eq (.inl (by omega))
  · have size : octetAt (c :: h :: s1 :: s0 :: o1 :: o0 :: len :: rest) 6 = len.toNat := rfl
    rw [parseFrame_header, size]
    simp only [List.length_cons]
    constructor
    · intro eq
      refine Classical.byContradiction fun fits => ?_
      rw [if_neg (by omega)] at eq
      split at eq
      · cases eq
      · cases known : FrameClass.ofCode c.toNat <;> rw [known] at eq <;> cases eq
    · intro bad
      exact if_pos (by omega)

/-- The tests of a run of octets that is a frame in length. -/
theorem parseFrame_of_length {octets : List Byte} (long : 9 ≤ octets.length) (bound : octetAt octets 6 ≤ 120)
    (fits : octets.length = 9 + octetAt octets 6) :
    ∃ f, f.payload.length ≤ 120 ∧ parseFrame octets =
      if (crc16 (octets.take (7 + octetAt octets 6))).toNat ≠
          octetAt octets (7 + octetAt octets 6) * 256 + octetAt octets (8 + octetAt octets 6) then .checkError
      else (FrameClass.ofCode (octetAt octets 0)).elim .unknownClass (fun cls => .good cls f) := by
  rcases header_cases octets with ⟨short, eq⟩ | ⟨c, h, s1, s0, o1, o0, len, rest, rfl⟩
  · omega
  · have size : octetAt (c :: h :: s1 :: s0 :: o1 :: o0 :: len :: rest) 6 = len.toNat := rfl
    rw [size] at bound fits ⊢
    simp only [List.length_cons] at fits
    have more : rest.length = len.toNat + 2 := by omega
    have tail : rest.drop len.toNat = [rest[len.toNat], rest[len.toNat + 1]] := by
      rw [List.drop_eq_getElem_cons (by omega), List.drop_eq_getElem_cons (by omega),
        List.drop_eq_nil_of_le (by omega)]
    have at' (i : Nat) (lt : i < rest.length) :
        octetAt (c :: h :: s1 :: s0 :: o1 :: o0 :: len :: rest) (7 + i) = (rest[i]).toNat := by
      rw [octetAt, Nat.add_comm 7 i]
      simp [List.getElem?_eq_getElem lt]
    refine ⟨⟨h.toNat, word16 s1 s0, word16 o1 o0, rest.take len.toNat⟩, ?_, ?_⟩
    · rw [List.length_take]; omega
    · rw [parseFrame_header, if_neg (by omega), tail, at' _ (by omega),
        show 8 + len.toNat = 7 + (len.toNat + 1) by omega, at' _ (by omega)]
      refine ite_iff_congr (not_congr ?_) rfl rfl
      rw [octets2_eq_pair, Nat.mod_eq_of_lt (BitVec.isLt _)]
      rfl

/-! ### A frame laid out and read again (R155, R164) -/

/-- Settles O19: the header octets are below 256 each, and the last two are the check of those before them. -/
theorem frameOctetsReadBack : Obligations.FrameOctetsReadBack := by
  unfold Obligations.FrameOctetsReadBack
  intro cls f hop sender origin size
  have code : cls.code < 256 := by cases cls <;> decide
  obtain ⟨check, laid⟩ : ∃ check, frameOctets cls f = frameBody cls f ++ octets2 check ∧
      check = (crc16 (frameBody cls f)).toNat := ⟨_, rfl, rfl⟩
  have length : (frameBody cls f).length = 7 + f.payload.length := by
    simp [frameBody, octets1, octets2]; omega
  refine ⟨?_, by rw [laid.1, List.length_append, length]; simp [octets2]; omega⟩
  have shape : frameOctets cls f = BitVec.ofNat 8 cls.code :: BitVec.ofNat 8 f.hop ::
      BitVec.ofNat 8 (f.sender / 256) :: BitVec.ofNat 8 f.sender :: BitVec.ofNat 8 (f.origin / 256) ::
      BitVec.ofNat 8 f.origin :: BitVec.ofNat 8 f.payload.length :: (f.payload ++ octets2 check) := by
    rw [laid.1]; rfl
  have body : (frameOctets cls f).take (7 + f.payload.length) = frameBody cls f := by
    rw [laid.1, ← length, List.take_left]
  rw [shape, parseFrame_header, ← shape]
  simp only [toNat_octet code, toNat_octet hop, toNat_octet (show f.payload.length < 256 by omega),
    word16_octets sender, word16_octets origin, body, List.drop_left, List.take_left, FrameClass.ofCode_code,
    Option.elim]
  rw [if_neg (by simp [octets2]; omega), if_neg (by simp [laid.2])]

end Sys2Proof.Machine

/-! ### What a port makes of good and bad octets (R154, R155) -/

namespace Sys2Proof.Machine

/-- What a port makes of a frame that fails the length or the check test (R154). -/
def PortCtl.afterBad (c : PortCtl) : PortCtl := if c.state = .down then { c with goodRun := 0 } else c

theorem State.noteBad_ports (s : State) (p : Port) :
    (s.noteBad p).ports = s.ports.put p (s.ports.get p).afterBad := by
  unfold State.noteBad PortCtl.afterBad
  cases state : (s.ports.get p).state
  · simp [state, PerPort.put_get]
  · simp [state]

/-- The good frame that finds an UP port or a DOWN one (R154). -/
theorem State.noteGood_down {s : State} {p : Port} (down : (s.ports.get p).state = .down) :
    ((s.ports.get p).goodRun < 3 → (s.noteGood p).ports.get p =
      { s.ports.get p with goodRun := (s.ports.get p).goodRun + 1 }) ∧
    (3 ≤ (s.ports.get p).goodRun → (s.noteGood p).ports.get p =
      { s.ports.get p with state := .up, faultRun := 0, goodRun := 0 }) := by
  unfold State.noteGood
  constructor <;> intro run
  · simp [down, show ¬3 ≤ (s.ports.get p).goodRun by omega]
  · simp [down, run]

theorem State.noteGood_framesReceived (s : State) (p : Port) :
    ((s.noteGood p).ports.get p).framesReceived = (s.ports.get p).framesReceived := by
  unfold State.noteGood
  dsimp only
  split
  · simp
  · split <;> simp

theorem PortCtl.afterBad_rest (c : PortCtl) :
    c.afterBad.queue = c.queue ∧ c.afterBad.faultRun = c.faultRun ∧
      (c.state = .down → c.afterBad.state = .down ∧ c.afterBad.goodRun = 0) := by
  unfold PortCtl.afterBad
  split
  · next down => exact ⟨rfl, rfl, fun _ => ⟨down, rfl⟩⟩
  · next up => exact ⟨rfl, rfl, fun down => absurd down up⟩

theorem State.receiveOctets_eq {s : State} {p : Port} (used : (s.ports.get p).inUse = true) (octets : List Byte) :
    (parseFrame octets = .lengthError → s.receiveOctets p octets = s.lengthError p) ∧
    (parseFrame octets = .checkError → s.receiveOctets p octets = s.checkError p) ∧
    (parseFrame octets = .unknownClass → s.receiveOctets p octets = s.unknownClass p) := by
  unfold State.receiveOctets
  rw [if_neg (by simp [used])]
  exact ⟨fun h => by rw [h], fun h => by rw [h], fun h => by rw [h]⟩

/-- Settles O17: the first test that fails decides, and what it counts and does to the port. -/
theorem receiveErrorsCounted : Obligations.ReceiveErrorsCounted := by
  unfold Obligations.ReceiveErrorsCounted
  intro p octets s used o crc lengthError checkError unknownClass
  have bits (l : List Byte) : crc l = crc16 l := (crc16_bits l).symm
  have length : parseFrame octets = .lengthError ↔ lengthError := parseFrame_lengthError octets
  have tests : ¬lengthError → ∃ f, parseFrame octets =
      if (crc (octets.take (7 + o 6))).toNat ≠ o (7 + o 6) * 256 + o (8 + o 6) then .checkError
      else (FrameClass.ofCode (o 0)).elim .unknownClass (fun cls => .good cls f) := fun fits => by
    obtain ⟨long, rest⟩ := not_or.mp fits
    obtain ⟨bound, size⟩ := not_or.mp rest
    obtain ⟨f, -, eq⟩ := parseFrame_of_length (octets := octets) (Nat.not_lt.mp long) (Nat.not_lt.mp bound)
      (Classical.not_not.mp size)
    exact ⟨f, by rw [bits]; exact eq⟩
  have check : parseFrame octets = .checkError ↔ checkError := by
    by_cases bad : lengthError
    · exact iff_of_false (by rw [length.mpr bad]; nofun) (fun h => h.1 bad)
    · obtain ⟨f, eq⟩ := tests bad
      rw [eq]
      split
      · next differs => exact iff_of_true rfl ⟨bad, differs⟩
      · next same =>
        refine iff_of_false ?_ fun h => same h.2
        cases FrameClass.ofCode (o 0) <;> nofun
  have unknown : parseFrame octets = .unknownClass ↔ unknownClass := by
    by_cases bad : lengthError
    · exact iff_of_false (by rw [length.mpr bad]; nofun) (fun h => h.1 bad)
    by_cases wrong : checkError
    · exact iff_of_false (by rw [check.mpr wrong]; nofun) (fun h => h.2.1 wrong)
    obtain ⟨f, eq⟩ := tests bad
    rw [eq, if_neg fun differs => wrong ⟨bad, differs⟩]
    cases known : FrameClass.ofCode (o 0) with
    | none => exact iff_of_true rfl ⟨bad, wrong, FrameClass.ofCode_eq_none.mp known⟩
    | some cls =>
      refine iff_of_false nofun fun h => ?_
      rw [FrameClass.ofCode_eq_none.mpr h.2.2] at known
      cases known
  obtain ⟨asLength, asCheck, asUnknown⟩ := State.receiveOctets_eq used octets
  have lengthEq := fun h => asLength (length.mpr h)
  have checkEq := fun h => asCheck (check.mpr h)
  have unknownEq := fun h => asUnknown (unknown.mpr h)
  refine ⟨length, check, unknown, _, rfl, ?_⟩
  have busKept (t : State) := (t.noteBad_changes p) .bus (by decide)
  have busGood (t : State) := (t.noteGood_changes p) .bus (by decide)
  refine ⟨fun h => ?_, fun h => ?_, fun h => ?_, fun h => ?_, fun h => ?_⟩
  · rw [lengthEq h]
    exact ⟨busKept _, s.lengthError_changes p⟩
  · rw [checkEq h]
    exact ⟨busKept _, s.checkError_changes p⟩
  · have bad : (s.receiveOctets p octets).ports = s.ports.put p (s.ports.get p).afterBad := by
      rcases h with h | h
      · rw [lengthEq h]; exact State.noteBad_ports _ p
      · rw [checkEq h]; exact State.noteBad_ports _ p
    change ((s.receiveOctets p octets).ports.get p).queue = _ ∧ _
    rw [bad, PerPort.get_put_same]
    exact (s.ports.get p).afterBad_rest
  · rw [unknownEq h]
    refine ⟨busGood _, State.noteGood_framesReceived _ p, fun down => ?_, s.unknownClass_changes p⟩
    obtain ⟨few, enough⟩ := State.noteGood_down (s := s.busDo _) (p := p) down
    refine ⟨fun run => ?_, fun run => ?_⟩
    · exact ⟨(congrArg PortCtl.state (few run)).trans down, congrArg PortCtl.goodRun (few run)⟩
    · exact ⟨congrArg PortCtl.state (enough run), congrArg PortCtl.goodRun (enough run),
        congrArg PortCtl.faultRun (enough run)⟩
  · rcases h with h | h | h
    · rw [lengthEq h]
      exact (congrArg (PerPort.get · _) (State.noteBad_ports _ p)).trans (s.ports.get_put_otherPort _ _)
    · rw [checkEq h]
      exact (congrArg (PerPort.get · _) (State.noteBad_ports _ p)).trans (s.ports.get_put_otherPort _ _)
    · rw [unknownEq h]
      exact State.noteGood_ports_other _ p

end Sys2Proof.Machine

/-! ### The readers of payloads: when each refuses, and the octets it reads (R30 to R177) -/

namespace Sys2Proof.Machine

/-- Two octets of a run as a number, high octet first. -/
def wordAt (octets : List Byte) (i : Nat) : Nat := octetAt octets i * 256 + octetAt octets (i + 1)

theorem octetAt_cons_succ (o : Byte) (l : List Byte) (i : Nat) : octetAt (o :: l) (i + 1) = octetAt l i := rfl

theorem octetAt_cons_zero (o : Byte) (l : List Byte) : octetAt (o :: l) 0 = o.toNat := rfl

theorem octetAt_lt (l : List Byte) (i : Nat) : octetAt l i < 256 := BitVec.isLt _

theorem octetAt_drop (l : List Byte) (n i : Nat) : octetAt (l.drop n) i = octetAt l (n + i) := by
  unfold octetAt
  rw [List.getD_eq_getElem?_getD, List.getElem?_drop, ← List.getD_eq_getElem?_getD]

theorem octetAt_of_le {l : List Byte} {i : Nat} (short : l.length ≤ i) : octetAt l i = 0 := by
  unfold octetAt
  rw [List.getD_eq_getElem?_getD, List.getElem?_eq_none short]
  rfl

/-! #### Codes -/

theorem Level.ofCode_eq_none {n : Nat} : Level.ofCode n = none ↔ 3 < n := by
  rcases n with _ | _ | _ | _ | n <;> simp [Level.ofCode]

theorem Level.code_of_ofCode {n : Nat} {x : Level} (h : Level.ofCode n = some x) : x.code = n := by
  rcases n with _ | _ | _ | _ | n <;> simp only [Level.ofCode, Option.some.injEq, reduceCtorEq] at h <;> subst h <;> rfl

theorem Level.ofCode_code (x : Level) : Level.ofCode x.code = some x := by cases x <;> rfl

theorem ZoneState.ofCode_eq_none {n : Nat} : ZoneState.ofCode n = none ↔ 3 < n := by
  rcases n with _ | _ | _ | _ | n <;> simp [ZoneState.ofCode]

theorem ZoneState.code_of_ofCode {n : Nat} {x : ZoneState} (h : ZoneState.ofCode n = some x) : x.code = n := by
  rcases n with _ | _ | _ | _ | n <;> simp only [ZoneState.ofCode, Option.some.injEq, reduceCtorEq] at h <;> subst h <;> rfl

theorem ZoneState.ofCode_code (x : ZoneState) : ZoneState.ofCode x.code = some x := by cases x <;> rfl

theorem PointKind.ofCode_eq_none {n : Nat} : PointKind.ofCode n = none ↔ 1 < n := by
  rcases n with _ | _ | n <;> simp [PointKind.ofCode]

theorem PointKind.ofCode_code (x : PointKind) : PointKind.ofCode x.code = some x := by cases x <;> rfl

theorem TimeState.ofCode_eq_none {n : Nat} : TimeState.ofCode n = none ↔ 3 < n := by
  rcases n with _ | _ | _ | _ | n <;> simp [TimeState.ofCode]

theorem TimeState.code_of_ofCode {n : Nat} {x : TimeState} (h : TimeState.ofCode n = some x) : x.code = n := by
  rcases n with _ | _ | _ | _ | n <;> simp only [TimeState.ofCode, Option.some.injEq, reduceCtorEq] at h <;> subst h <;> rfl

theorem TimeState.ofCode_code (x : TimeState) : TimeState.ofCode x.code = some x := by cases x <;> rfl

theorem SweepState.ofCode_eq_none {n : Nat} : SweepState.ofCode n = none ↔ 4 < n := by
  rcases n with _ | _ | _ | _ | _ | n <;> simp [SweepState.ofCode]

theorem SweepState.code_of_ofCode {n : Nat} {x : SweepState} (h : SweepState.ofCode n = some x) : x.code = n := by
  rcases n with _ | _ | _ | _ | _ | n <;> simp only [SweepState.ofCode, Option.some.injEq, reduceCtorEq] at h <;> subst h <;> rfl

theorem SweepState.ofCode_code (x : SweepState) : SweepState.ofCode x.code = some x := by cases x <;> rfl

theorem Category.ofCode_eq_none {n : Nat} : Category.ofCode n = none ↔ 4 < n := by
  rcases n with _ | _ | _ | _ | _ | n <;> simp [Category.ofCode]

theorem Category.ofCode_listed {n : Nat} {x : Category} (h : Category.ofCode n = some x) :
    [Category.show, .dining, .excursion, .activity, .notice][n]? = some x := by
  rcases n with _ | _ | _ | _ | _ | n <;> exact h

/-! #### Fixed layouts -/

theorem parseAlarm_eq_none (l : List Byte) : parseAlarm l = none ↔ l.length ≠ 3 ∨ 3 < octetAt l 2 := by
  match l with
  | [e1, e0, v] => simp [parseAlarm, octetAt, Level.ofCode_eq_none]
  | [] | [_] | [_, _] | _ :: _ :: _ :: _ :: _ => exact iff_of_true rfl (.inl (by simp))

theorem parseAlarm_reads {l : List Byte} {a : AlarmPayload} (parsed : parseAlarm l = some a) :
    a.epoch = wordAt l 0 ∧ a.level.code = octetAt l 2 := by
  match l with
  | [e1, e0, v] =>
    obtain ⟨level, code, rfl⟩ := Option.map_eq_some_iff.mp parsed
    exact ⟨rfl, Level.code_of_ofCode code⟩
  | [] | [_] | [_, _] | _ :: _ :: _ :: _ :: _ => cases parsed

theorem parseZone_eq_none (l : List Byte) :
    parseZone l = none ↔ l.length ≠ 6 ∨ octetAt l 2 = 0 ∨ 15 < octetAt l 2 ∨ 31 < octetAt l 3 ∨ 31 < octetAt l 4 ∨
      3 < octetAt l 5 := by
  match l with
  | [n, q, z, lo, hi, st] =>
    simp only [parseZone, ite_eq_right_iff, Option.map_eq_none_iff, ZoneState.ofCode_eq_none, octetAt, List.getD_cons_succ, List.getD_cons_zero,
      List.length_cons, List.length_nil]
    omega
  | [] | [_] | [_, _] | [_, _, _] | [_, _, _, _] | [_, _, _, _, _] | _ :: _ :: _ :: _ :: _ :: _ :: _ :: _ =>
    exact iff_of_true rfl (.inl (by simp))

theorem parseZone_reads {l : List Byte} {z : ZonePayload} (parsed : parseZone l = some z) :
    z.number = octetAt l 0 ∧ z.sequence = octetAt l 1 ∧ z.zone = octetAt l 2 ∧ z.deckLow = octetAt l 3 ∧
      z.deckHigh = octetAt l 4 ∧ z.state.code = octetAt l 5 := by
  match l with
  | [n, q, zone, lo, hi, st] =>
    obtain ⟨-, mapped⟩ := Option.ite_none_right_eq_some.mp parsed
    obtain ⟨state, code, rfl⟩ := Option.map_eq_some_iff.mp mapped
    exact ⟨rfl, rfl, rfl, rfl, rfl, ZoneState.code_of_ofCode code⟩
  | [] | [_] | [_, _] | [_, _, _] | [_, _, _, _] | [_, _, _, _, _] | _ :: _ :: _ :: _ :: _ :: _ :: _ :: _ => cases parsed

theorem parseReassign_eq_none (l : List Byte) :
    parseReassign l = none ↔ l.length ≠ 6 ∨ octetAt l 2 = 0 ∨ 15 < octetAt l 2 ∨ 1 < octetAt l 3 := by
  match l with
  | [e1, e0, z, k, d, q] =>
    simp only [parseReassign, ite_eq_right_iff, Option.map_eq_none_iff, PointKind.ofCode_eq_none, octetAt, List.getD_cons_succ, List.getD_cons_zero,
      List.length_cons, List.length_nil]
    omega
  | [] | [_] | [_, _] | [_, _, _] | [_, _, _, _] | [_, _, _, _, _] | _ :: _ :: _ :: _ :: _ :: _ :: _ :: _ =>
    exact iff_of_true rfl (.inl (by simp))

theorem parseReassign_reads {l : List Byte} {r : ReassignPayload} (parsed : parseReassign l = some r) :
    r.epoch = wordAt l 0 ∧ r.zone = octetAt l 2 ∧ r.kind.code = octetAt l 3 ∧ r.dest = octetAt l 4 ∧
      r.sequence = octetAt l 5 := by
  match l with
  | [e1, e0, z, k, d, q] =>
    obtain ⟨-, mapped⟩ := Option.ite_none_right_eq_some.mp parsed
    obtain ⟨kind, code, rfl⟩ := Option.map_eq_some_iff.mp mapped
    exact ⟨rfl, rfl, PointKind.code_ofCode code, rfl, rfl⟩
  | [] | [_] | [_, _] | [_, _, _] | [_, _, _, _] | [_, _, _, _, _] | _ :: _ :: _ :: _ :: _ :: _ :: _ :: _ => cases parsed

theorem word24_split (x y z : Byte) : word24 x y z = x.toNat * 65536 + (y.toNat * 256 + z.toNat) := by
  unfold word24
  omega

theorem word32_split (w x y z : Byte) :
    word32 w x y z = (w.toNat * 256 + x.toNat) * 65536 + (y.toNat * 256 + z.toNat) := by
  unfold word32
  omega

theorem parseSweep_eq_none (l : List Byte) :
    parseSweep l = none ↔ l.length ≠ 6 ∨ (wordAt l 0 = 0 ∨ 9999 < wordAt l 0) ∨ 4 < octetAt l 2 ∨
      (368639 < octetAt l 3 * 65536 + wordAt l 4 ∧ octetAt l 3 * 65536 + wordAt l 4 ≠ 16777215) := by
  match l with
  | [c1, c0, st, m2, m1, m0] =>
    simp only [parseSweep, ite_eq_right_iff, Option.map_eq_none_iff, SweepState.ofCode_eq_none, wordAt, octetAt,
      List.getD_cons_succ, List.getD_cons_zero, List.length_cons, List.length_nil, word16, word24_split]
    omega
  | [] | [_] | [_, _] | [_, _, _] | [_, _, _, _] | [_, _, _, _, _] | _ :: _ :: _ :: _ :: _ :: _ :: _ :: _ =>
    exact iff_of_true rfl (.inl (by simp))

theorem parseSweep_reads {l : List Byte} {x : SweepPayload} (parsed : parseSweep l = some x) :
    x.cabin = wordAt l 0 ∧ x.sweep.code = octetAt l 2 ∧
      x.minute = if octetAt l 3 * 65536 + wordAt l 4 = 16777215 then none
        else some (octetAt l 3 * 65536 + wordAt l 4) := by
  match l with
  | [c1, c0, st, m2, m1, m0] =>
    obtain ⟨-, mapped⟩ := Option.ite_none_right_eq_some.mp parsed
    obtain ⟨sweep, code, rfl⟩ := Option.map_eq_some_iff.mp mapped
    refine ⟨rfl, SweepState.code_of_ofCode code, ?_⟩
    simp only [word24_split]
    rfl
  | [] | [_] | [_, _] | [_, _, _] | [_, _, _, _] | [_, _, _, _, _] | _ :: _ :: _ :: _ :: _ :: _ :: _ :: _ => cases parsed

theorem parseBeacon_eq_none (l : List Byte) :
    parseBeacon l = none ↔ l.length ≠ 8 ∨ 22118399 < wordAt l 0 * 65536 + wordAt l 2 ∨ 999 < wordAt l 4 ∨
      15 < octetAt l 6 ∨ 3 < octetAt l 7 := by
  match l with
  | [s3, s2, s1, s0, m1, m0, st, ts] =>
    simp only [parseBeacon, ite_eq_right_iff, Option.map_eq_none_iff, TimeState.ofCode_eq_none, wordAt, octetAt,
      List.getD_cons_succ, List.getD_cons_zero, List.length_cons, List.length_nil, word16, word32_split]
    omega
  | [] | [_] | [_, _] | [_, _, _] | [_, _, _, _] | [_, _, _, _, _] | [_, _, _, _, _, _] | [_, _, _, _, _, _, _]
  | _ :: _ :: _ :: _ :: _ :: _ :: _ :: _ :: _ :: _ => exact iff_of_true rfl (.inl (by simp))

theorem parseBeacon_reads {l : List Byte} {b : BeaconPayload} (parsed : parseBeacon l = some b) :
    b.seconds = wordAt l 0 * 65536 + wordAt l 2 ∧ b.millis = wordAt l 4 ∧ b.stratum = octetAt l 6 ∧
      b.state.code = octetAt l 7 := by
  match l with
  | [s3, s2, s1, s0, m1, m0, st, ts] =>
    obtain ⟨-, mapped⟩ := Option.ite_none_right_eq_some.mp parsed
    obtain ⟨state, code, rfl⟩ := Option.map_eq_some_iff.mp mapped
    exact ⟨word32_split s3 s2 s1 s0, rfl, rfl, TimeState.code_of_ofCode code⟩
  | [] | [_] | [_, _] | [_, _, _] | [_, _, _, _] | [_, _, _, _, _] | [_, _, _, _, _, _] | [_, _, _, _, _, _, _]
  | _ :: _ :: _ :: _ :: _ :: _ :: _ :: _ :: _ :: _ => cases parsed

theorem wellFormedService_eq_false (l : List Byte) :
    wellFormedService l = false ↔ l.length ≠ 4 ∨ (wordAt l 0 = 0 ∨ 9999 < wordAt l 0) ∨ 2 < octetAt l 2 := by
  match l with
  | [c1, c0, st, r] =>
    rw [wellFormedService, decide_eq_false_iff_not]
    simp only [wordAt, octetAt, List.getD_cons_succ, List.getD_cons_zero, List.length_cons, List.length_nil, word16]
    omega
  | [] | [_] | [_, _] | [_, _, _] | _ :: _ :: _ :: _ :: _ :: _ => exact iff_of_true rfl (.inl (by simp))

theorem parseWithdraw_eq_none (l : List Byte) : parseWithdraw l = none ↔ l.length ≠ 3 ∨ wordAt l 0 = 0 := by
  match l with
  | [i1, i0, v] => simp [parseWithdraw, wordAt, octetAt, word16]
  | [] | [_] | [_, _] | _ :: _ :: _ :: _ :: _ => exact iff_of_true rfl (.inl (by simp))

theorem parseWithdraw_reads {l : List Byte} {k : Tombstone} (parsed : parseWithdraw l = some k) :
    k = ⟨wordAt l 0, octetAt l 2⟩ := by
  match l with
  | [i1, i0, v] =>
    obtain ⟨-, made⟩ := Option.ite_none_left_eq_some.mp parsed
    exact (Option.some.inj made).symm
  | [] | [_] | [_, _] | _ :: _ :: _ :: _ :: _ => cases parsed

theorem parseQuery_eq_none (l : List Byte) :
    parseQuery l = none ↔ l.length ≠ 4 ∨ wordAt l 0 = 0 ∨ 4095 < wordAt l 0 := by
  match l with
  | [t1, t0, i, a] =>
    rw [parseQuery, ite_eq_right_iff]
    simp only [reduceCtorEq, imp_false, wordAt, octetAt, List.getD_cons_succ, List.getD_cons_zero, List.length_cons,
      List.length_nil, word16]
    omega
  | [] | [_] | [_, _] | [_, _, _] | _ :: _ :: _ :: _ :: _ :: _ => exact iff_of_true rfl (.inl (by simp))

theorem parseQuery_reads {l : List Byte} {q : QueryPayload} (parsed : parseQuery l = some q) :
    q = ⟨wordAt l 0, octetAt l 2, octetAt l 3⟩ := by
  match l with
  | [t1, t0, i, a] =>
    obtain ⟨-, made⟩ := Option.ite_none_right_eq_some.mp parsed
    exact (Option.some.inj made).symm
  | [] | [_] | [_, _] | [_, _, _] | _ :: _ :: _ :: _ :: _ :: _ => cases parsed

/-! #### CABIN and ADVERT -/

theorem parseCabin_eq_none (l : List Byte) :
    parseCabin l = none ↔ (wordAt l 0 = 0 ∨ 9999 < wordAt l 0) ∨ 1 < octetAt l 3 ∨ 1 < octetAt l 6 ∨
      32 < octetAt l 8 ∨ l.length ≠ 9 + octetAt l 8 := by
  match l with
  | c1 :: c0 :: v :: oc :: em :: di :: pr :: dn :: len :: greeting =>
    rw [parseCabin, ite_eq_right_iff]
    simp only [reduceCtorEq, imp_false, wordAt, octetAt, List.getD_cons_succ, List.getD_cons_zero, List.length_cons, word16]
    omega
  | [] | [_] | [_, _] | [_, _, _] | [_, _, _, _] | [_, _, _, _, _] | [_, _, _, _, _, _] | [_, _, _, _, _, _, _]
  | [_, _, _, _, _, _, _, _] =>
    refine iff_of_true rfl (.inr (.inr (.inr (.inr ?_))))
    simp only [List.length_cons, List.length_nil]
    omega

theorem parseCabin_reads {l : List Byte} {c : CabinPayload} (parsed : parseCabin l = some c) :
    c.cabin = wordAt l 0 ∧ c.version = octetAt l 2 ∧ (c.occupancy = .occupied ↔ octetAt l 3 = 1) ∧
      c.embarkDay = octetAt l 4 ∧ c.disembarkDay = octetAt l 5 ∧
      c.serviceDone = (if octetAt l 6 = 1 then some (octetAt l 7) else none) ∧ c.greeting = l.drop 9 := by
  match l with
  | c1 :: c0 :: v :: oc :: em :: di :: pr :: dn :: len :: greeting =>
    obtain ⟨⟨-, -, occupied, -⟩, made⟩ := Option.ite_none_right_eq_some.mp parsed
    obtain rfl := Option.some.inj made
    refine ⟨rfl, rfl, ?_, rfl, rfl, rfl, rfl⟩
    show (if oc.toNat = 0 then Occupancy.vacant else .occupied) = .occupied ↔ oc.toNat = 1
    split
    · next vacant => exact iff_of_false nofun (by omega)
    · exact iff_of_true rfl (by omega)
  | [] | [_] | [_, _] | [_, _, _] | [_, _, _, _] | [_, _, _, _, _] | [_, _, _, _, _, _] | [_, _, _, _, _, _, _]
  | [_, _, _, _, _, _, _, _] => cases parsed

theorem parseAdvert_eq_none (l : List Byte) :
    parseAdvert l = none ↔ octetAt l 0 = 0 ∨ 12 < octetAt l 0 ∨ l.length ≠ 1 + 8 * octetAt l 0 := by
  match l with
  | [] => exact iff_of_true rfl (.inl rfl)
  | n :: rest =>
    simp only [parseAdvert, ite_eq_right_iff, reduceCtorEq, imp_false, octetAt, List.getD_cons_zero, List.length_cons]
    omega

/-- The advertisement entry at an octet of a run (R166). -/
def advertEntryAt (l : List Byte) (a : Nat) : AdvertEntry :=
  ⟨octetAt l a, octetAt l (a + 1), wordAt l (a + 2), octetAt l (a + 4), wordAt l (a + 5),
    (octetAt l (a + 7)).testBit 0, (octetAt l (a + 7)).testBit 1⟩

theorem advertEntries_reads (n : Nat) (l : List Byte) (length : l.length = 8 * n) :
    (advertEntries l).length = n ∧
      ∀ i e, (advertEntries l)[i]? = some e → e = advertEntryAt l (8 * i) := by
  induction n generalizing l with
  | zero =>
    obtain rfl := List.length_eq_zero_iff.mp length
    exact ⟨rfl, fun i e h => by cases h⟩
  | succ n ih =>
    match l with
    | d :: k :: c1 :: c0 :: h :: n1 :: n0 :: fl :: rest =>
      obtain ⟨size, reads⟩ := ih rest (by simp only [List.length_cons] at length; omega)
      refine ⟨by simp [advertEntries, size], fun i e found => ?_⟩
      cases i with
      | zero =>
        obtain rfl := Option.some.inj found
        rfl
      | succ i =>
        have same := reads i e found
        rw [same]
        rfl
    | [] | [_] | [_, _] | [_, _, _] | [_, _, _, _] | [_, _, _, _, _] | [_, _, _, _, _, _]
    | [_, _, _, _, _, _, _] => simp only [List.length_cons, List.length_nil] at length; omega

theorem parseAdvert_reads {l : List Byte} {es : List AdvertEntry} (parsed : parseAdvert l = some es) :
    es.length = octetAt l 0 ∧ ∀ i e, es[i]? = some e → e = advertEntryAt l (1 + 8 * i) := by
  match l with
  | [] => cases parsed
  | n :: rest =>
    obtain ⟨⟨-, -, length⟩, made⟩ := Option.ite_none_right_eq_some.mp parsed
    obtain rfl := Option.some.inj made
    obtain ⟨size, reads⟩ := advertEntries_reads n.toNat rest length
    refine ⟨size, fun i e found => (reads i e found).trans ?_⟩
    rw [Nat.add_comm 1]
    rfl

end Sys2Proof.Machine

/-! ### ITEM payloads, and what each class refuses and reads (R59, R155) -/

namespace Sys2Proof.Machine

theorem takeGlyphs_eq (l : List Byte) :
    takeGlyphs l = if 1 + octetAt l 0 ≤ l.length then
      some ((l.drop 1).take (octetAt l 0), l.drop (1 + octetAt l 0)) else none := by
  cases l with
  | nil => rfl
  | cons n rest =>
    rw [takeGlyphs, octetAt_cons_zero, List.length_cons, Nat.add_comm 1]
    exact ite_iff_congr (by omega) rfl rfl

/-- The three texts fill the run from their length octets (R59). -/
theorem itemTexts_eq (l : List Byte) {a b c : Nat} (venue : octetAt l 0 = a) (title : octetAt l (1 + a) = b)
    (detail : octetAt l (2 + a + b) = c) :
    itemTexts l = if l.length = 3 + a + b + c ∧ a ≤ 16 ∧ 1 ≤ b ∧ b ≤ 32 ∧ c ≤ 40 then
      some ((l.drop 1).take a, (l.drop (2 + a)).take b, (l.drop (3 + a + b)).take c) else none := by
  unfold itemTexts
  rw [takeGlyphs_eq, venue]
  by_cases first : 1 + a ≤ l.length
  case neg => rw [if_neg first, if_neg (by omega)]
  rw [if_pos first]
  dsimp only
  rw [takeGlyphs_eq, octetAt_drop, Nat.add_zero, title, List.drop_drop, List.drop_drop, List.length_drop]
  by_cases second : 2 + a + b ≤ l.length
  case neg => rw [if_neg (by omega), if_neg (by omega)]
  rw [if_pos (by omega)]
  dsimp only
  rw [takeGlyphs_eq, octetAt_drop, Nat.add_zero, show 1 + a + (1 + b) = 2 + a + b by omega, detail, List.drop_drop,
    List.drop_drop, List.length_drop, show 1 + a + 1 = 2 + a by omega, show 2 + a + b + 1 = 3 + a + b by omega,
    show 2 + a + b + (1 + c) = 3 + a + b + c by omega]
  by_cases third : 3 + a + b + c ≤ l.length
  case neg => rw [if_neg (show ¬1 + c ≤ l.length - (2 + a + b) by omega), if_neg (by omega)]
  rw [if_pos (show 1 + c ≤ l.length - (2 + a + b) by omega)]
  by_cases whole : l.length = 3 + a + b + c
  · rw [List.drop_eq_nil_of_le (show l.length ≤ 3 + a + b + c by omega)]
    dsimp only
    refine ite_iff_congr ?_ rfl rfl
    simp only [List.length_take, List.length_drop]
    omega
  · rw [if_neg fun h => whole h.1]
    obtain ⟨x, xs, more⟩ : ∃ x xs, l.drop (3 + a + b + c) = x :: xs :=
      List.exists_cons_of_ne_nil fun none => whole (by
        have := List.drop_eq_nil_iff.mp none
        omega)
    rw [more]

/-- The reading of an ITEM payload with its three texts (R59). -/
def itemRead (l : List Byte) (category : Category) (texts : List Byte × List Byte × List Byte) : ItemPayload where
  id := wordAt l 0
  version := octetAt l 2
  start := octetAt l 3 * 65536 + wordAt l 4
  last := octetAt l 6 * 65536 + wordAt l 7
  category := category
  venue := octetAt l 10
  highlight := (octetAt l 11).testBit 0
  cancelled := (octetAt l 11).testBit 1
  lead := octetAt l 12
  deckMask := BitVec.ofNat 32 (wordAt l 13 * 65536 + wordAt l 15)
  zoneMask := BitVec.ofNat 16 (wordAt l 17)
  venueLabel := texts.1
  title := texts.2.1
  detail := texts.2.2

theorem parseItem_short {l : List Byte} (short : l.length < 19) : parseItem l = none := by
  unfold parseItem
  split
  · simp only [List.length_cons] at short
    omega
  · rfl

theorem parseItem_long {l : List Byte} (long : 19 ≤ l.length) :
    parseItem l = if wordAt l 0 ≠ 0 ∧ octetAt l 3 * 65536 + wordAt l 4 ≤ 368639 ∧
        octetAt l 6 * 65536 + wordAt l 7 ≤ 368639 then
      (Category.ofCode (octetAt l 9)).bind fun c => (itemTexts (l.drop 19)).map (itemRead l c) else none := by
  iterate 19 (obtain _ | ⟨_, l⟩ := l; · simp at long)
  rw [parseItem]
  refine ite_iff_congr ?_ ?_ rfl
  · rw [word24_split, word24_split]
    rfl
  · generalize code : Category.ofCode _ = category
    generalize last : itemTexts _ = texts
    simp only [octetAt_cons_succ, octetAt_cons_zero, List.drop_succ_cons, List.drop_zero, code, last]
    cases category with
    | none => rfl
    | some category =>
      cases texts with
      | none => rfl
      | some texts =>
        simp only [word24_split, word32_split]
        rfl

theorem parseItem_eq_none (l : List Byte) {venue title detail : Nat} (hv : octetAt l 19 = venue)
    (ht : octetAt l (20 + venue) = title) (hd : octetAt l (21 + venue + title) = detail) :
    parseItem l = none ↔ wordAt l 0 = 0 ∨ 4 < octetAt l 9 ∨ 368639 < octetAt l 3 * 65536 + wordAt l 4 ∨
      368639 < octetAt l 6 * 65536 + wordAt l 7 ∨ title = 0 ∨ 32 < title ∨ 40 < detail ∨ 16 < venue ∨
      l.length ≠ 22 + venue + title + detail := by
  by_cases long : 19 ≤ l.length
  case neg => exact iff_of_true (parseItem_short (by omega)) (by omega)
  rw [parseItem_long long, itemTexts_eq (l.drop 19) (a := venue) (b := title) (c := detail)
    (by rw [octetAt_drop]; exact hv) (by rw [octetAt_drop, ← ht]; congr 1; omega)
    (by rw [octetAt_drop, ← hd]; congr 1; omega), List.length_drop]
  cases code : Category.ofCode (octetAt l 9) with
  | none =>
    have above := Category.ofCode_eq_none.mp code
    exact iff_of_true (by split <;> rfl) (by omega)
  | some category =>
    have known : ¬4 < octetAt l 9 := fun above => by
      rw [Category.ofCode_eq_none.mpr above] at code
      cases code
    split
    · next ranges =>
      split
      · next texts => exact iff_of_false nofun (by omega)
      · next texts => exact iff_of_true rfl (by omega)
    · next ranges => exact iff_of_true rfl (by omega)

/-- What a well-formed ITEM payload is read as. -/
theorem parseItem_reads {l : List Byte} {i : ItemPayload} (parsed : parseItem l = some i) {venue title detail : Nat}
    (hv : octetAt l 19 = venue) (ht : octetAt l (20 + venue) = title) (hd : octetAt l (21 + venue + title) = detail) :
    ∃ category, Category.ofCode (octetAt l 9) = some category ∧
      i = itemRead l category ((l.drop 20).take venue, (l.drop (21 + venue)).take title,
        (l.drop (22 + venue + title)).take detail) := by
  have long : 19 ≤ l.length := by
    refine Classical.byContradiction fun short => ?_
    rw [parseItem_short (by omega)] at parsed
    cases parsed
  rw [parseItem_long long, itemTexts_eq (l.drop 19) (a := venue) (b := title) (c := detail)
    (by rw [octetAt_drop]; exact hv) (by rw [octetAt_drop, ← ht]; congr 1; omega)
    (by rw [octetAt_drop, ← hd]; congr 1; omega)] at parsed
  obtain ⟨-, bound⟩ := Option.ite_none_right_eq_some.mp parsed
  obtain ⟨category, code, mapped⟩ := Option.bind_eq_some_iff.mp bound
  obtain ⟨texts, made, rfl⟩ := Option.map_eq_some_iff.mp mapped
  obtain ⟨-, pieces⟩ := Option.ite_none_right_eq_some.mp made
  refine ⟨category, code, ?_⟩
  rw [← Option.some.inj pieces]
  simp only [List.drop_drop]
  rw [show 19 + (2 + venue) = 21 + venue by omega, show 19 + (3 + venue + title) = 22 + venue + title by omega]

/-! ### What reaches no block (R155, R156) -/

/-- A frame of this node's own number is dropped, and counts for its port's state alone. -/
theorem State.takeFrame_own {s : State} {f : RxFrame} (runs : s.start.lifecycle ≠ .configFault)
    (own : f.sender = s.cfg.nodeNumber) (p : Port) (cls : FrameClass) : s.takeFrame p cls f = s :=
  if_pos ⟨runs, own⟩

theorem State.takeFrame_malformed {s : State} {p : Port} {cls : FrameClass} {f : RxFrame}
    (stranger : s.start.lifecycle = .configFault ∨ f.sender ≠ s.cfg.nodeNumber)
    (bad : headerInRange f = false ∨ classHandler p cls f = none) : s.takeFrame p cls f = s.malformed := by
  unfold State.takeFrame
  rw [if_neg fun own => stranger.elim own.1 fun other => other own.2]
  rcases bad with range | none
  · rw [range, if_neg Bool.false_ne_true]
  · rw [none]
    exact ite_self _

theorem headerInRange_eq_false (f : RxFrame) :
    headerInRange f = false ↔ 15 < f.hop ∨ f.sender = 0 ∨ 4095 < f.sender ∨ f.origin = 0 ∨ 4095 < f.origin := by
  unfold headerInRange
  simp only [Bool.and_eq_false_iff, decide_eq_false_iff_not]
  omega

/-- Settles O18: the handler of a class is absent just where its reader refuses the payload. -/
theorem framesStopAtHandler : Obligations.FramesStopAtHandler := by
  unfold Obligations.FramesStopAtHandler
  intro outOfRange malformed
  have range (f : RxFrame) : headerInRange f = false ↔ outOfRange f := headerInRange_eq_false f
  have shape (p : Port) (cls : FrameClass) (f : RxFrame) : classHandler p cls f = none ↔ malformed cls f := by
    cases cls with
    | alarm => exact Option.map_eq_none_iff.trans (parseAlarm_eq_none _)
    | zone => exact Option.map_eq_none_iff.trans (parseZone_eq_none _)
    | reassign => exact Option.map_eq_none_iff.trans (parseReassign_eq_none _)
    | sweep => exact Option.map_eq_none_iff.trans (parseSweep_eq_none _)
    | advert => exact Option.map_eq_none_iff.trans (parseAdvert_eq_none _)
    | beacon => exact Option.map_eq_none_iff.trans (parseBeacon_eq_none _)
    | cabin => exact Option.map_eq_none_iff.trans (parseCabin_eq_none _)
    | query => exact Option.map_eq_none_iff.trans (parseQuery_eq_none _)
    | item => exact Option.map_eq_none_iff.trans (parseItem_eq_none _ rfl rfl rfl)
    | withdraw => exact Option.map_eq_none_iff.trans (parseWithdraw_eq_none _)
    | solicit =>
      refine (ite_eq_right_iff.trans ?_).trans (not_congr List.length_eq_zero_iff.symm)
      exact imp_congr_right fun _ => iff_of_false nofun not_false
    | service =>
      refine Iff.trans ?_ (wellFormedService_eq_false _)
      show (if _ then _ else _) = _ ↔ _
      cases wellFormedService f.payload <;> simp
    | status =>
      refine (ite_eq_right_iff.trans ?_).trans Nat.not_le
      exact imp_congr_right fun _ => iff_of_false nofun not_false
  have heard (s : State) (p : Port) := s.noteGood_changes p
  refine ⟨fun p cls f => ⟨range f, shape p cls f⟩, fun p cls f s used short => ?_, fun p f s hears => ?_⟩
  · have received : s.receiveFrame p cls f = (s.noteGood p).takeFrame p cls f := by
      unfold State.receiveFrame
      rw [if_neg (by simp [used]), if_neg (by omega)]
    have start : (s.noteGood p).start = s.start := heard s p .start (by decide)
    have cfg : (s.noteGood p).cfg = s.cfg := (heard s p).cfg_eq (by decide)
    rw [received]
    refine ⟨fun runs own => ?_, fun stranger bad => ?_⟩
    · rw [State.takeFrame_own (by rw [start]; exact runs) (by rw [cfg]; exact own)]
      exact ⟨heard s p, State.noteGood_framesReceived s p⟩
    · rw [State.takeFrame_malformed (by rw [start, cfg]; exact stranger)
        (bad.imp (range f).mpr (shape p cls f).mpr)]
      have bus : (s.noteGood p).bus = s.bus := heard s p .bus (by decide)
      refine ⟨?_, (heard s p).andThen (State.malformed_changes _), State.noteGood_framesReceived s p⟩
      show ({ (s.noteGood p).bus with malformedFrames := _ } : BusCounters) = _
      rw [bus]
  · have taken (cls : FrameClass) (handled : classHandler p cls f = some (fun s => s)) :
        s.receiveFrame p cls f = s.heard p := State.receive_eq hears handled
    have counted (t : State) (eq : t = s.heard p) : (s.ports.get p).countsFrame (t.ports.get p) ∧
        t.ports.get (otherPort p) = s.ports.get (otherPort p) ∧ OnlyChanges [.ports, .ind] s t := by
      subst eq
      exact ⟨s.heard_counts p, s.heard_other p, s.heard_changes p⟩
    refine ⟨fun fine => ⟨_, rfl, counted _ (taken .service (if_pos ?_))⟩,
      fun fine => ⟨_, rfl, counted _ (taken .status (if_pos (Nat.not_lt.mp fine)))⟩⟩
    exact (Bool.not_eq_false _).mp fun refused => fine ((wellFormedService_eq_false _).mp refused)

end Sys2Proof.Machine

/-! ### Payloads laid out and read back (R165, R166) -/

namespace Sys2Proof.Machine

theorem parseAlarm_payload {u : AlarmUnit} {e : Nat} (held : u.epoch = some e) (small : e < 65536) :
    u.alarmPayload.bind parseAlarm = some ⟨e, u.level⟩ := by
  have code : u.level.code < 256 := by cases u.level <;> decide
  rw [AlarmUnit.alarmPayload, held]
  show (Level.ofCode (BitVec.ofNat 8 u.level.code).toNat).map
    (AlarmPayload.mk (word16 (BitVec.ofNat 8 (e / 256)) (BitVec.ofNat 8 e))) = _
  rw [toNat_octet code, Level.ofCode_code, word16_octets small]
  rfl

theorem parseZone_payload {r : ZoneReport} (number : r.number < 256) (sequence : r.sequence < 256)
    (low : 1 ≤ r.zone) (high : r.zone ≤ 15) (deckLow : r.deckLow ≤ 31) (deckHigh : r.deckHigh ≤ 31) :
    parseZone r.payload = some ⟨r.number, r.sequence, r.zone, r.deckLow, r.deckHigh, r.state⟩ := by
  have code : r.state.code < 256 := by cases r.state <;> decide
  simp only [ZoneReport.payload, octets1, List.cons_append, List.nil_append, parseZone, toNat_octet number,
    toNat_octet sequence, toNat_octet code, toNat_octet (show r.zone < 256 by omega),
    toNat_octet (show r.deckLow < 256 by omega), toNat_octet (show r.deckHigh < 256 by omega), ZoneState.ofCode_code]
  exact if_pos ⟨low, high, deckLow, deckHigh⟩

theorem parseReassign_payload {r : Reassignment} {e : Nat} (small : e < 65536) (low : 1 ≤ r.zone) (high : r.zone ≤ 15)
    (dest : r.dest < 256) (sequence : r.sequence < 256) :
    parseReassign (r.payload e) = some ⟨e, r.zone, r.kind, r.dest, r.sequence⟩ := by
  have code : r.kind.code < 256 := by cases r.kind <;> decide
  simp only [Reassignment.payload, octets1, octets2, List.cons_append, List.nil_append, parseReassign,
    toNat_octet dest, toNat_octet sequence, toNat_octet code, toNat_octet (show r.zone < 256 by omega),
    word16_octets small, PointKind.ofCode_code]
  exact if_pos ⟨low, high⟩

theorem parseSweep_payload {cabin : Nat} (low : 1 ≤ cabin) (high : cabin ≤ 9999) (x : SweepState) {m : Option Nat}
    (bound : ∀ n, m = some n → n ≤ 368639) : parseSweep (sweepPayload cabin x m) = some ⟨cabin, x, m⟩ := by
  have code : x.code < 256 := by cases x <;> decide
  cases m with
  | none =>
    simp only [sweepPayload, sweepMinuteOctets, octets1, octets2, octets3, List.cons_append, List.nil_append,
      parseSweep, toNat_octet code, word16_octets (show cabin < 65536 by omega),
      word24_octets (show 16777215 < 16777216 by decide), SweepState.ofCode_code]
    exact if_pos ⟨low, high, .inr trivial⟩
  | some n =>
    have known := bound n rfl
    simp only [sweepPayload, sweepMinuteOctets, octets1, octets2, octets3, List.cons_append, List.nil_append,
      parseSweep, toNat_octet code, word16_octets (show cabin < 65536 by omega),
      word24_octets (show n < 16777216 by omega), SweepState.ofCode_code]
    rw [if_pos ⟨low, high, .inl known⟩, if_neg (by omega)]
    rfl

theorem wellFormedService_payload {cabin : Nat} (low : 1 ≤ cabin) (high : cabin ≤ 9999) (request : Nat)
    (x : ServiceState) : wellFormedService (servicePayload cabin x request) = true := by
  have code : x.code ≤ 2 := by cases x <;> decide
  simp only [servicePayload, octets1, octets2, List.cons_append, List.nil_append, wellFormedService,
    toNat_octet (show x.code < 256 by omega), word16_octets (show cabin < 65536 by omega)]
  exact decide_eq_true ⟨low, high, code⟩

theorem State.shipMs_le (s : State) : s.shipMs ≤ shipTimeMax := Nat.min_le_left _ _

theorem parseBeacon_payload {s : State} (stratum : s.time.sentStratum ≤ 15) :
    parseBeacon s.beaconFrame.payload =
      some ⟨s.shipMs / 1000, s.shipMs % 1000, s.time.sentStratum, s.time.state⟩ := by
  have code : s.time.state.code < 256 := by cases s.time.state <;> decide
  have most : s.shipMs / 1000 ≤ 22118399 := by
    have := s.shipMs_le
    unfold shipTimeMax at this
    omega
  simp only [State.beaconFrame, State.ownFrame, octets1, octets2, octets4, List.cons_append, List.nil_append,
    parseBeacon, toNat_octet code, toNat_octet (show s.time.sentStratum < 256 by omega),
    word16_octets (show s.shipMs % 1000 < 65536 by omega), word32_octets (show s.shipMs / 1000 < 4294967296 by omega),
    TimeState.ofCode_code]
  exact if_pos ⟨most, by omega, stratum⟩

/-- The fields of an advertisement entry lie in their octets (R166). -/
def AdvertEntry.fits (a : AdvertEntry) : Prop :=
  a.dest < 256 ∧ a.kindCode < 256 ∧ a.cost < 65536 ∧ a.hop < 256 ∧ a.nextNode < 65536

theorem advertFlags_bits (x y : Bool) :
    (BitVec.ofNat 8 (advertFlags x y)).getLsbD 0 = x ∧ (BitVec.ofNat 8 (advertFlags x y)).getLsbD 1 = y := by
  cases x <;> cases y <;> decide

theorem advertEntries_cons {a : AdvertEntry} (fits : a.fits) (rest : List Byte) :
    advertEntries (a.octets ++ rest) = a :: advertEntries rest := by
  obtain ⟨dest, kind, cost, hop, next⟩ := fits
  simp only [AdvertEntry.octets, octets1, octets2, List.cons_append, List.nil_append, advertEntries,
    toNat_octet dest, toNat_octet kind, toNat_octet hop, word16_octets cost, word16_octets next,
    (advertFlags_bits a.viaStair a.viaBoundary).1, (advertFlags_bits a.viaStair a.viaBoundary).2]

theorem advertEntries_octets {entries : List AdvertEntry} (fits : ∀ a ∈ entries, a.fits) :
    advertEntries (entries.flatMap AdvertEntry.octets) = entries ∧
      (entries.flatMap AdvertEntry.octets).length = 8 * entries.length := by
  induction entries with
  | nil => exact ⟨rfl, rfl⟩
  | cons a rest ih =>
    obtain ⟨same, length⟩ := ih fun b mem => fits b (List.mem_cons_of_mem _ mem)
    rw [List.flatMap_cons, advertEntries_cons (fits a List.mem_cons_self), same]
    refine ⟨rfl, ?_⟩
    rw [List.length_append, length, List.length_cons]
    simp [AdvertEntry.octets, octets1, octets2]
    omega

theorem parseAdvert_payload {entries : List AdvertEntry} (some' : 1 ≤ entries.length) (most : entries.length ≤ 12)
    (fits : ∀ a ∈ entries, a.fits) : parseAdvert (advertPayload entries) = some entries := by
  obtain ⟨same, length⟩ := advertEntries_octets fits
  simp only [advertPayload, octets1, List.cons_append, List.nil_append, parseAdvert,
    toNat_octet (show entries.length < 256 by omega), same]
  exact if_pos ⟨some', most, length⟩

theorem clampedEnd_eq (start last : Nat) : clampedEnd start last = max start (min (start + 1440) last) := by
  unfold clampedEnd
  split
  · omega
  · split <;> omega

theorem ItemPayload.clamps_iff (i : ItemPayload) :
    i.clamps = true ↔ i.last < i.start ∨ i.start + 1440 < i.last ∨ (i.highlight = true ∧ 120 < i.lead) := by
  unfold ItemPayload.clamps
  rw [Bool.or_eq_true, decide_eq_true_eq, Bool.and_eq_true, decide_eq_true_eq, clampedEnd_eq]
  exact (or_congr (by omega) Iff.rfl).trans or_assoc

/-- Settles O20: each layout read by its reader, and each reader at its octets. -/
theorem payloadsReadBack : Obligations.PayloadsReadBack := by
  unfold Obligations.PayloadsReadBack
  refine ⟨fun u e => parseAlarm_payload, fun r => parseZone_payload, fun r e => parseReassign_payload,
    fun cabin x m low high => parseSweep_payload low high x, fun cabin request x low high =>
    wellFormedService_payload low high request x, fun s => parseBeacon_payload, fun entries => parseAdvert_payload,
    fun payload => ?_⟩
  refine ⟨fun a => parseAlarm_reads, fun z => parseZone_reads, fun r => parseReassign_reads,
    fun x => parseSweep_reads, fun b => parseBeacon_reads, fun l => parseAdvert_reads, fun c => parseCabin_reads,
    fun k => parseWithdraw_reads, fun q => parseQuery_reads, fun i parsed => ?_⟩
  obtain ⟨category, code, rfl⟩ := parseItem_reads parsed rfl rfl rfl
  refine ⟨⟨rfl, rfl, rfl, clampedEnd_eq _ _, Category.ofCode_listed code, rfl, rfl, rfl⟩, fun d lt => ?_,
    fun z lt => ?_, rfl, rfl, rfl, ItemPayload.clamps_iff _⟩
  · exact (BitVec.getLsbD_ofNat _ _ _).trans (by rw [decide_eq_true lt]; rfl)
  · exact (BitVec.getLsbD_ofNat _ _ _).trans (by rw [decide_eq_true lt]; rfl)

end Sys2Proof.Machine

/-! ### Returns to the queue, and how a flight ends (R23, R153, R154, R162) -/

namespace Sys2Proof.Machine

section

variable {c : PortCtl} {e x : QueueEntry}

/-- Among the entries of a lawful queue, those of another key than x are all but x. -/
theorem filter_otherKey (law : c.queueLaw) (queued : x ∈ c.queue) (same : e.sameKey x = true) :
    c.queue.filter (fun y => !e.sameKey y) = c.queue.erase x := by
  obtain ⟨-, keys, -⟩ := law
  have sameX := (QueueEntry.sameKey_iff e x).mp same
  rw [(queue_nodup keys).erase_eq_filter]
  refine List.filter_congr fun y other => ?_
  by_cases eq : y = x
  · simp [eq, same]
  · have apart : e.sameKey y = false := Bool.eq_false_iff.mpr fun sameY => by
      have sameY := (QueueEntry.sameKey_iff e y).mp sameY
      exact eq (queue_unique keys other queued (sameY.1.symm.trans sameX.1) (sameY.2.symm.trans sameX.2))
    simp [eq, apart]

theorem PortCtl.putBack_present (law : c.queueLaw) (queued : x ∈ c.queue) (cls : x.cls = e.cls) (key : x.key = e.key)
    (met : QueueEntry → QueueEntry) :
    c.putBack e met = { c with queue := enqueue (met x) (c.queue.erase x) } := by
  have same : e.sameKey x = true := (QueueEntry.sameKey_iff e x).mpr ⟨cls.symm, key.symm⟩
  rcases c.putBack_cases e met with ⟨y, other, sameY, eq⟩ | ⟨none, -⟩ | ⟨none, -⟩
  · have sameY' := (QueueEntry.sameKey_iff e y).mp sameY
    obtain rfl : y = x := queue_unique law.2.1 other queued (sameY'.1.symm.trans cls.symm)
      (sameY'.2.symm.trans key.symm)
    rw [eq, filter_otherKey law other sameY]
  all_goals
    rw [none x queued] at same
    cases same

theorem PortCtl.putBack_room (none : ∀ x ∈ c.queue, ¬(x.cls = e.cls ∧ x.key = e.key)) (room : c.queue.length < queueCap)
    (met : QueueEntry → QueueEntry) : c.putBack e met = { c with queue := enqueue e c.queue } := by
  rcases c.putBack_cases e met with ⟨y, queued, same, -⟩ | ⟨-, -, eq⟩ | ⟨-, full, -⟩
  · have same := (QueueEntry.sameKey_iff e y).mp same
    exact absurd ⟨same.1.symm, same.2.symm⟩ (none y queued)
  · exact eq
  · omega

theorem PortCtl.putBack_full (none : ∀ x ∈ c.queue, ¬(x.cls = e.cls ∧ x.key = e.key)) (full : queueCap ≤ c.queue.length)
    (met : QueueEntry → QueueEntry) :
    c.putBack e met = { c with queue := dropYoungest (enqueue e c.queue), queueDrops := bump c.queueDrops } := by
  rcases c.putBack_cases e met with ⟨y, queued, same, -⟩ | ⟨-, room, -⟩ | ⟨-, -, eq⟩
  · have same := (QueueEntry.sameKey_iff e y).mp same
    exact absurd ⟨same.1.symm, same.2.symm⟩ (none y queued)
  · omega
  · exact eq

/-- What a return to a lawful full queue keeps: all but the youngest of the highest class. -/
theorem PortCtl.putBack_full_mem (law : c.queueLaw) (none : ∀ x ∈ c.queue, ¬(x.cls = e.cls ∧ x.key = e.key)) :
    ∃ y, (y = e ∨ y ∈ c.queue) ∧
      (∀ x, x = e ∨ x ∈ c.queue → x.cls.code ≤ y.cls.code ∧ (x.cls = y.cls → x.age ≤ y.age)) ∧
      ∀ x, x ∈ dropYoungest (enqueue e c.queue) ↔ (x = e ∨ x ∈ c.queue) ∧ x ≠ y := by
  obtain ⟨-, keys, order⟩ := law
  have apart : ∀ x ∈ c.queue, e.sameKey x = false := fun x queued => Bool.eq_false_iff.mpr fun same => by
    have same := (QueueEntry.sameKey_iff e x).mp same
    exact none x queued ⟨same.1.symm, same.2.symm⟩
  have nonempty : enqueue e c.queue ≠ [] := List.ne_nil_of_mem ((mem_enqueue e e c.queue).mpr (.inl rfl))
  obtain ⟨y, last⟩ : ∃ y, (enqueue e c.queue).getLast? = some y := ⟨_, List.getLast?_eq_some_getLast nonempty⟩
  refine ⟨y, (mem_enqueue e y _).mp (List.mem_of_getLast? last), fun x mem =>
    youngest_of_getLast? (enqueue_order e order) last ((mem_enqueue e x _).mpr mem), fun x => ?_⟩
  rw [mem_dropYoungest_iff (queue_nodup (enqueue_keys e keys apart)) last, mem_enqueue]

end

/-! #### The frame in flight as an entry again -/

/-- What the frame in flight becomes in the queue. -/
def InFlight.content (f : InFlight) : QueueContent :=
  match f.source with
  | .fixed => .fixed f.frame
  | .beacon => .beacon
  | .fullToken n => .token (.full n)
  | .triggeredToken => .token .triggered

/-- What a queued entry of the frame's key becomes. -/
def InFlight.met (f : InFlight) (x : QueueEntry) : QueueEntry :=
  match f.source with
  | .fixed => { x with age := f.age }
  | .beacon => { x with age := f.age }
  | .fullToken n => { x with age := min x.age f.age, content := .token (.full n) }
  | .triggeredToken => { x with age := min x.age f.age }

/-- The entry the frame in flight returns as. -/
def InFlight.entry (f : InFlight) : QueueEntry := ⟨f.frame.cls, f.key, f.age, f.content⟩

theorem InFlight.met_key (f : InFlight) (x : QueueEntry) : (f.met x).cls = x.cls ∧ (f.met x).key = x.key := by
  unfold InFlight.met
  cases f.source <;> exact ⟨rfl, rfl⟩

theorem PortCtl.takeBack_eq (c : PortCtl) (f : InFlight) :
    c.takeBack f = ({ c with inFlight := none } : PortCtl).putBack f.entry f.met := by
  obtain ⟨key, age, source, frame⟩ := f
  cases source <;> rfl

/-- A return touches the queue, the count of dropped entries and the flight alone. -/
theorem PortCtl.takeBack_rest (c : PortCtl) (f : InFlight) :
    c.takeBack f = { c with
      inFlight := none, queue := (c.takeBack f).queue, queueDrops := (c.takeBack f).queueDrops } := by
  rw [PortCtl.takeBack_eq]
  rcases ({ c with inFlight := none } : PortCtl).putBack_cases f.entry f.met with
    ⟨x, -, -, eq⟩ | ⟨-, -, eq⟩ | ⟨-, -, eq⟩ <;> rw [eq]

/-- How many entries wait after a return. -/
theorem PortCtl.takeBack_length {c : PortCtl} (law : c.queueLaw) (f : InFlight) :
    ((∃ x ∈ c.queue, x.cls = f.frame.cls ∧ x.key = f.key) → (c.takeBack f).queue.length = c.queue.length) ∧
    ((∀ x ∈ c.queue, ¬(x.cls = f.frame.cls ∧ x.key = f.key)) →
      (c.takeBack f).queue.length = min 16 (c.queue.length + 1)) := by
  rw [PortCtl.takeBack_eq]
  have bound : c.queue.length ≤ 16 := law.1
  constructor
  · rintro ⟨x, queued, cls, key⟩
    rw [PortCtl.putBack_present (c := { c with inFlight := none }) (e := f.entry) law queued cls key]
    show (enqueue (f.met x) (c.queue.erase x)).length = _
    have some' : 0 < c.queue.length := List.length_pos_of_mem queued
    rw [length_enqueue, List.length_erase_of_mem queued]
    omega
  · intro none
    by_cases room : c.queue.length < queueCap
    · rw [PortCtl.putBack_room (c := { c with inFlight := Option.none }) (e := f.entry) none room]
      show (enqueue f.entry c.queue).length = _
      unfold queueCap at room
      rw [length_enqueue]
      omega
    · rw [PortCtl.putBack_full (c := { c with inFlight := Option.none }) (e := f.entry) none (Nat.le_of_not_lt room)]
      show (dropYoungest (enqueue f.entry c.queue)).length = _
      unfold queueCap at room
      rw [dropYoungest, List.length_dropLast, length_enqueue]
      omega

/-- The returned frame waits again, unless the queue was full. -/
theorem PortCtl.takeBack_waits {c : PortCtl} (law : c.queueLaw) (f : InFlight) :
    (∃ e ∈ (c.takeBack f).queue, e.cls = f.frame.cls ∧ e.key = f.key) ∨ (c.takeBack f).queue.length = 16 := by
  by_cases queued : ∃ x ∈ c.queue, x.cls = f.frame.cls ∧ x.key = f.key
  · obtain ⟨x, queued, cls, key⟩ := queued
    refine .inl ⟨f.met x, ?_, (f.met_key x).1.trans cls, (f.met_key x).2.trans key⟩
    rw [PortCtl.takeBack_eq, PortCtl.putBack_present (c := { c with inFlight := none }) (e := f.entry) law queued cls key]
    exact (mem_enqueue _ _ _).mpr (.inl rfl)
  · have none : ∀ x ∈ c.queue, ¬(x.cls = f.frame.cls ∧ x.key = f.key) := fun x mem same => queued ⟨x, mem, same⟩
    by_cases room : c.queue.length < queueCap
    · refine .inl ⟨f.entry, ?_, rfl, rfl⟩
      rw [PortCtl.takeBack_eq, PortCtl.putBack_room (c := { c with inFlight := Option.none }) (e := f.entry) none room]
      exact (mem_enqueue _ _ _).mpr (.inl rfl)
    · refine .inr ?_
      rw [(PortCtl.takeBack_length law f).2 none]
      unfold queueCap at room
      omega

/-! #### What the route engine is told (R23, R162) -/

theorem State.tellSent_route (s : State) (p : Port) (f : InFlight) :
    ((f.source = .fixed ∨ f.source = .beacon) → (s.tellSent p f).route = s.route) ∧
    ((f.source = .triggeredToken ∨ ∃ n, f.source = .fullToken n) →
      (s.tellSent p f).route = { s.route with entries := clearCarried p s.route.entries }) := by
  unfold State.tellSent
  refine ⟨?_, ?_⟩
  · rintro (h | h) <;> rw [h] <;> rfl
  · rintro (h | ⟨n, h⟩) <;> rw [h] <;> rfl

theorem State.tellUnsent_route (s : State) (p : Port) (f : InFlight) :
    ((f.source = .fixed ∨ f.source = .beacon) → (s.tellUnsent p f).route = s.route) ∧
    ((f.source = .triggeredToken ∨ ∃ n, f.source = .fullToken n) →
      (s.tellUnsent p f).route = { s.route with entries := resetCarried p s.route.entries }) := by
  unfold State.tellUnsent
  refine ⟨?_, ?_⟩
  · rintro (h | h) <;> rw [h] <;> rfl
  · rintro (h | ⟨n, h⟩) <;> rw [h] <;> rfl

theorem State.tellSent_ports (s : State) (p : Port) (f : InFlight) : (s.tellSent p f).ports = s.ports :=
  s.tellSent_changes p f .ports (by decide)

theorem State.tellUnsent_ports (s : State) (p : Port) (f : InFlight) : (s.tellUnsent p f).ports = s.ports :=
  s.tellUnsent_changes p f .ports (by decide)

/-! #### The three ends of a flight -/

theorem State.frameSent_flying {s : State} {p : Port} {f : InFlight} (flight : (s.ports.get p).inFlight = some f) :
    s.frameSent p = (s.putPort p { s.ports.get p with
      inFlight := none, faultRun := 0, framesSent := bump (s.ports.get p).framesSent }).tellSent p f := by
  unfold State.frameSent
  rw [flight]

theorem State.arbitrationWasLost_flying {s : State} {p : Port} {f : InFlight}
    (flight : (s.ports.get p).inFlight = some f) :
    s.arbitrationWasLost p = (s.putPort p ({ s.ports.get p with
      arbitrationLosses := bump (s.ports.get p).arbitrationLosses }.takeBack f)).tellUnsent p f := by
  unfold State.arbitrationWasLost
  rw [flight]

theorem State.transmitFaulted_flying {s : State} {p : Port} {f : InFlight}
    (flight : (s.ports.get p).inFlight = some f) :
    s.transmitFaulted p = ((s.putPort p ({ s.ports.get p with
      transmitFaults := bump (s.ports.get p).transmitFaults }.takeBack f).raiseFaultRun).tellUnsent p f).updateFault := by
  unfold State.transmitFaulted
  rw [flight]

/-- Settles O15: SENT writes the port, a lost arbitration returns the frame through `PortCtl.putBack`. -/
theorem flightsEnd : Obligations.FlightsEnd := by
  unfold Obligations.FlightsEnd
  intro p f s flight
  constructor
  · have ends := State.frameSent_flying flight
    refine ⟨s.frameSent p, rfl, ?_, ?_, ?_, ?_, s.frameSent_changes p⟩
    · rw [ends, State.tellSent_ports]
      exact s.ports.get_put_same p _
    · rw [ends, State.tellSent_ports]
      exact s.ports.get_put_otherPort p _
    · exact fun h => (congrArg State.route ends).trans ((State.tellSent_route _ p f).1 h)
    · exact fun h => (congrArg State.route ends).trans ((State.tellSent_route _ p f).2 h)
  · intro law
    have ends := State.arbitrationWasLost_flying flight
    generalize counted : { s.ports.get p with
      arbitrationLosses := bump (s.ports.get p).arbitrationLosses } = c at ends
    have port : (s.arbitrationWasLost p).ports.get p = c.takeBack f := by
      rw [ends, State.tellUnsent_ports]
      exact s.ports.get_put_same p _
    have queue : c.queue = (s.ports.get p).queue := by rw [← counted]
    have lawful : c.queueLaw := PortCtl.queueLaw_of_eq law queue
    have back := c.takeBack_rest f
    refine ⟨s.arbitrationWasLost p, rfl, ?_, ?_, ?_, ?_, ?_, ?_, ?_, ?_, ?_, s.arbitrationWasLost_changes p⟩
    · rw [port]
      exact PortCtl.takeBack_queueLaw lawful f
    · rw [port, back]
    · rw [port, back, ← counted]
    · rw [port, back, ← counted]
    · intro none entry all
      have none : ∀ x ∈ c.queue, ¬(x.cls = f.entry.cls ∧ x.key = f.entry.key) := by rw [queue]; exact none
      rw [port, PortCtl.takeBack_eq]
      refine ⟨fun room => ?_, fun full => ?_⟩
      · rw [PortCtl.putBack_room (c := { c with inFlight := Option.none }) none (queue ▸ room), ← counted]
        exact ⟨rfl, fun x => mem_enqueue _ _ _⟩
      · rw [PortCtl.putBack_full (c := { c with inFlight := Option.none }) none (queue ▸ Nat.le_of_eq full.symm), ← counted]
        exact ⟨rfl, PortCtl.putBack_full_mem (e := f.entry) law (queue ▸ none)⟩
    · intro x queued cls key e
      have nodup : c.queue.Nodup := queue_nodup lawful.2.1
      rw [port, PortCtl.takeBack_eq, PortCtl.putBack_present (c := { c with inFlight := none }) (e := f.entry) lawful
        (queue ▸ queued) cls key, mem_enqueue, nodup.mem_erase_iff, queue, or_comm, and_comm]
      rfl
    · exact fun h => (congrArg State.route ends).trans ((State.tellUnsent_route _ p f).1 h)
    · exact fun h => (congrArg State.route ends).trans ((State.tellUnsent_route _ p f).2 h)
    · rw [ends, State.tellUnsent_ports]
      exact s.ports.get_put_otherPort p _

theorem State.faultCondition_of_down {s : State} {p : Port} (used : (s.ports.get p).inUse = true)
    (down : (s.ports.get p).state = .down) : s.faultCondition = true := by
  rw [State.faultCondition_eq]
  cases p
  · simp [used, down]
  · simp [used, down]

/-- Settles O16: the frame returns, then the fault run decides between the run and DOWN. -/
theorem transmitFaultCounts : Obligations.TransmitFaultCounts := by
  unfold Obligations.TransmitFaultCounts
  intro p f s flight used law
  have ends := State.transmitFaulted_flying flight
  generalize counted : { s.ports.get p with
    transmitFaults := bump (s.ports.get p).transmitFaults } = c at ends
  have queue : c.queue = (s.ports.get p).queue := by rw [← counted]
  have run : c.faultRun = (s.ports.get p).faultRun := by rw [← counted]
  have lawful : c.queueLaw := PortCtl.queueLaw_of_eq law queue
  have back := c.takeBack_rest f
  have backRun : (c.takeBack f).faultRun = (s.ports.get p).faultRun := by rw [back, run]
  have port : (s.transmitFaulted p).ports.get p = (c.takeBack f).raiseFaultRun := by
    rw [ends, State.updateFault_ports, State.tellUnsent_ports]
    exact s.ports.get_put_same p _
  refine ⟨s.transmitFaulted p, rfl, ?_, ?_, fun few => ?_, fun many => ?_, ?_, ?_, ?_,
    s.transmitFaulted_changes p⟩
  · rw [port, PortCtl.raiseFaultRun, back]
    split <;> rfl
  · rw [port, PortCtl.raiseFaultRun, back, ← counted]
    split <;> rfl
  · have raised : (c.takeBack f).raiseFaultRun = { c.takeBack f with faultRun := (c.takeBack f).faultRun + 1 } :=
      if_neg (by omega)
    rw [port, raised]
    refine ⟨congrArg (· + 1) backRun, ?_, PortCtl.takeBack_queueLaw lawful f, PortCtl.takeBack_waits lawful f⟩
    rw [back, ← counted]
  · have gone : (c.takeBack f).raiseFaultRun = (c.takeBack f).goDown := if_pos (by omega)
    have downed : ((s.transmitFaulted p).ports.get p).state = .down := by rw [port, gone]; rfl
    have inUse : ((s.transmitFaulted p).ports.get p).inUse = true := by
      rw [port, PortCtl.raiseFaultRun_inUse, back, ← counted]
      exact used
    refine ⟨downed, by rw [port, gone]; rfl, by rw [port, gone]; rfl, by rw [port, gone]; rfl, ?_, ?_, ?_, ?_⟩
    · rw [port, gone, back, ← counted]
      rfl
    · rw [ends] at downed inUse ⊢
      exact State.faultCondition_of_down inUse downed
    all_goals
      intro waiting
      rw [port, gone]
      show bumpBy (c.takeBack f).lostAtDown (c.takeBack f).queue.length = _
    · rw [(PortCtl.takeBack_length lawful f).1 (queue ▸ waiting), back, queue, ← counted]
      rfl
    · rw [(PortCtl.takeBack_length lawful f).2 (queue ▸ waiting), back, queue, ← counted]
      rfl
  · exact fun h => (congrArg State.route ends).trans ((State.tellUnsent_route _ p f).1 h)
  · exact fun h => (congrArg State.route ends).trans ((State.tellUnsent_route _ p f).2 h)
  · rw [ends, State.updateFault_ports, State.tellUnsent_ports]
    exact s.ports.get_put_otherPort p _

end Sys2Proof.Machine

/-! ### Transmission starts (R22, R153, R161) -/

namespace Sys2Proof.Machine

theorem PerPort.put_put {α : Type} (v : PerPort α) (p : Port) (x y : α) : (v.put p x).put p y = v.put p y := by
  cases p <;> rfl

theorem State.startTransmission_free {s : State} {p : Port} (operating : s.start.lifecycle = .operating)
    (used : (s.ports.get p).inUse = true) (up : (s.ports.get p).state = .up)
    (idle : (s.ports.get p).inFlight = none) : s.startTransmission p = s.startHead p (s.ports.get p).queue := by
  refine if_pos ?_
  simp [State.canTransmit, operating, used, up, idle]

section

variable {s : State} {p : Port} {e : QueueEntry} {rest : List QueueEntry}

theorem State.startHead_fixed {frame : TxFrame} (content : e.content = .fixed frame) :
    s.startHead p (e :: rest) = s.launch p rest ⟨e.key, e.age, .fixed, frame⟩ := by
  rw [State.startHead, content]

theorem State.startHead_beacon (content : e.content = .beacon) :
    s.startHead p (e :: rest) = s.launch p rest ⟨e.key, e.age, .beacon, s.beaconFrame⟩ := by
  rw [State.startHead, content]

theorem State.startHead_empty {kind : TokenKind} (content : e.content = .token kind)
    (nothing : carriedBy p kind s.route.entries = []) : s.startHead p (e :: rest) = s.startHead p rest := by
  rw [State.startHead, content]
  simp only [nothing]

theorem State.startHead_token {kind : TokenKind} (content : e.content = .token kind)
    (some' : carriedBy p kind s.route.entries ≠ []) :
    s.startHead p (e :: rest) = s.launchToken p e kind rest (carriedBy p kind s.route.entries) := by
  obtain ⟨x, more, carried⟩ := List.exists_cons_of_ne_nil some'
  rw [State.startHead, content]
  simp only [carried]

/-- A start reads the queue it is given, not the one that stands at the port. -/
theorem State.startHead_queue (q r : List QueueEntry) :
    (s.putPort p { s.ports.get p with queue := r }).startHead p q = s.startHead p q := by
  have launched (rest : List QueueEntry) (f : InFlight) :
      (s.putPort p { s.ports.get p with queue := r }).launch p rest f = s.launch p rest f := by
    unfold State.launch State.putPort
    simp only [PerPort.get_put_same, PerPort.put_put]
  induction q with
  | nil =>
    unfold State.startHead State.putPort
    simp only [PerPort.get_put_same, PerPort.put_put]
  | cons e rest ih =>
    cases content : e.content with
    | fixed frame => rw [State.startHead_fixed content, State.startHead_fixed content, launched]
    | beacon =>
      rw [State.startHead_beacon content, State.startHead_beacon content, launched]
      rfl
    | token kind =>
      by_cases nothing : carriedBy p kind s.route.entries = []
      · exact (State.startHead_empty (s := s.putPort p _) content nothing).trans
          (ih.trans (State.startHead_empty content nothing).symm)
      · refine (State.startHead_token (s := s.putPort p _) content nothing).trans
          (Eq.trans ?_ (State.startHead_token content nothing).symm)
        unfold State.launchToken State.launch State.routeDo State.putPort
        simp only [PerPort.get_put_same, PerPort.put_put]
        rfl

end

/-- What stays queued of a FULL round (R161). -/
theorem tokenRest_full (p : Port) (cursor last : Nat) (t : List RouteEntry) :
    ((∃ e ∈ t, last < e.dest) → tokenRest p (.full cursor) last t = some (.full (last + 1))) ∧
    ((¬∃ e ∈ t, last < e.dest) → (∃ e ∈ t, e.marks.get p = .set) →
      tokenRest p (.full cursor) last t = some .triggered) ∧
    ((¬∃ e ∈ t, last < e.dest) → (¬∃ e ∈ t, e.marks.get p = .set) → tokenRest p (.full cursor) last t = none) := by
  have more : t.any (fun e => decide (last + 1 ≤ e.dest)) = true ↔ ∃ e ∈ t, last < e.dest :=
    List.any_eq_true.trans (exists_congr fun e => and_congr_right fun _ => decide_eq_true_iff)
  refine ⟨fun h => if_pos (more.mpr h), fun h k => ?_, fun h k => ?_⟩
  · exact (if_neg fun m => h (more.mp m)).trans (if_pos ((anyMarkSet_iff p t).mpr k))
  · exact (if_neg fun m => h (more.mp m)).trans (if_neg fun m => k ((anyMarkSet_iff p t).mp m))

theorem tokenRest_triggered (p : Port) (last : Nat) (t : List RouteEntry) :
    ((∃ e ∈ t, e.marks.get p = .set) → tokenRest p .triggered last t = some .triggered) ∧
    ((¬∃ e ∈ t, e.marks.get p = .set) → tokenRest p .triggered last t = none) :=
  ⟨fun h => if_pos ((anyMarkSet_iff p t).mpr h), fun h => if_neg fun m => h ((anyMarkSet_iff p t).mp m)⟩

theorem exists_markCarried (p : Port) (ids : List Nat) (t : List RouteEntry) (last : Nat) :
    (∃ e ∈ markCarried p ids t, last < e.dest) ↔ ∃ e ∈ t, last < e.dest := by
  have kept (e : RouteEntry) :
      (if ids.contains e.dest then { e with marks := e.marks.put p .carried } else e).dest = e.dest := by split <;> rfl
  unfold markCarried
  constructor
  · rintro ⟨_, mem, above⟩
    obtain ⟨e, held, rfl⟩ := List.mem_map.mp mem
    exact ⟨e, held, (kept e) ▸ above⟩
  · rintro ⟨e, held, above⟩
    exact ⟨_, List.mem_map_of_mem held, (kept e).symm ▸ above⟩

/-- What a token's launch leaves at its port. -/
theorem State.launchToken_port (s : State) (p : Port) (e : QueueEntry) (kind : TokenKind) (rest : List QueueEntry)
    (carried : List RouteEntry) :
    ((s.launchToken p e kind rest carried).ports.get p).inFlight = some ⟨e.key, e.age, tokenOrigin kind (firstId carried),
      s.ownFrame .advert (advertPayload (carried.map (advertised s.cfg)))⟩ ∧
    ((s.launchToken p e kind rest carried).ports.get p).queue =
      ((tokenRest p kind (lastId carried)
        (markCarried p (carried.map (fun x => x.dest)) s.route.entries)).map
          (fun k => { e with content := .token k })).toList ++ rest := by
  unfold State.launchToken State.launch
  simp only [State.putPort_ports, PerPort.get_put_same]
  refine ⟨trivial, ?_⟩
  cases tokenRest p kind (lastId carried) (markCarried p (carried.map (fun x => x.dest)) s.route.entries) <;> rfl

/-- Settles O14: the head's content decides; a token's launch is read at its port and in the table. -/
theorem transmissionStarts : Obligations.TransmissionStarts := by
  unfold Obligations.TransmissionStarts
  intro p e rest s operating used up idle queue told
  have starts : s.startTransmission p = s.startHead p (e :: rest) := by
    rw [State.startTransmission_free operating used up idle, queue]
  have tells : advertised s.cfg = told := by
    funext x
    simp only [told, advertised]
    cases x.state with
    | reachable =>
      dsimp only
      cases x.nextHop with
      | slot n =>
        simp only [neighbourOf]
        cases s.cfg.neighbours[n]? <;> rfl
      | self => rfl
      | none => rfl
    | _ => rfl
  have launched (rest : List QueueEntry) (f : InFlight) :
      (s.launch p rest f).ports.get (otherPort p) = s.ports.get (otherPort p) := s.ports.get_put_otherPort p _
  refine ⟨fun frame content => ?_, fun content => ?_, fun kind content => ?_⟩
  · refine ⟨s.startTransmission p, rfl, ?_⟩
    rw [starts, State.startHead_fixed content]
    exact ⟨s.ports.get_put_same p _, launched _ _, s.launch_changes p _ _⟩
  · refine ⟨s.startTransmission p, s.beaconFrame, rfl, ?_⟩
    rw [starts, State.startHead_beacon content]
    exact ⟨s.ports.get_put_same p _, rfl, rfl, rfl, rfl, rfl, launched _ _, s.launch_changes p _ _⟩
  intro holds carried
  have carries : carriedBy p kind s.route.entries = carried := by cases kind <;> rfl
  constructor
  · intro nothing
    refine congrArg Host.Outcome.next ?_
    have next : (s.putPort p { s.ports.get p with queue := rest }).startTransmission p =
        (s.putPort p { s.ports.get p with queue := rest }).startHead p rest := by
      have same := s.ports.get_put_same p { s.ports.get p with queue := rest }
      exact (State.startTransmission_free (s := s.putPort p { s.ports.get p with queue := rest }) operating
        ((congrArg PortCtl.inUse same).trans used) ((congrArg PortCtl.state same).trans up)
        ((congrArg PortCtl.inFlight same).trans idle)).trans
          (congrArg (State.startHead _ p) (congrArg PortCtl.queue same))
    rw [next, State.startHead_queue, starts, State.startHead_empty content (carries.trans nothing)]
  · intro first last head tail
    have some' : carriedBy p kind s.route.entries ≠ [] := fun none => by
      rw [carries] at none
      rw [none] at head
      cases head
    have begins := starts.trans (State.startHead_token (rest := rest) content some')
    rw [carries] at begins
    obtain ⟨flight, waits⟩ := s.launchToken_port p e kind rest carried
    have firstDest : firstId carried = first.dest := by rw [firstId, head]; rfl
    have lastDest : lastId carried = last.dest := by rw [lastId, tail]; rfl
    have route : (s.startTransmission p).route =
        { s.route with entries := markCarried p (carried.map (fun x => x.dest)) s.route.entries } := by
      rw [begins]; rfl
    refine ⟨s.startTransmission p, _, rfl, (congrArg (fun t => (t.ports.get p).inFlight) begins).trans flight,
      rfl, rfl, ?_, ?_, ?_, ?_, ?_, s.startTransmission_changes p⟩
    · rw [firstDest]
      cases kind <;> rfl
    · rw [tells]
    · rw [route]
      simp only [markCarried, List.contains_iff_mem]
    · refine (congrArg (fun t => (t.ports.get p).queue) begins).trans (waits.trans ?_)
      rw [lastDest, route]
      refine congrArg (· ++ rest) ?_
      have further := exists_markCarried p (carried.map (fun x => x.dest)) s.route.entries last.dest
      cases kind with
      | full cursor =>
        obtain ⟨more, marked, spent⟩ := tokenRest_full p cursor last.dest
          (markCarried p (carried.map (fun x => x.dest)) s.route.entries)
        dsimp only
        split
        · next h => rw [more (further.mpr h)]; rfl
        · next h =>
          split
          · next k => rw [marked (fun m => h (further.mp m)) k]; rfl
          · next k => rw [spent (fun m => h (further.mp m)) k]; rfl
      | triggered =>
        obtain ⟨marked, spent⟩ := tokenRest_triggered p last.dest
          (markCarried p (carried.map (fun x => x.dest)) s.route.entries)
        dsimp only
        split
        · next k =>
          rw [marked k]
          show [({ e with content := .token .triggered } : QueueEntry)] = [e]
          rw [← content]
        · next k => rw [spent k]; rfl
    · rw [begins]
      exact launched _ _

end Sys2Proof.Machine

/-! ### Solicit responses (R45, R175) -/

namespace Sys2Proof.Machine

/-- An entry whose class and age come after all that waits is put at the end. -/
theorem enqueue_last {e : QueueEntry} {q : List QueueEntry}
    (after : ∀ x ∈ q, x.cls.code ≤ e.cls.code ∧ x.age < e.age) : enqueue e q = q ++ [e] := by
  induction q with
  | nil => rfl
  | cons x q ih =>
    obtain ⟨class', age⟩ := after x List.mem_cons_self
    have behind : e.before x = false := (QueueEntry.not_before_iff x e).mpr (by omega)
    show insertBy QueueEntry.before e (x :: q) = _
    rw [insertBy, if_neg (by simp [behind])]
    exact congrArg (x :: ·) (ih fun y mem => after y (List.mem_cons_of_mem _ mem))

/-- A request after another in class order, of another key. -/
def followsRequest (x y : FrameClass × QueueKey × QueueContent) : Prop :=
  x.1.code ≤ y.1.code ∧ ¬(x.1 = y.1 ∧ x.2.1 = y.2.1)

/-- A run of requests in class order, each of its own key, fills a queue in its order. -/
theorem PortCtl.joins_appends {l : List (FrameClass × QueueKey × QueueContent)} {c : PortCtl} (used : c.inUse = true)
    (up : c.state = .up) (ages : ∀ x ∈ c.queue, x.age < c.nextAge)
    (after : ∀ x ∈ c.queue, ∀ y ∈ l, followsRequest (x.cls, x.key, x.content) y) (order : l.Pairwise followsRequest)
    (fits : c.queue.length + l.length ≤ 16) :
    (c.joins l).queue.map (fun e => e.content) = c.queue.map (fun e => e.content) ++ l.map (fun y => y.2.2) := by
  induction l generalizing c with
  | nil => simp [PortCtl.joins]
  | cons y l ih =>
    obtain ⟨first, rest⟩ := List.pairwise_cons.mp order
    rw [List.length_cons] at fits
    have joined : c.asked true y.1 y.2.1 y.2.2 = { c with
        queue := c.queue ++ [⟨y.1, y.2.1, c.nextAge, y.2.2⟩], nextAge := c.nextAge + 1 } := by
      rw [PortCtl.asked_of_up used up, PortCtl.join_of_room _
        (fun x mem => (after x mem y List.mem_cons_self).2) (by unfold queueCap; omega),
        enqueue_last fun x mem => ⟨(after x mem y List.mem_cons_self).1, ages x mem⟩]
    show ((c.asked true y.1 y.2.1 y.2.2).joins l).queue.map _ = _
    rw [joined]
    refine (ih (c := { c with queue := c.queue ++ [⟨y.1, y.2.1, c.nextAge, y.2.2⟩], nextAge := c.nextAge + 1 })
      used up ?_ ?_ rest ?_).trans (by simp)
    · intro x mem
      rcases List.mem_append.mp mem with old | new
      · exact Nat.lt_succ_of_lt (ages x old)
      · rw [List.mem_singleton.mp new]
        exact Nat.lt_succ_self _
    · intro x mem z later
      rcases List.mem_append.mp mem with old | new
      · exact after x old z (List.mem_cons_of_mem _ later)
      · rw [List.mem_singleton.mp new]
        exact first z later
    · simp only [List.length_append, List.length_cons, List.length_nil]
      omega

/-- An item of a response: whether it is marked, and the frame that carries it. -/
structure ResponseItem where
  marked : Bool
  cls : FrameClass
  key : QueueKey
  origin : Nat
  payload : List Byte

/-- The request that an unmarked item makes at a node of a number. -/
def ResponseItem.request (i : ResponseItem) (node : Nat) : FrameClass × QueueKey × QueueContent :=
  (i.cls, i.key, .fixed ⟨i.cls, 0, node, i.origin, i.payload⟩)

def State.respondItem (p : Port) (s : State) (i : ResponseItem) : State :=
  s.respond p i.marked i.cls i.key i.origin i.payload

/-- The items of a response in class and key order (R45). -/
def State.responseItems (s : State) (c : Schedule) : List ResponseItem :=
  (s.alarm.alarmPayload.toList.map fun o => ⟨c.alarmMark, .alarm, .whole, s.alarm.origin, o⟩) ++
    (s.alarm.reports.map fun r =>
      ⟨c.zoneMarks.contains (r.origin, r.number), .zone, .zoneReport r.origin r.number, r.origin, r.payload⟩) ++
    s.alarm.reassignments.map fun r =>
      ⟨c.placeMarks.contains (r.zone, r.kind), .reassign, .place r.zone r.kind.code, r.origin,
        r.payload (s.alarm.epoch.getD 0)⟩

theorem State.respondItem_effect {s : State} (operating : s.start.lifecycle = .operating) (p : Port) (i : ResponseItem) :
    (s.respondItem p i).start =
        (if i.marked then { s.start with suppressedItems := bump s.start.suppressedItems } else s.start) ∧
      (s.respondItem p i).ports.get p = (s.ports.get p).joins (if i.marked then [] else [i.request s.cfg.nodeNumber]) ∧
      (s.respondItem p i).ports.get (otherPort p) = s.ports.get (otherPort p) := by
  unfold State.respondItem State.respond
  cases i.marked
  · refine ⟨s.request_changes p _ _ _ .start (by decide), ?_, s.request_other_port p _ _ _⟩
    show (s.request p _ _ _).ports.get p = _
    rw [State.request_get, decide_eq_true operating]
    rfl
  · exact ⟨rfl, rfl, rfl⟩

theorem PortCtl.joins_append (c : PortCtl) (l m : List (FrameClass × QueueKey × QueueContent)) :
    (c.joins l).joins m = c.joins (l ++ m) := List.foldl_append.symm

/-- A run of items: the marked are counted, the others requested in their order. -/
theorem State.respondItems_effect {l : List ResponseItem} {s : State} (operating : s.start.lifecycle = .operating)
    (bound : s.start.suppressedItems ≤ 65535) (p : Port) :
    (l.foldl (State.respondItem p) s).start =
        { s.start with suppressedItems := min 65535 (s.start.suppressedItems + l.countP (fun i => i.marked)) } ∧
      (l.foldl (State.respondItem p) s).ports.get p =
        (s.ports.get p).joins ((l.filter (fun i => !i.marked)).map (fun i => i.request s.cfg.nodeNumber)) ∧
      (l.foldl (State.respondItem p) s).ports.get (otherPort p) = s.ports.get (otherPort p) := by
  induction l generalizing s with
  | nil => exact ⟨by rw [List.countP_nil, Nat.add_zero, Nat.min_eq_right bound]; rfl, rfl, rfl⟩
  | cons i l ih =>
    obtain ⟨start, port, other⟩ := State.respondItem_effect operating p i
    have config : (s.respondItem p i).cfg = s.cfg := by
      unfold State.cfg
      rw [start]
      split <;> rfl
    obtain ⟨starts, ports, others⟩ := ih (s := s.respondItem p i)
      (by rw [start]; split <;> exact operating)
      (by rw [start]; split <;> first | exact Nat.min_le_left _ _ | exact bound)
    refine ⟨?_, ?_, others.trans other⟩
    · refine starts.trans ?_
      rw [start, List.countP_cons]
      have more : min 65535 (bump s.start.suppressedItems + l.countP (fun i => i.marked)) =
          min 65535 (s.start.suppressedItems + (l.countP (fun i => i.marked) + 1)) := by unfold bump; omega
      cases i.marked
      · rfl
      · exact congrArg (fun n => { s.start with suppressedItems := n }) more
    · refine ports.trans ?_
      rw [port, config, PortCtl.joins_append, List.filter_cons]
      cases i.marked <;> rfl

theorem State.responseEnds_due {s : State} {p : Port} {c : Schedule} (operating : s.start.lifecycle = .operating)
    (scheduled : s.start.schedules.get p = some c) (due : c.deadline ≤ s.clock) :
    s.responseEnds p = ((s.responseItems c).foldl (State.respondItem p)
      (s.startDo (fun b => { b with schedules := b.schedules.put p none }))).requestToken p (.full 1) := by
  unfold State.responseEnds
  rw [scheduled]
  simp only [operating, due, and_self, if_true]
  congr 1
  have alarm : ∀ t : State, t.respondAlarm p c =
      (t.alarm.alarmPayload.toList.map fun o =>
        (⟨c.alarmMark, .alarm, .whole, t.alarm.origin, o⟩ : ResponseItem)).foldl (State.respondItem p) t := by
    intro t
    unfold State.respondAlarm
    cases t.alarm.alarmPayload <;> rfl
  unfold State.responseItems
  rw [List.foldl_append, List.foldl_append, List.foldl_map (l := s.alarm.reports),
    List.foldl_map (l := s.alarm.reassignments)]
  have first := alarm (s.startDo (fun b => { b with schedules := b.schedules.put p none }))
  rw [State.startDo_alarm] at first
  have keeps : ∀ (l : List ResponseItem) (t : State), (l.foldl (State.respondItem p) t).alarm = t.alarm := fun l t =>
    OnlyChanges.foldl (a := [.start, .ports]) (fun t i => t.respond_changes p _ _ _ _ _) l t .alarm (by decide)
  unfold State.respondPlaces State.respondZones
  rw [first, keeps, State.startDo_alarm]
  have zones : ∀ (l : List ZoneReport) (t : State), (l.foldl (fun t r =>
      t.respond p (c.zoneMarks.contains (r.origin, r.number)) .zone (.zoneReport r.origin r.number)
        r.origin r.payload) t).alarm = t.alarm := fun l t =>
    OnlyChanges.foldl (a := [.start, .ports]) (fun t i => t.respond_changes p _ _ _ _ _) l t .alarm (by decide)
  rw [zones, keeps, State.startDo_alarm]
  rfl

/-- In class and key order an item follows those before it. -/
theorem State.responseItems_order {s : State} (reports : s.reportLaw) (places : s.reassignLaw) (c : Schedule) (node : Nat) :
    ((s.responseItems c).map (fun i => i.request node)).Pairwise followsRequest := by
  have zones : s.alarm.reports.Pairwise (fun x y => ¬(x.origin = y.origin ∧ x.number = y.number)) :=
    reports.2.1.imp fun {x y} before => by
      rw [ZoneReport.before_iff] at before
      omega
  have kept : s.alarm.reassignments.Pairwise (fun x y => ¬(x.zone = y.zone ∧ x.kind.code = y.kind.code)) :=
    places.1.imp fun {x y} before => by
      rw [Reassignment.before_iff] at before
      omega
  unfold State.responseItems
  rw [List.pairwise_map, List.pairwise_append, List.pairwise_append]
  refine ⟨⟨?_, ?_, ?_⟩, ?_, ?_⟩
  · cases s.alarm.alarmPayload
    · exact List.Pairwise.nil
    · exact List.pairwise_singleton _ _
  · rw [List.pairwise_map]
    refine zones.imp fun {x y} apart => ⟨Nat.le_refl _, fun same => apart ?_⟩
    have key := same.2
    simp only [ResponseItem.request, QueueKey.zoneReport.injEq] at key
    exact key
  · intro a ha b hb
    obtain ⟨o, -, rfl⟩ := List.mem_map.mp ha
    obtain ⟨r, -, rfl⟩ := List.mem_map.mp hb
    exact ⟨Nat.zero_le _, fun same => nomatch same.1⟩
  · rw [List.pairwise_map]
    refine kept.imp fun {x y} apart => ⟨Nat.le_refl _, fun same => apart ?_⟩
    have key := same.2
    simp only [ResponseItem.request, QueueKey.place.injEq] at key
    exact key
  · intro a ha b hb
    obtain ⟨z, -, rfl⟩ := List.mem_map.mp hb
    rcases List.mem_append.mp ha with ha | ha
    · obtain ⟨o, -, rfl⟩ := List.mem_map.mp ha
      exact ⟨Nat.zero_le _, fun same => nomatch same.1⟩
    · obtain ⟨r, -, rfl⟩ := List.mem_map.mp ha
      exact ⟨show FrameClass.code .zone ≤ FrameClass.code .reassign by decide, fun same => nomatch same.1⟩

theorem length_filter_not {α : Type} (f : α → Bool) (l : List α) :
    l.length - (l.filter (fun x => !f x)).length = l.countP f := by
  have parts := List.length_eq_countP_add_countP f (l := l)
  have same : l.countP (fun x => decide (¬f x = true)) = l.countP (fun x => !f x) :=
    List.countP_congr fun x _ => by simp
  rw [← List.countP_eq_length_filter]
  omega

/-- Settles O10: the items of a response are one run of requests in class and key order, the token last. -/
theorem responseDeadlineAnswers : Obligations.ResponseDeadlineAnswers := by
  unfold Obligations.ResponseDeadlineAnswers
  intro p c s operating scheduled due used up empty reports reassigns bound zones places alarm marked fits
  have ends := State.responseEnds_due operating scheduled due
  generalize idle : s.startDo (fun b => { b with schedules := b.schedules.put p none }) = t at ends
  have lifecycle : t.start.lifecycle = .operating := by rw [← idle]; exact operating
  have suppressed : t.start.suppressedItems ≤ 65535 := by rw [← idle]; exact bound
  have cfg : t.cfg = s.cfg := by rw [← idle]; rfl
  have ports : t.ports = s.ports := by rw [← idle]; rfl
  obtain ⟨start, port, other⟩ := State.respondItems_effect (l := s.responseItems c) lifecycle suppressed p
  generalize (s.responseItems c).foldl (State.respondItem p) t = u at ends start port other
  have tokenStart : (u.requestToken p (.full 1)).start = u.start := u.requestToken_changes p _ .start (by decide)
  have alarms : (s.alarm.alarmPayload.toList.map fun o =>
      (⟨c.alarmMark, .alarm, .whole, s.alarm.origin, o⟩ : ResponseItem)).filter (fun i => !i.marked) =
      alarm.map fun o => ⟨c.alarmMark, .alarm, .whole, s.alarm.origin, o⟩ := by
    simp only [alarm, List.filter_map]
    cases c.alarmMark with
    | true => simp [Function.comp_def]
    | false => exact congrArg (List.map _) (List.filter_eq_self.mpr fun _ _ => rfl)
  have unmarked : (s.responseItems c).filter (fun i => !i.marked) =
      (alarm.map fun o => ⟨c.alarmMark, .alarm, .whole, s.alarm.origin, o⟩) ++
      (zones.map fun r =>
        ⟨c.zoneMarks.contains (r.origin, r.number), .zone, .zoneReport r.origin r.number, r.origin, r.payload⟩) ++
      places.map fun r =>
        ⟨c.placeMarks.contains (r.zone, r.kind), .reassign, .place r.zone r.kind.code, r.origin,
          r.payload (s.alarm.epoch.getD 0)⟩ := by
    unfold State.responseItems
    rw [List.filter_append, List.filter_append, alarms, List.filter_map, List.filter_map]
    rfl
  have alarmCount : (s.alarm.alarmPayload.toList.map fun o =>
      (⟨c.alarmMark, .alarm, .whole, s.alarm.origin, o⟩ : ResponseItem)).countP (fun i => i.marked) =
      s.alarm.alarmPayload.toList.length - alarm.length := by
    simp only [alarm, List.countP_map]
    cases c.alarmMark <;> simp [Function.comp_def]
  have count : (s.responseItems c).countP (fun i => i.marked) = marked := by
    unfold State.responseItems
    rw [List.countP_append, List.countP_append, alarmCount, List.countP_map, List.countP_map]
    simp only [marked, zones, places]
    rw [length_filter_not, length_filter_not]
    rfl
  have requests : (u.requestToken p (.full 1)).ports.get p =
      (s.ports.get p).joins ((((s.responseItems c).filter (fun i => !i.marked)).map
        (fun i => i.request s.cfg.nodeNumber)) ++ [(.advert, .token, .token (.full 1))]) := by
    rw [← PortCtl.joins_append, State.requestToken, State.request_get, port, start, cfg, ports]
    exact congrArg (fun operating => PortCtl.asked _ operating .advert .token (.token (.full 1))) (decide_eq_true lifecycle)
  refine ⟨s.responseEnds p, rfl, ?_, ?_, ?_, ?_, ?_, s.responseEnds_changes p⟩
  · rw [ends, tokenStart, start, ← idle]
    exact s.start.schedules.get_put_same p none
  · rw [ends, tokenStart, start, ← idle]
    exact s.start.schedules.get_put_otherPort p none
  · rw [ends, tokenStart, start, count, ← idle]
    rfl
  · rw [ends, requests, PortCtl.joins_appends used up (by simp [empty]) (by simp [empty]) ?_ ?_]
    · rw [empty, unmarked]
      simp [ResponseItem.request, Function.comp_def]
    · refine List.pairwise_append.mpr ⟨?_, List.pairwise_singleton _ _, ?_⟩
      · exact (State.responseItems_order reports reassigns c s.cfg.nodeNumber).sublist (List.filter_sublist.map _)
      · intro a ha b hb
        rw [List.mem_singleton.mp hb, unmarked] at *
        simp only [List.map_append, List.map_map, List.mem_append, List.mem_map] at ha
        rcases ha with (⟨o, -, rfl⟩ | ⟨r, -, rfl⟩) | ⟨r, -, rfl⟩
        · exact ⟨Nat.zero_le _, fun same => nomatch same.1⟩
        · exact ⟨show FrameClass.code .zone ≤ FrameClass.code .advert by decide, fun same => nomatch same.1⟩
        · exact ⟨show FrameClass.code .reassign ≤ FrameClass.code .advert by decide, fun same => nomatch same.1⟩
    · rw [empty, unmarked]
      simp only [List.length_append, List.length_map, List.length_cons, List.length_nil]
      omega
  · rw [ends]
    exact (u.request_other_port p _ _ _).trans (other.trans (by rw [ports]))

end Sys2Proof.Machine

/-! ### The end of a page selector event, and its deadlines (R121 to R126) -/

namespace Sys2Proof.Machine

/-- What an event leaves at the page selector: what the selection leaves, with the page handed. -/
theorem State.finishPage_page (s : State) (set : Bool) (cause : PageCause) :
    ∃ h n, (s.finishPage set cause).page =
      { s.page.select s.arbiter s.dwellFrom set with handed := h, pageChanges := n } := by
  obtain ⟨n, page⟩ := (s.pageDo (fun p => p.select s.arbiter s.dwellFrom set)).handOver_page cause
  exact ⟨_, n, page⟩

/-- The selection touches the selected page, the rotation position and the dwell alone. -/
theorem PageSelector.select_keeps (p : PageSelector) (chosen : Page) (dwell : Nat) (set : Bool) :
    p.select chosen dwell set = { p with
      selected := (p.select chosen dwell set).selected, rotation := (p.select chosen dwell set).rotation
      dwell := (p.select chosen dwell set).dwell } := by
  unfold PageSelector.select
  split
  · split <;> rfl
  · rfl

/-- A page that stays selected: outside the rotation there is no dwell. -/
theorem PageSelector.select_stays {p : PageSelector} {chosen : Page} (stays : p.selected = chosen) (dwell : Nat)
    (set : Bool) : p.select chosen dwell set = { p with dwell := if chosen.isRotation then p.dwell else none } := by
  subst stays
  unfold PageSelector.select
  cases p.selected.isRotation <;> rfl

/-- A turn within the rotation. -/
theorem PageSelector.select_turns {p : PageSelector} {chosen : Page} (was : p.selected.isRotation = true)
    (is : chosen.isRotation = true) (dwell : Nat) (set : Bool) :
    p.select chosen dwell set = { p with selected := chosen } := by
  unfold PageSelector.select
  rw [if_pos is, if_pos was]

theorem State.finishPage_quiet (s : State) (set : Bool) (cause : PageCause) :
    (s.finishPage set cause).panel.quiet = s.panel.quiet := by
  obtain ⟨-, quiet, -⟩ := (s.pageDo (fun p => p.select s.arbiter s.dwellFrom set)).handOver_side cause
  exact quiet

theorem PanelCtl.takeQuiet_quiet (e : PanelEnv) (q : Bool) (p : PanelCtl) : (p.takeQuiet e q).quiet = q := by
  unfold PanelCtl.takeQuiet
  dsimp only
  split
  · exact (PanelCtl.tryChoice_side e { p with quiet := q }).2.1
  · next lit =>
    unfold PanelCtl.retarget
    simp [lit]

/-! #### Changes of quiet (R125) -/

section

variable {s : State} {f : PageSelector → PageSelector}

theorem State.changeQuiet_same (same : s.page.quietInEffect = (f s.page).quietInEffect) :
    s.changeQuiet f = (s.pageDo f).finishPage false .other := by
  unfold State.changeQuiet State.quietChanged
  rw [State.pageDo_page, ← same]
  simp

theorem State.changeQuiet_begins (before : s.page.quietInEffect = false) (after : (f s.page).quietInEffect = true) :
    s.changeQuiet f = ((s.pageDo (fun p => { f p with rotation := .route, dwell := none })).panelDo
      (fun e p => p.takeQuiet e true)).finishPage false .other := by
  unfold State.changeQuiet State.quietChanged
  rw [State.pageDo_page, before, after]
  rfl

theorem State.changeQuiet_ends (before : s.page.quietInEffect = true) (after : (f s.page).quietInEffect = false) :
    s.changeQuiet f = ((s.pageDo (fun p => if (f p).selected.isRotation then { f p with dwell := some s.dwellFrom }
      else f p)).panelDo (fun e p => p.takeQuiet e false)).finishPage false .other := by
  unfold State.changeQuiet State.quietChanged
  rw [State.pageDo_page, before, after]
  rfl

theorem State.changeQuiet_shown (s : State) (f : PageSelector → PageSelector) : (s.changeQuiet f).shown :=
  State.finishPage_shown _ _ _

/-- Quiet coming into effect: the rotation stands at ROUTE without a dwell, and the panel is told. -/
theorem State.changeQuiet_enters (before : s.page.quietInEffect = false) (after : (f s.page).quietInEffect = true) :
    ∃ selected h n, (s.changeQuiet f).page = { f s.page with
        selected := selected, rotation := .route, dwell := none, handed := h, pageChanges := n } ∧
      (s.changeQuiet f).panel.quiet = true := by
  rw [State.changeQuiet_begins before after]
  generalize told : (s.pageDo _).panelDo _ = u
  have page : u.page = { f s.page with rotation := .route, dwell := none } := by rw [← told]; rfl
  obtain ⟨h, n, eq⟩ := u.finishPage_page false .other
  refine ⟨(u.page.select u.arbiter u.dwellFrom false).selected, h, n, ?_, ?_⟩
  · have effect : ({ f s.page with rotation := .route, dwell := none } : PageSelector).quietInEffect = true := after
    have rotation : (u.page.select u.arbiter u.dwellFrom false).rotation = .route := by
      unfold PageSelector.select
      rw [page]
      split
      · split <;> rfl
      · rfl
    have dwell : (u.page.select u.arbiter u.dwellFrom false).dwell = none := by
      unfold PageSelector.select
      rw [page, effect]
      split
      · split <;> rfl
      · rfl
    rw [eq, PageSelector.select_keeps, rotation, dwell, page]
  · rw [State.finishPage_quiet, ← told]
    exact PanelCtl.takeQuiet_quiet _ _ _

end

/-! #### The deadlines -/

theorem State.arbiter_turned {s t : State} (law : s.pageLaw) (rotates : s.page.selected.isRotation = true)
    (start : t.start = s.start) (level : t.page.level = s.page.level) (spot : t.page.spotItem = s.page.spotItem) :
    t.arbiter = .rotation t.page.rotation :=
  State.arbiter_rotation (by rw [← law]; exact rotates) start level spot

theorem State.pageDwellEnds_turns {s : State} (law : s.pageLaw) (rotates : s.page.selected.isRotation = true) :
    ∃ h n, s.pageDwellEnds.page = { s.page with
      selected := .rotation (nextPosition s.programmePages s.page.rotation)
      rotation := nextPosition s.programmePages s.page.rotation, dwell := some s.dwellFrom
      handed := h, pageChanges := n } := by
  unfold State.pageDwellEnds
  generalize turned : s.pageDo _ = u
  have page : u.page = { s.page with
      rotation := nextPosition s.programmePages s.page.rotation, dwell := some s.dwellFrom } := by rw [← turned]; rfl
  have chosen : u.arbiter = .rotation u.page.rotation :=
    State.arbiter_turned law rotates (by rw [← turned]; rfl) (by rw [page]) (by rw [page])
  obtain ⟨h, n, eq⟩ := u.finishPage_page false .other
  refine ⟨h, n, ?_⟩
  rw [eq, PageSelector.select_turns (by rw [page]; exact rotates) (by rw [chosen]; rfl), chosen, page]

theorem State.pageTakesProgramme_prog (s : State) : s.pageTakesProgramme.prog = s.prog :=
  s.pageTakesProgramme_changes .prog (by decide)

theorem State.spotlightDone_prog (s : State) (i : Nat) :
    (s.spotlightDone i).prog = { s.prog with spotlight := s.prog.spotlight.filter (fun x => decide (x ≠ i)) } := by
  unfold State.spotlightDone
  split
  · exact State.pageTakesProgramme_prog _
  · next absent =>
    have same : s.prog.spotlight.filter (fun x => decide (x ≠ i)) = s.prog.spotlight :=
      List.filter_eq_self.mpr fun x mem => decide_eq_true fun eq => absent (by simpa [← eq] using mem)
    rw [same]

/-- What the end of a spotlight showing leaves: the list without the item shown, and its oldest next. -/
theorem State.pageSpotlightEnds_shows {s : State} {i : Nat} (item : s.page.spotItem = some i) :
    s.pageSpotlightEnds.prog = (s.spotlightDone i).prog ∧
      ((s.spotlightDone i).prog.spotlight = [] →
        s.pageSpotlightEnds.page.spotItem = none ∧ s.pageSpotlightEnds.page.spotDeadline = none) ∧
      (∀ j rest, (s.spotlightDone i).prog.spotlight = j :: rest → s.pageSpotlightEnds.page.spotItem = some j ∧
        s.pageSpotlightEnds.page.spotDeadline = some (s.clock + s.cfg.spotlightDwell * 1000)) := by
  unfold State.pageSpotlightEnds
  rw [item]
  dsimp only
  have changes := s.spotlightDone_changes i
  have from' : (s.spotlightDone i).spotlightFrom = s.clock + s.cfg.spotlightDwell * 1000 := by
    unfold State.spotlightFrom
    rw [changes .clock (by decide), changes.cfg_eq (by decide)]
  generalize s.spotlightDone i = u at from' ⊢
  obtain ⟨h, n, eq⟩ := (u.pageDo (fun p => p.nextSpotlight u.prog.spotlight u.spotlightFrom)).finishPage_page false .other
  rw [eq, PageSelector.select_keeps, State.pageDo_page]
  refine ⟨State.pageDo_finishPage_changes u _ _ _ .prog (by decide), fun none => ?_, fun j rest some' => ?_⟩
  · rw [none]
    exact ⟨rfl, rfl⟩
  · rw [some', from']
    exact ⟨rfl, rfl⟩

/-- Settles O53: each deadline is one event of the page selector, read off `finishPage_page`. -/
theorem pageDeadlinesTaken : Obligations.PageDeadlinesTaken := by
  unfold Obligations.PageDeadlinesTaken
  intro s d running reached
  refine ⟨fun dwell law rotates => ?_, fun i deadline item => ?_, fun presence => ?_⟩
  · have taken : exec .dwellDeadline s = .next s.pageDwellEnds :=
      congrArg Host.Outcome.next (if_pos (by rw [running, dwell]; simp [due, reached]))
    obtain ⟨h, n, page⟩ := State.pageDwellEnds_turns law rotates
    refine ⟨s.pageDwellEnds, taken, ?_, by rw [page], by rw [page]; rfl, State.finishPage_shown _ _ _,
      s.pageDwellEnds_changes⟩
    rw [page]
    unfold nextPosition
    cases s.page.rotation with
    | route =>
      dsimp only
      by_cases none : s.programmePages = 0
      · rw [if_neg (by omega), if_pos none]
      · rw [if_pos (by omega), if_neg none]
    | programme k => rfl
  · have taken : exec .spotlightDeadline s = .next s.pageSpotlightEnds :=
      congrArg Host.Outcome.next (if_pos (by rw [running, deadline]; simp [due, reached]))
    obtain ⟨prog, ends, next⟩ := State.pageSpotlightEnds_shows item
    refine ⟨s.pageSpotlightEnds, taken, prog.trans (s.spotlightDone_prog i), ?_, ?_, State.finishPage_shown _ _ _,
      s.pageSpotlightEnds_changes⟩
    · rw [prog]
      exact ends
    · rw [prog]
      exact next
  · have taken : exec .presenceDeadline s = .next s.pagePresenceEnds :=
      congrArg Host.Outcome.next (if_pos (by rw [running, presence]; simp [due, reached]))
    have before : s.page.quietInEffect = false := by simp [PageSelector.quietInEffect, presence]
    have after : ({ s.page with presence := none } : PageSelector).quietInEffect = s.page.quiet := by
      simp [PageSelector.quietInEffect]
    cases quiet : s.page.quiet with
    | false =>
      have same : s.pagePresenceEnds = (s.pageDo (fun p => { p with presence := none })).finishPage false .other :=
        State.changeQuiet_same (by rw [before, after, quiet])
      obtain ⟨h, n, page⟩ := (s.pageDo (fun p => { p with presence := none })).finishPage_page false .other
      rw [PageSelector.select_keeps] at page
      refine ⟨s.pagePresenceEnds, taken, ?_, ?_, nofun, s.changeQuiet_shown _, s.pagePresenceEnds_changes⟩
      · rw [same, page]; rfl
      · rw [same, page]; exact quiet
    | true =>
      obtain ⟨selected, h, n, page, told⟩ := State.changeQuiet_enters (f := fun p => { p with presence := none })
        before (after.trans quiet)
      refine ⟨s.pagePresenceEnds, taken, ?_, ?_, fun _ => ⟨?_, ?_, told⟩, s.changeQuiet_shown _,
        s.pagePresenceEnds_changes⟩
      · exact congrArg PageSelector.presence page
      · exact (congrArg PageSelector.quiet page).trans quiet
      · exact congrArg PageSelector.rotation page
      · exact congrArg PageSelector.dwell page

end Sys2Proof.Machine

/-! ### What one ENABLED set does of an occurrence (R112 to R118) -/

namespace Sys2Proof.Machine

theorem getElem?_afterOnce {sets : List TriggerSet} {m j : Nat} {y : TriggerSet} (other : j ≠ m) :
    (afterOnce sets m y)[j]? = sets[j]? := by
  unfold afterOnce
  split
  · rfl
  · exact List.getElem?_set_ne (Ne.symm other)

/-- An occurrence is matched alike where the lines are. -/
theorem State.matchesFactor_congr {s t : State} (cabin : t.cabin = s.cabin) (c : TriggerCfg) (o : Occurrence) :
    t.matchesFactor c o = s.matchesFactor c o := by
  unfold State.matchesFactor State.lineAvailable
  rw [cabin]

theorem State.captureTime_congr {s t : State} (clock : t.clock = s.clock) (time : t.time = s.time) :
    t.captureTime = s.captureTime := by
  unfold State.captureTime State.shipMs
  rw [clock, time]

section

variable {s : State} {o : Occurrence} {m : Nat} {y : TriggerSet}

/-- The trigger unit after the action and once-step of a set that the action leaves as it was, or disables. -/
theorem State.actAndOnce_trig {chained : Bool} {z : TriggerSet}
    (stands : (s.performAction o m chained y.cfg).trig.sets[m]? = some z)
    (same : ({ z with state := .disabled } : TriggerSet) = { y with state := .disabled }) :
    (s.actAndOnce o m chained y.cfg).trig = { (s.performAction o m chained y.cfg).trig with
      activations := bump (s.performAction o m chained y.cfg).trig.activations
      sets := afterOnce (s.performAction o m chained y.cfg).trig.sets m y } := by
  have set : (s.performAction o m chained y.cfg).trig.set m = z := by simp [TriggerUnit.set, stands]
  unfold afterOnce State.actAndOnce TriggerUnit.putSet
  rw [State.trigDo_trig]
  dsimp only
  split
  · rfl
  · have once : ({ (s.performAction o m chained y.cfg).trig.set m with state := .disabled } : TriggerSet) =
        { y with state := .disabled } := by rw [set, same]
    exact congrArg (fun x => { (s.performAction o m chained y.cfg).trig with
      activations := bump (s.performAction o m chained y.cfg).trig.activations
      sets := (s.performAction o m chained y.cfg).trig.sets.set m x }) once

/-- The cascade of an occurrence that the one ENABLED set waits for: that set is activated, and its action leaves no
other set ENABLED that it chains to or that waits for the occurrence too. -/
theorem State.cascade_sole (sole : s.trig.soleEnabled m y) (waits : s.matchesFactor y.cfg o = true) {z : TriggerSet}
    (stands : (s.performAction o m false y.cfg).trig.sets[m]? = some z)
    (same : ({ z with state := .disabled } : TriggerSet) = { y with state := .disabled })
    (rest : ∀ j x, (s.performAction o m false y.cfg).trig.sets[j]? = some x → j ≠ m → x.state = .enabled →
      y.cfg.chain.getLsbD j = false ∧ s.matchesFactor x.cfg o = false) :
    s.cascade o = s.actAndOnce o m false y.cfg := by
  refine s.cascade_one o sole waits fun j _ other enabled => ?_
  have held := TriggerUnit.set_enabled enabled
  rw [State.matchesFactor_congr (s.actAndOnce_changes o m false y.cfg .cabin (by decide))]
  refine rest j _ (Eq.trans ?_ held) other enabled
  rw [State.actAndOnce_trig stands same]
  exact (getElem?_afterOnce other).symm

/-- An action that leaves the sets alone. -/
theorem State.cascade_keeping (sole : s.trig.soleEnabled m y) (waits : s.matchesFactor y.cfg o = true)
    (keeps : (s.performAction o m false y.cfg).trig.sets = s.trig.sets) :
    s.cascade o = s.actAndOnce o m false y.cfg ∧
      (s.actAndOnce o m false y.cfg).trig = { (s.performAction o m false y.cfg).trig with
        activations := bump (s.performAction o m false y.cfg).trig.activations
        sets := afterOnce s.trig.sets m y } := by
  have stands : (s.performAction o m false y.cfg).trig.sets[m]? = some y := by rw [keeps]; exact sole.2.1
  refine ⟨State.cascade_sole sole waits stands rfl fun j x held other enabled => ?_, ?_⟩
  · rw [keeps] at held
    exact absurd (sole.2.2.2 j x held enabled) other
  · rw [State.actAndOnce_trig stands rfl, keeps]

/-- An occurrence the one ENABLED set does not wait for. -/
theorem State.cascade_unmet (sole : s.trig.soleEnabled m y) (unmet : s.matchesFactor y.cfg o = false) :
    s.cascade o = s := by
  refine s.cascade_quiet o fun x mem enabled => ?_
  obtain ⟨j, held⟩ := List.mem_iff_getElem?.mp mem
  obtain rfl := sole.2.2.2 j x held enabled
  rw [sole.2.1] at held
  rw [← Option.some.inj held]
  exact unmet

/-- What NONE and CAPTURE make of an occurrence (R114, R116). -/
theorem State.cascade_none (sole : s.trig.soleEnabled m y) (waits : s.matchesFactor y.cfg o = true)
    (action : y.cfg.action = .none) :
    (s.cascade o).trig = { s.trig with
      activations := bump s.trig.activations, sets := afterOnce s.trig.sets m y } ∧
    OnlyChanges [.trig] s (s.cascade o) := by
  have acts : s.performAction o m false y.cfg = s := by rw [State.performAction, action]
  obtain ⟨eq, trig⟩ := State.cascade_keeping sole waits (by rw [acts])
  rw [eq, trig, acts]
  refine ⟨rfl, ?_⟩
  rw [State.actAndOnce, acts]
  exact s.trigDo_changes _

theorem State.cascade_capture (sole : s.trig.soleEnabled m y) (waits : s.matchesFactor y.cfg o = true)
    (action : y.cfg.action = .capture) :
    (s.cascade o).trig = { s.trig with
      activations := bump s.trig.activations, sets := afterOnce s.trig.sets m y
      captures := s.trig.captures.set y.cfg.actionArg (some ⟨s.captureTime, m, false, o.factor, o.detail⟩) } ∧
    OnlyChanges [.trig] s (s.cascade o) := by
  have acts : s.performAction o m false y.cfg = s.trigDo (fun u => { u with
      captures := u.captures.set y.cfg.actionArg (some ⟨s.captureTime, m, false, o.factor, o.detail⟩) }) := by
    rw [State.performAction, action]
  obtain ⟨eq, trig⟩ := State.cascade_keeping sole waits (by rw [acts]; rfl)
  rw [eq, trig, acts]
  refine ⟨rfl, ?_⟩
  rw [State.actAndOnce, acts]
  exact (s.trigDo_changes _).trans (State.trigDo_changes _ _)

end

/-- What every activation keeps, a cascade keeps. -/
theorem State.cascade_keeps {P : State → Prop}
    (act : ∀ (s : State) (o : Occurrence) (n : Nat) (chained : Bool) (c : TriggerCfg), P s → P (s.actAndOnce o n chained c))
    {s : State} (o : Occurrence) (holds : P s) : P (s.cascade o) := by
  have folds {f : Cascade → Nat → Cascade} (step : ∀ k n, P k.state → P (f k n).state) (l : List Nat) (k : Cascade)
      (holds : P k.state) : P (l.foldl f k).state := by
    induction l generalizing k with
    | nil => exact holds
    | cons n l ih => exact ih _ (step k n holds)
  have activates (depth : Nat) : ∀ (o : Occurrence) (n : Nat) (chained : Bool) (k : Cascade), P k.state →
      P (activate depth o n chained k).state := by
    induction depth with
    | zero => exact fun _ _ _ _ holds => holds
    | succ depth ih =>
      intro o n chained k holds
      refine folds (fun k m holds => ?_) _ _ (act _ _ _ _ _ holds)
      split
      · exact ih o m true k holds
      · exact holds
  refine folds (fun k n holds => ?_) _ _ holds
  unfold cascadeTurn
  split
  · exact activates 4 o n false k holds
  · exact holds

theorem State.performAction_expiries (s : State) (o : Occurrence) (n : Nat) (chained : Bool) (c : TriggerCfg) :
    (s.performAction o n chained c).trig.expiries = s.trig.expiries := by
  have paged {t : State} (h : OnlyChanges [.page, .panel] s t) : t.trig.expiries = s.trig.expiries :=
    congrArg TriggerUnit.expiries (h .trig (by decide))
  unfold State.performAction
  cases c.action with
  | showPage => exact paged (s.pageShow_changes _)
  | quietEnter => exact paged s.pageQuietEnter_changes
  | quietLeave => exact paged s.pageQuietLeave_changes
  | _ => rfl

theorem State.cascade_expiries (s : State) (o : Occurrence) : (s.cascade o).trig.expiries = s.trig.expiries := by
  refine State.cascade_keeps (P := fun t => t.trig.expiries = s.trig.expiries) (fun t o n chained c same => ?_) o rfl
  unfold State.actAndOnce TriggerUnit.putSet
  rw [State.trigDo_trig]
  dsimp only
  split <;> exact (t.performAction_expiries o n chained c).trans same

/-! #### Interval timers (R117) -/

/-- An interval timer as its expiry leaves it. -/
def TimerMode.expired (mode : TimerMode) (x : TimerState) : TimerState :=
  match mode with
  | .single => ⟨false, 0, none⟩
  | .repeating => { x with count := 0 }

/-- The node with an interval timer expired, before its occurrence. -/
def State.timerExpired (s : State) (n : Nat) (x : TimerState) : State :=
  s.trigDo (fun u => { u with
    expiries := bump u.expiries, timers := u.timers.set n ((s.timerCfg n).mode.expired x) })

section

variable {s : State} {n : Nat} {x : TimerState}

theorem TriggerUnit.timer_of_getElem? {u : TriggerUnit} (held : u.timers[n]? = some x) : u.timer n = x := by
  simp [TriggerUnit.timer, held]

theorem State.timerTicks_due {d : Nat} (running : s.running = true) (held : s.trig.timers[n]? = some x)
    (runs : x.running = true) (tick : x.tick = some d) (reached : d ≤ s.clock) (below : x.count < (s.timerCfg n).terminal) :
    s.timerTicks n = s.trigDo (fun u => u.putTimer n ⟨true, x.count + 1, some (d + 100)⟩) := by
  unfold State.timerTicks
  rw [TriggerUnit.timer_of_getElem? held]
  refine (if_pos ⟨running, runs, by rw [tick]; exact decide_eq_true reached, below⟩).trans ?_
  rw [← runs, tick]
  rfl

theorem State.timerExpires_due (running : s.running = true) (held : s.trig.timers[n]? = some x)
    (runs : x.running = true) (terminal : (s.timerCfg n).terminal ≤ x.count) :
    s.timerExpires n = (s.timerExpired n x).cascade ⟨.timer, n⟩ := by
  unfold State.timerExpires
  rw [TriggerUnit.timer_of_getElem? held]
  refine (if_pos ⟨running, runs, terminal⟩).trans (congrArg (State.cascade · _) ?_)
  unfold State.timerExpired State.trigDo
  cases (s.timerCfg n).mode <;> rfl

theorem State.matchesFactor_timer (s : State) {y : TriggerSet} (factor : y.cfg.factor = .timer)
    (arg : y.cfg.factorArg = n) : s.matchesFactor y.cfg ⟨.timer, n⟩ = true := by
  simp [State.matchesFactor, factor, arg]

theorem State.matchesFactor_other (s : State) {c : TriggerCfg} {o : Occurrence} (factor : c.factor ≠ o.factor) :
    s.matchesFactor c o = false := by
  simp [State.matchesFactor, factor]

end

/-- Settles O47: a tick writes its timer; an expiry is the cascade of its occurrence. -/
theorem timersRun : Obligations.TimersRun := by
  unfold Obligations.TimersRun
  intro n s x running held runs
  refine ⟨fun d tick reached below => ?_, fun terminal => ?_⟩
  · refine ⟨s.timerTicks n.val, rfl, ?_, ?_⟩
    · rw [State.timerTicks_due running held runs tick reached below]
      rfl
    · rw [State.timerTicks_due running held runs tick reached below]
      exact s.trigDo_changes _
  · intro timers
    have expires := State.timerExpires_due running held runs terminal
    have base : OnlyChanges [.trig] s (s.timerExpired n.val x) := s.trigDo_changes _
    have written : (s.timerExpired n.val x).trig =
        { s.trig with timers := timers, expiries := bump s.trig.expiries } := rfl
    refine ⟨s.timerExpires n.val, rfl, ?_, fun none => ?_, fun m y small at' enabled factor arg action sole => ?_, ?_⟩
    · rw [expires, State.cascade_expiries]
      rfl
    · have quiet := State.cascade_quiet (s.timerExpired n.val x) ⟨.timer, n.val⟩ fun y mem enabled =>
        State.matchesFactor_other _ (none y mem enabled)
      rw [expires, quiet]
      exact ⟨written, base⟩
    · obtain ⟨trig, only⟩ := State.cascade_capture (s := s.timerExpired n.val x) ⟨small, at', enabled, sole⟩
        (State.matchesFactor_timer _ factor arg) action
      rw [expires]
      exact ⟨trig, base.trans only⟩
    · rw [expires]
      exact base.widen.trans (State.cascade_changes _ _)

end Sys2Proof.Machine

/-! ### Requests of the trigger unit at the page selector (R123, R125) -/

namespace Sys2Proof.Machine

theorem State.arbiter_calm {s : State} (running : s.running = true) (calm : s.page.level.emergency = false) :
    s.arbiter = if s.page.spotItem.isSome then .spotlight
      else if s.cfg.role = .cabin then .cabin else .rotation s.page.rotation := by
  unfold State.arbiter
  rw [running]
  cases level : s.page.level with
  | normal => rfl
  | alert => rfl
  | general => rw [level] at calm; cases calm
  | abandon => rw [level] at calm; cases calm

/-- The end of an event that leaves all that the arbiter reads of a lawful node. -/
theorem State.finishPage_stays {s t : State} (law : s.pageLaw) (arbiter : t.arbiter = s.arbiter)
    (selected : t.page.selected = s.page.selected) (set : Bool) (cause : PageCause) :
    ∃ h n, (t.finishPage set cause).page = { t.page with
      dwell := if s.page.selected.isRotation then t.page.dwell else none, handed := h, pageChanges := n } := by
  obtain ⟨h, n, page⟩ := t.finishPage_page set cause
  have stays : t.page.selected = t.arbiter := selected.trans (law.trans arbiter.symm)
  refine ⟨h, n, ?_⟩
  rw [page, PageSelector.select_stays stays, ← stays, ← selected]

theorem State.refuseRequest_page {s : State} (law : s.pageLaw) :
    ∃ d h n, s.refuseRequest.page = { s.page with
      refusedRequests := bump s.page.refusedRequests, dwell := d, handed := h, pageChanges := n } := by
  obtain ⟨h, n, page⟩ := State.finishPage_stays (t := s.pageDo PageSelector.refuse) law
    (State.arbiter_congr rfl rfl rfl rfl) rfl false .other
  exact ⟨_, h, n, page⟩

/-- A request that sets the rotation position. -/
theorem State.jumpTo_page {s : State} (running : s.running = true) (calm : s.page.level.emergency = false)
    (position : RotationPage) :
    ∃ d h n, (s.jumpTo position).page = { s.page with
        spotItem := none, spotDeadline := none, rotation := position
        selected := if s.cfg.role = .cabin then .cabin else .rotation position
        dwell := d, handed := h, pageChanges := n } ∧
      (s.cfg.role ≠ .cabin → s.page.quietInEffect = false → d = some s.dwellFrom) := by
  have arbiter (d : Option Nat) :
      (s.pageDo (fun p => { p.endSpotlight with rotation := position, dwell := d })).arbiter =
        if s.cfg.role = .cabin then .cabin else .rotation position :=
    State.arbiter_calm (s := s.pageDo _) running calm
  obtain ⟨d, jumped, dwells⟩ : ∃ d, s.jumpTo position =
        (s.pageDo (fun p => { p.endSpotlight with rotation := position, dwell := d })).finishPage true .other ∧
      (s.cfg.role ≠ .cabin → s.page.quietInEffect = false → d = some s.dwellFrom) := by
    unfold State.jumpTo
    have first : (s.pageDo (fun p => { p.endSpotlight with rotation := position })).arbiter =
        if s.cfg.role = .cabin then .cabin else .rotation position := arbiter s.page.dwell
    dsimp only
    rw [first]
    by_cases runs : ((if s.cfg.role = .cabin then Page.cabin else .rotation position).isRotation &&
        !s.page.quietInEffect) = true
    · exact ⟨some s.dwellFrom, by rw [show (s.pageDo (fun p => { p.endSpotlight with rotation := position })).page.quietInEffect = s.page.quietInEffect from rfl, if_pos runs]; rfl, fun _ _ => rfl⟩
    · refine ⟨s.page.dwell, by rw [show (s.pageDo (fun p => { p.endSpotlight with rotation := position })).page.quietInEffect = s.page.quietInEffect from rfl, if_neg runs]; rfl, fun cabin quiet => absurd ?_ runs⟩
      rw [if_neg cabin, quiet]
      rfl
  generalize chosen : s.pageDo (fun p => { p.endSpotlight with rotation := position, dwell := d }) = u at jumped
  have page : u.page = { s.page.endSpotlight with rotation := position, dwell := d } := by rw [← chosen]; rfl
  have selects : u.arbiter = if s.cfg.role = .cabin then .cabin else .rotation position := by
    rw [← chosen]; exact arbiter d
  have from' : u.dwellFrom = s.dwellFrom := by rw [← chosen]; rfl
  obtain ⟨h, n, ends⟩ := u.finishPage_page true .other
  rw [jumped, ends, selects, from', page]
  unfold PageSelector.select
  by_cases cabin : s.cfg.role = .cabin
  · rw [if_pos cabin]
    exact ⟨none, h, n, rfl, fun other => absurd cabin other⟩
  · rw [if_neg cabin, if_pos rfl]
    by_cases was : s.page.selected.isRotation = true
    · rw [if_pos (show s.page.endSpotlight.selected.isRotation = true from was)]
      exact ⟨d, h, n, rfl, dwells⟩
    · rw [if_neg (show ¬s.page.endSpotlight.selected.isRotation = true from was)]
      refine ⟨_, h, n, rfl, fun _ quiet => if_neg ?_⟩
      exact fun effect => Bool.false_ne_true (quiet.symm.trans effect)

theorem State.jumpTo_shown (s : State) (position : RotationPage) : (s.jumpTo position).shown := State.finishPage_shown _ _ _

theorem State.refuseRequest_shown (s : State) : s.refuseRequest.shown := State.finishPage_shown _ _ _

theorem State.pageShow_shown (s : State) (page : ShowPage) : (s.pageShow page).shown := by
  unfold State.pageShow
  split
  · exact s.refuseRequest_shown
  · split
    · exact s.jumpTo_shown _
    · split
      · exact s.refuseRequest_shown
      · exact s.jumpTo_shown _
    · split
      · exact s.refuseRequest_shown
      · split <;> exact State.finishPage_shown _ _ _

theorem State.pageShow_high {s : State} (high : s.page.level.emergency = true) (page : ShowPage) :
    s.pageShow page = s.refuseRequest := if_pos high

theorem State.pageShow_route {s : State} (calm : s.page.level.emergency = false) :
    s.pageShow .route = s.jumpTo .route := if_neg (by simp [calm])

theorem State.pageShow_programme {s : State} (calm : s.page.level.emergency = false) :
    (s.programmePages = 0 ∨ s.page.quietInEffect = true → s.pageShow .programme = s.refuseRequest) ∧
      (s.programmePages ≠ 0 → s.page.quietInEffect = false → s.pageShow .programme = s.jumpTo (.programme 1)) := by
  have opened : s.pageShow .programme = if s.programmePages = 0 ∨ s.page.quietInEffect = true then s.refuseRequest
      else s.jumpTo (.programme 1) := if_neg (by simp [calm])
  rw [opened]
  exact ⟨fun bars => if_pos bars, fun some' loud => if_neg (by simp [some', loud])⟩

theorem State.pageShow_noItem {s : State} (calm : s.page.level.emergency = false) (none : s.prog.spotlight = []) :
    s.pageShow .spotlight = s.refuseRequest := by
  unfold State.pageShow
  rw [if_neg (by simp [calm]), none]

/-- A SPOTLIGHT request with an item to show: the one shown stays, else the oldest id is shown. -/
theorem State.pageShow_spotlight {s : State} (running : s.running = true) (calm : s.page.level.emergency = false)
    {i : Nat} {rest : List Nat} (some' : s.prog.spotlight = i :: rest) :
    (s.pageShow .spotlight).page.refusedRequests = s.page.refusedRequests ∧
      (s.pageShow .spotlight).page.selected = .spotlight ∧
      (s.page.spotItem = none → (s.pageShow .spotlight).page.spotItem = some i ∧
        (s.pageShow .spotlight).page.spotDeadline = some s.spotlightFrom) ∧
      (s.page.spotItem ≠ none → (s.pageShow .spotlight).page.spotItem = s.page.spotItem ∧
        (s.pageShow .spotlight).page.spotDeadline = s.page.spotDeadline) := by
  have showing (t : State) (is : t.arbiter = .spotlight) :
      (t.finishPage false .other).page.refusedRequests = t.page.refusedRequests ∧
      (t.finishPage false .other).page.selected = .spotlight ∧
      (t.finishPage false .other).page.spotItem = t.page.spotItem ∧
      (t.finishPage false .other).page.spotDeadline = t.page.spotDeadline := by
    obtain ⟨h, n, page⟩ := t.finishPage_page false .other
    rw [page, is]
    exact ⟨rfl, rfl, rfl, rfl⟩
  unfold State.pageShow
  rw [if_neg (by simp [calm]), some']
  dsimp only
  cases item : s.page.spotItem with
  | none =>
    rw [if_neg (by simp)]
    obtain ⟨refused, selected, shown, deadline⟩ :=
      showing (s.pageDo (fun p => p.nextSpotlight (i :: rest) s.spotlightFrom))
        (State.arbiter_calm (s := s.pageDo (fun p => p.nextSpotlight (i :: rest) s.spotlightFrom)) running calm)
    exact ⟨refused, selected, fun _ => ⟨shown, deadline⟩, fun other => absurd rfl other⟩
  | some j =>
    rw [if_pos (by simp)]
    obtain ⟨refused, selected, shown, deadline⟩ := showing s (by rw [State.arbiter_calm running calm, item]; rfl)
    exact ⟨refused, selected, nofun, fun _ => ⟨shown.trans item, deadline⟩⟩

/-! #### QUIET_ENTER and QUIET_LEAVE -/

theorem State.pageQuietEnter_calm {s : State} (law : s.pageLaw) (calm : s.page.level.emergency = false) :
    ∃ page, s.pageQuietEnter.page = page ∧ page.quiet = true ∧ page.presence = s.page.presence ∧
      page.spotItem = s.page.spotItem ∧
      (s.page.quiet = false → s.page.presence = none → page.rotation = .route ∧ page.dwell = none ∧
        s.pageQuietEnter.panel.quiet = true) ∧
      (s.page.quiet = true → page.rotation = s.page.rotation ∧ s.pageQuietEnter.panel.quiet = s.panel.quiet) ∧
      page.refusedRequests = s.page.refusedRequests := by
  have changes : s.pageQuietEnter = s.changeQuiet (fun p => { p with quiet := true }) := if_neg (by simp [calm])
  rw [changes]
  have after : ({ s.page with quiet := true } : PageSelector).quietInEffect = s.page.presence.isNone := by
    simp [PageSelector.quietInEffect]
  by_cases same : s.page.quietInEffect = s.page.presence.isNone
  · rw [State.changeQuiet_same (same.trans after.symm)]
    obtain ⟨h, n, page⟩ := State.finishPage_stays (t := s.pageDo (fun p => { p with quiet := true })) law
      (State.arbiter_congr rfl rfl rfl rfl) rfl false .other
    refine ⟨_, page, rfl, rfl, rfl, fun quiet presence => ?_, fun _ => ⟨rfl, State.finishPage_quiet _ _ _⟩, rfl⟩
    rw [PageSelector.quietInEffect, quiet, presence] at same
    cases same
  · have before : s.page.quietInEffect = false ∧ s.page.presence.isNone = true ∧ s.page.quiet = false := by
      revert same
      unfold PageSelector.quietInEffect
      cases s.page.quiet <;> cases s.page.presence.isNone <;> simp
    obtain ⟨selected, h, n, page, told⟩ := State.changeQuiet_enters (f := fun p => { p with quiet := true })
      before.1 (after.trans before.2.1)
    refine ⟨_, page, rfl, rfl, rfl, fun _ _ => ⟨rfl, rfl, told⟩, fun quiet => ?_, rfl⟩
    rw [quiet] at before
    cases before.2.2

/-- Quiet that is set becomes clear (R125). -/
def PageSelector.leaveQuiet (p : PageSelector) : PageSelector :=
  if p.quiet then { p with quiet := false, presence := none } else p

theorem State.pageQuietLeave_calm {s : State} (law : s.pageLaw) (calm : s.page.level.emergency = false) :
    ∃ page, s.pageQuietLeave.page = page ∧ page.quiet = false ∧ page.rotation = s.page.rotation ∧
      page.spotItem = s.page.spotItem ∧
      (s.page.quiet = true → page.presence = none) ∧
      (s.page.quiet = false → page.presence = s.page.presence ∧ s.pageQuietLeave.panel.quiet = s.panel.quiet) ∧
      (s.page.quiet = true → s.page.presence = none → s.pageQuietLeave.panel.quiet = false ∧
        (s.page.selected.isRotation = true → page.dwell = some s.dwellFrom)) ∧
      page.refusedRequests = s.page.refusedRequests := by
  have changes : s.pageQuietLeave = s.changeQuiet PageSelector.leaveQuiet := if_neg (by simp [calm])
  rw [changes]
  cases quiet : s.page.quiet with
  | false =>
    have left : s.page.leaveQuiet = s.page := if_neg (by simp [quiet])
    rw [State.changeQuiet_same (congrArg PageSelector.quietInEffect left.symm)]
    generalize stood : s.pageDo _ = t
    have page' : t.page = s.page := by rw [← stood]; exact left
    have panel : t.panel = s.panel := by rw [← stood]; rfl
    obtain ⟨h, n, page⟩ := State.finishPage_stays (t := t) law
      (State.arbiter_congr (by rw [← stood]; rfl) (by rw [page']) (by rw [page']) (by rw [page'])) (by rw [page'])
      false .other
    refine ⟨_, page, ?_⟩
    rw [page']
    exact ⟨quiet, rfl, rfl, nofun, fun _ => ⟨rfl, (State.finishPage_quiet _ _ _).trans (congrArg _ panel)⟩, nofun, rfl⟩
  | true =>
    have left : s.page.leaveQuiet = { s.page with quiet := false, presence := none } := if_pos quiet
    have after : s.page.leaveQuiet.quietInEffect = false := by rw [left]; rfl
    cases before : s.page.quietInEffect with
    | false =>
      rw [State.changeQuiet_same (before.trans after.symm)]
      generalize stood : s.pageDo _ = t
      have page' : t.page = { s.page with quiet := false, presence := none } := by rw [← stood]; exact left
      obtain ⟨h, n, page⟩ := State.finishPage_stays (t := t) law
        (State.arbiter_congr (by rw [← stood]; rfl) (by rw [page']) (by rw [page']) (by rw [page'])) (by rw [page'])
        false .other
      refine ⟨_, page, ?_⟩
      rw [page']
      refine ⟨rfl, rfl, rfl, fun _ => rfl, nofun, fun _ none => ?_, rfl⟩
      rw [PageSelector.quietInEffect, quiet, none] at before
      cases before
    | true =>
      rw [State.changeQuiet_ends before after]
      generalize stood : (s.pageDo _).panelDo _ = t
      have page' : t.page = { s.page with
          quiet := false, presence := none
          dwell := if s.page.selected.isRotation then some s.dwellFrom else s.page.dwell } := by
        rw [← stood]
        show (if s.page.leaveQuiet.selected.isRotation then { s.page.leaveQuiet with dwell := some s.dwellFrom }
          else s.page.leaveQuiet) = _
        rw [left]
        cases s.page.selected.isRotation <;> rfl
      have told : t.panel.quiet = false := by
        rw [← stood]
        exact PanelCtl.takeQuiet_quiet _ _ _
      obtain ⟨h, n, page⟩ := State.finishPage_stays (t := t) law
        (State.arbiter_congr (by rw [← stood]; rfl) (by rw [page']) (by rw [page']) (by rw [page'])) (by rw [page'])
        false .other
      refine ⟨_, page, ?_⟩
      rw [page']
      refine ⟨rfl, rfl, rfl, fun _ => rfl, nofun, fun _ _ => ⟨(State.finishPage_quiet _ _ _).trans told,
        fun rotates => ?_⟩, rfl⟩
      simp [rotates]

end Sys2Proof.Machine

/-! ### The actions of an activated set (R113 to R118, R149) -/

namespace Sys2Proof.Machine

theorem TriggerUnit.mapMarked_getElem? (u : TriggerUnit) (mask : Nat) (f : TriggerSet → TriggerSet) (j : Nat) :
    (u.mapMarked mask f).sets[j]? = u.sets[j]?.map (fun x => if mask.testBit j then f x else x) :=
  List.getElem?_mapIdx

theorem State.trigDo_shown {s : State} (f : TriggerUnit → TriggerUnit) (shown : s.shown) : (s.trigDo f).shown :=
  (s.trigDo_changes f).shown shown

section

variable {s : State} {o : Occurrence} {m : Nat} {y : TriggerSet}

/-- An action that changes the trigger unit alone leaves a cascade that changes it alone. -/
theorem State.cascade_trigOnly {f : TriggerUnit → TriggerUnit} (sole : s.trig.soleEnabled m y)
    (waits : s.matchesFactor y.cfg o = true) (acts : s.performAction o m false y.cfg = s.trigDo f)
    (keeps : (f s.trig).sets = s.trig.sets) :
    (s.cascade o).trig = { f s.trig with
      activations := bump (f s.trig).activations, sets := afterOnce s.trig.sets m y } ∧
    OnlyChanges [.trig] s (s.cascade o) := by
  obtain ⟨eq, trig⟩ := State.cascade_keeping sole waits (by rw [acts]; exact keeps)
  rw [eq, trig, acts]
  refine ⟨rfl, ?_⟩
  rw [State.actAndOnce, acts]
  exact (s.trigDo_changes _).trans (State.trigDo_changes _ _)

/-- An action taken by the page selector. -/
theorem State.cascade_paged {t : State} (sole : s.trig.soleEnabled m y) (waits : s.matchesFactor y.cfg o = true)
    (acts : s.performAction o m false y.cfg = t) (paged : OnlyChanges [.page, .panel] s t) :
    (s.cascade o).trig = { s.trig with
      activations := bump s.trig.activations, sets := afterOnce s.trig.sets m y } ∧
    (s.cascade o).page = t.page ∧ (s.cascade o).panel = t.panel ∧ (t.shown → (s.cascade o).shown) := by
  have same : t.trig = s.trig := paged .trig (by decide)
  obtain ⟨eq, trig⟩ := State.cascade_keeping sole waits (by rw [acts, same])
  rw [eq, trig, acts, same]
  refine ⟨rfl, ?_⟩
  rw [State.actAndOnce, acts]
  exact ⟨rfl, rfl, State.trigDo_shown _⟩

/-- An action on the marked sets, after which only the set itself can meet the occurrence. -/
theorem State.cascade_marked {moved : TriggerSet → TriggerSet} (sole : s.trig.soleEnabled m y)
    (waits : s.matchesFactor y.cfg o = true)
    (acts : s.performAction o m false y.cfg = s.trigDo (fun u => u.mapMarked y.cfg.actionArg moved))
    (own : ({ moved y with state := .disabled } : TriggerSet) = { y with state := .disabled })
    (rest : ∀ j z, s.trig.sets[j]? = some z → j ≠ m →
      ((if y.cfg.actionArg.testBit j then moved z else z).state ≠ .enabled ∨ y.cfg.chain.getLsbD j = false ∧
        s.matchesFactor (if y.cfg.actionArg.testBit j then moved z else z).cfg o = false)) :
    (s.cascade o).trig = { s.trig with
      activations := bump s.trig.activations
      sets := afterOnce (s.trig.sets.mapIdx (fun i z => if y.cfg.actionArg.testBit i then moved z else z)) m y } ∧
    OnlyChanges [.trig] s (s.cascade o) := by
  have at' (j : Nat) : (s.performAction o m false y.cfg).trig.sets[j]? =
      s.trig.sets[j]?.map (fun z => if y.cfg.actionArg.testBit j then moved z else z) := by
    rw [acts]
    exact TriggerUnit.mapMarked_getElem? _ _ _ _
  have stands := at' m
  rw [sole.2.1, Option.map_some] at stands
  have same : ({ (if y.cfg.actionArg.testBit m then moved y else y : TriggerSet) with state := .disabled } : TriggerSet) =
      { y with state := .disabled } := by
    split
    · exact own
    · rfl
  have eq := State.cascade_sole sole waits stands same fun j x held other enabled => by
    rw [at'] at held
    obtain ⟨z, found, rfl⟩ := Option.map_eq_some_iff.mp held
    exact (rest j z found other).resolve_left fun off => off enabled
  rw [eq, State.actAndOnce_trig stands same, acts]
  refine ⟨rfl, ?_⟩
  rw [State.actAndOnce, acts]
  exact (s.trigDo_changes _).trans (State.trigDo_changes _ _)

theorem State.cascade_enableSets (sole : s.trig.soleEnabled m y) (waits : s.matchesFactor y.cfg o = true)
    (action : y.cfg.action = .enableSets) (chain : y.cfg.chain = 0#4)
    (others : ∀ j z, s.trig.sets[j]? = some z → j ≠ m → z.cfg.factor ≠ o.factor) :
    (s.cascade o).trig = { s.trig with
      activations := bump s.trig.activations
      sets := afterOnce (s.trig.sets.mapIdx
        (fun i z => if y.cfg.actionArg.testBit i then enableSet s.trig.level z else z)) m y } ∧
    OnlyChanges [.trig] s (s.cascade o) := by
  have keepsCfg (z : TriggerSet) : (enableSet s.trig.level z).cfg = z.cfg := by
    unfold enableSet
    split <;> rfl
  refine State.cascade_marked sole waits (by rw [State.performAction, action]; rfl) ?_ fun j z held other => .inr ⟨?_, ?_⟩
  · rw [enableSet, sole.2.2.1]
  · rw [chain]
    exact BitVec.getLsbD_zero
  · refine State.matchesFactor_other _ ?_
    split
    · rw [keepsCfg]
      exact others j z held other
    · exact others j z held other

theorem State.cascade_disableSets (sole : s.trig.soleEnabled m y) (waits : s.matchesFactor y.cfg o = true)
    (action : y.cfg.action = .disableSets) :
    (s.cascade o).trig = { s.trig with
      activations := bump s.trig.activations
      sets := afterOnce (s.trig.sets.mapIdx
        (fun i z => if y.cfg.actionArg.testBit i then disableSet z else z)) m y } ∧
    OnlyChanges [.trig] s (s.cascade o) := by
  refine State.cascade_marked sole waits (by rw [State.performAction, action]) rfl fun j z held other => .inl ?_
  split
  · exact nofun
  · exact fun enabled => other (sole.2.2.2 j z held enabled)

/-- LUMINANCE sets the day level, and on a LIT panel the target (R149). -/
theorem State.cascade_luminance (sole : s.trig.soleEnabled m y) (waits : s.matchesFactor y.cfg o = true)
    (action : y.cfg.action = .luminance) :
    (s.cascade o).trig = { s.trig with
      activations := bump s.trig.activations, sets := afterOnce s.trig.sets m y } ∧
    (s.cascade o).panel = s.panel.takeDayLevel s.panelEnv y.cfg.actionArg ∧
    OnlyChanges [.trig, .panel] s (s.cascade o) := by
  have acts : s.performAction o m false y.cfg = s.panelDo (fun e p => p.takeDayLevel e y.cfg.actionArg) := by
    rw [State.performAction, action]
  have changes := s.panelDo_changes (fun e p => p.takeDayLevel e y.cfg.actionArg)
  obtain ⟨eq, trig⟩ := State.cascade_keeping sole waits (by rw [acts]; rfl)
  rw [eq, trig, acts]
  refine ⟨rfl, ?_⟩
  rw [State.actAndOnce, acts]
  exact ⟨rfl, changes.widen.trans (State.trigDo_changes _ _).widen⟩

end

theorem PanelCtl.takeDayLevel_paper {e : PanelEnv} {p : PanelCtl} (paper : p.kind = .paper) (level : Nat) :
    p.takeDayLevel e level = { p with dayLevel := level } := by
  unfold PanelCtl.takeDayLevel PanelCtl.retarget
  rw [show ({ p with dayLevel := level } : PanelCtl).kind = .paper from paper]

theorem PanelCtl.takeDayLevel_lit {e : PanelEnv} {p : PanelCtl} (lit : p.kind = .lit) (level : Nat) :
    (p.takeDayLevel e level).dayLevel = level ∧ (p.takeDayLevel e level).luminance = p.luminance ∧
      (p.takeDayLevel e level).target =
        some (if p.level.emergency then 1023 else if p.quiet then e.cfg.nightLevel else level) := by
  unfold PanelCtl.takeDayLevel PanelCtl.retarget
  rw [show ({ p with dayLevel := level } : PanelCtl).kind = .lit from lit]
  exact ⟨rfl, rfl, rfl⟩

/-- Settles O48: the expiry's cascade is the set's action and once-step; each action is read by its own rule. -/
theorem triggerActionsPerformed : Obligations.TriggerActionsPerformed := by
  unfold Obligations.TriggerActionsPerformed
  intro n s x m y running held runs terminal sole factor arg' timers activated marked arg dwelling inQuiet
  have expires := State.timerExpires_due running held runs terminal
  have base : OnlyChanges [.trig] s (s.timerExpired n.val x) := s.trigDo_changes _
  have soleB : (s.timerExpired n.val x).trig.soleEnabled m y := sole
  have waits : (s.timerExpired n.val x).matchesFactor y.cfg ⟨.timer, n.val⟩ = true := State.matchesFactor_timer _ factor arg'
  have whole : OnlyChanges [.trig, .page, .panel] s (s.timerExpires n.val) := by
    rw [expires]
    exact base.widen.trans (State.cascade_changes _ _)
  have runningB : (s.timerExpired n.val x).running = true := running
  refine ⟨s.timerExpires n.val, rfl, fun action => ?_, fun action => ?_, fun action => ?_, fun action => ?_,
    fun action chain others => ?_, fun action => ?_, fun law => ?_⟩
  · obtain ⟨trig, only⟩ := State.cascade_none soleB waits action
    rw [expires]
    exact ⟨trig, base.trans only⟩
  · obtain ⟨trig, only⟩ := State.cascade_trigOnly soleB waits (by rw [State.performAction, action]) rfl
    rw [expires]
    exact ⟨trig, base.trans only⟩
  · obtain ⟨trig, only⟩ := State.cascade_trigOnly soleB waits (by rw [State.performAction, action]) rfl
    rw [expires]
    exact ⟨trig, base.trans only⟩
  · obtain ⟨trig, panel, only⟩ := State.cascade_luminance soleB waits action
    rw [expires]
    refine ⟨trig, ?_, fun paper => ?_, fun lit => ?_, base.widen.trans only⟩
    · rw [panel]
      cases kind : s.panel.kind with
      | paper => exact congrArg PanelCtl.dayLevel (PanelCtl.takeDayLevel_paper (p := s.panel) kind _)
      | lit => exact (PanelCtl.takeDayLevel_lit (p := s.panel) kind _).1
    · rw [panel]
      exact PanelCtl.takeDayLevel_paper (p := s.panel) paper _
    · rw [panel]
      exact (PanelCtl.takeDayLevel_lit (p := s.panel) lit _).2
  · obtain ⟨trig, only⟩ := State.cascade_enableSets soleB waits action chain fun j z at' other => others j z at' other
    rw [expires]
    refine ⟨trig.trans ?_, base.trans only⟩
    have moves : enableSet s.trig.level = fun z => match z.state with
        | .enabled => z
        | .suspended => z
        | .disabled => { z with
          state := if z.cfg.normalOnly = true ∧ s.trig.level.emergency = true then .suspended else .enabled } := by
      funext z
      unfold enableSet
      cases z.state <;> simp
    show ({ activated with sets := afterOnce (s.trig.sets.mapIdx
      (fun i z => if y.cfg.actionArg.testBit i then enableSet s.trig.level z else z)) m y } : TriggerUnit) = _
    exact moves ▸ rfl
  · obtain ⟨trig, only⟩ := State.cascade_disableSets soleB waits action
    rw [expires]
    exact ⟨trig, base.trans only⟩
  · intro refused turned
    generalize expired : s.timerExpired n.val x = b at expires base soleB waits runningB
    have page : b.page = s.page := by rw [← expired]; rfl
    have cfg : b.cfg = s.cfg := by rw [← expired]; rfl
    have lawB : b.pageLaw := by rw [← expired]; exact law
    have dwells : b.dwellFrom = s.clock + s.cfg.dwell * 1000 := by rw [← expired]; rfl
    have spots : b.spotlightFrom = s.clock + s.cfg.spotlightDwell * 1000 := by rw [← expired]; rfl
    have trigB : b.trig = { s.trig with timers := timers, expiries := bump s.trig.expiries } := by rw [← expired]; rfl
    have paged {t : State} (acts : b.performAction ⟨.timer, n.val⟩ m false y.cfg = t)
        (only : OnlyChanges [.page, .panel] b t) (shown : t.shown) :
        (s.timerExpires n.val).trig = activated ∧ (s.timerExpires n.val).page = t.page ∧
          (s.timerExpires n.val).panel = t.panel ∧ (s.timerExpires n.val).shown := by
      obtain ⟨trig, page, panel, shows⟩ := State.cascade_paged soleB waits acts only
      rw [expires]
      refine ⟨?_, page, panel, shows shown⟩
      rw [trig, trigB]
    have refuses (t : State) (tpage : t.page = b.refuseRequest.page) (shown : t.shown) :
        t.page = { s.page with
          refusedRequests := bump s.page.refusedRequests, dwell := t.page.dwell
          handed := t.page.handed, pageChanges := t.page.pageChanges } ∧ t.shown := by
      obtain ⟨d, h, k, eq⟩ := State.refuseRequest_page lawB
      rw [page] at eq
      rw [tpage, eq]
      exact ⟨rfl, shown⟩
    refine ⟨fun action => ?_, fun action => ?_, fun action => ?_⟩
    · have acts : b.performAction ⟨.timer, n.val⟩ m false y.cfg = b.pageShow (ShowPage.ofCode arg) := by
        rw [State.performAction, action]
      obtain ⟨trig, tpage, -, shown⟩ := paged acts (b.pageShow_changes _) (b.pageShow_shown _)
      have turns (position : RotationPage) (calm : s.page.level.emergency = false)
          (jumps : b.pageShow (ShowPage.ofCode arg) = b.jumpTo position) : turned position := by
        obtain ⟨d, h, k, eq, dwell⟩ := State.jumpTo_page runningB (by rw [page]; exact calm) position
        rw [cfg, page, dwells] at dwell
        rw [page, cfg] at eq
        simp only [turned, tpage, jumps, eq]
        exact ⟨trivial, trivial, trivial, trivial, dwell, trivial, trivial, trivial, shown⟩
      have pages : b.programmePages = s.programmePages := by rw [← expired]; rfl
      have prog : b.prog = s.prog := by rw [← expired]; rfl
      refine ⟨trig, whole, fun high => refuses _ (tpage.trans ?_) shown, fun calm => ?_⟩
      · rw [State.pageShow_high (by rw [page]; exact high)]
      have calmB : b.page.level.emergency = false := by rw [page]; exact calm
      obtain ⟨bars, opens⟩ := State.pageShow_programme calmB
      rw [pages, page] at bars opens
      refine ⟨fun is => turns .route calm ?_, fun is => ⟨fun barred => refuses _ (tpage.trans ?_) shown,
        fun some' loud => turns (.programme 1) calm ?_⟩, fun is => ⟨fun none => refuses _ (tpage.trans ?_) shown,
          fun i rest some' => ?_⟩⟩
      · rw [is]
        exact State.pageShow_route calmB
      · rw [is]
        exact congrArg State.page (bars barred)
      · rw [is]
        exact opens some' loud
      · rw [is]
        exact congrArg State.page (State.pageShow_noItem calmB (by rw [prog]; exact none))
      · obtain ⟨same, selected, fresh, kept⟩ := State.pageShow_spotlight runningB
          (by rw [page]; exact calm) (by rw [prog]; exact some')
        rw [is] at tpage
        rw [page, spots] at fresh
        rw [page] at same kept
        rw [tpage]
        exact ⟨same, selected, fresh, kept, shown⟩
    · have acts : b.performAction ⟨.timer, n.val⟩ m false y.cfg = b.pageQuietEnter := by
        rw [State.performAction, action]
      have shows : b.pageQuietEnter.shown := by
        unfold State.pageQuietEnter
        split
        · exact b.refuseRequest_shown
        · exact b.changeQuiet_shown _
      obtain ⟨trig, tpage, tpanel, shown⟩ := paged acts b.pageQuietEnter_changes shows
      refine ⟨trig, whole, fun high => refuses _ (tpage.trans ?_) shown, fun calm => ?_⟩
      · rw [State.pageQuietEnter, if_pos (by rw [page]; exact high)]
      obtain ⟨q, eq, quiet, presence, item, enters, stays, refusals⟩ :=
        State.pageQuietEnter_calm lawB (by rw [page]; exact calm)
      have panel : b.panel = s.panel := by rw [← expired]; rfl
      rw [page] at presence item enters stays refusals
      rw [panel] at stays
      rw [tpage, tpanel, eq]
      exact ⟨quiet, presence, item, enters, stays, refusals, shown⟩
    · have acts : b.performAction ⟨.timer, n.val⟩ m false y.cfg = b.pageQuietLeave := by
        rw [State.performAction, action]
      have shows : b.pageQuietLeave.shown := by
        unfold State.pageQuietLeave
        split
        · exact b.refuseRequest_shown
        · exact b.changeQuiet_shown _
      obtain ⟨trig, tpage, tpanel, shown⟩ := paged acts b.pageQuietLeave_changes shows
      refine ⟨trig, whole, fun high => refuses _ (tpage.trans ?_) shown, fun calm => ?_⟩
      · rw [State.pageQuietLeave, if_pos (by rw [page]; exact high)]
      obtain ⟨q, eq, quiet, rotation, item, left, stays, ends, refusals⟩ :=
        State.pageQuietLeave_calm lawB (by rw [page]; exact calm)
      have panel : b.panel = s.panel := by rw [← expired]; rfl
      rw [page] at rotation item left stays ends refusals
      rw [panel] at stays
      rw [dwells] at ends
      rw [tpage, tpanel, eq]
      exact ⟨quiet, rotation, item, left, stays, ends, refusals, shown⟩

end Sys2Proof.Machine

/-! ### Chained activations, and alarm changes at the trigger unit (R111 to R113, R116) -/

namespace Sys2Proof.Machine

/-- A run over the four sets in which one set alone does something. -/
theorem foldl_fourSets {α : Type} {f : α → Nat → α} {a b : α} {j : Nat} (small : j < 4)
    (before : ∀ i < 4, i ≠ j → f a i = a) (turn : f a j = b) (after : ∀ i < 4, f b i = b) :
    [0, 1, 2, 3].foldl f a = b := by
  have others : j = 0 ∨ j = 1 ∨ j = 2 ∨ j = 3 := by omega
  rcases others with rfl | rfl | rfl | rfl <;>
    simp [before 0, before 1, before 2, turn, after 1, after 2, after 3]

theorem foldl_noSet {α : Type} {f : α → Nat → α} {a : α} (still : ∀ i < 4, f a i = a) :
    [0, 1, 2, 3].foldl f a = a := by
  simp [still 0, still 1, still 2, still 3]

theorem Cascade.ready_iff (k : Cascade) (n : Nat) :
    k.ready n = true ↔ (k.state.trig.set n).state = .enabled ∧ n ∉ k.activated := by
  simp [Cascade.ready]

section

variable {s : State} {o : Occurrence} {m j : Nat} {y z : TriggerSet}

/-- What a chained set of a NONE set does: its capture follows, marked as chained. -/
theorem State.cascade_chain (small : m < 4) (smallJ : j < 4) (apart : m ≠ j) (held : s.trig.sets[m]? = some y)
    (heldJ : s.trig.sets[j]? = some z) (enabled : y.state = .enabled) (enabledJ : z.state = .enabled)
    (two : ∀ (k : Nat) (w : TriggerSet), s.trig.sets[k]? = some w → w.state = .enabled → k = m ∨ k = j)
    (waits : s.matchesFactor y.cfg o = true) (unmet : z.cfg.factor ≠ o.factor) (action : y.cfg.action = .none) :
    (y.cfg.chain.getLsbD j = false → s.cascade o = s.actAndOnce o m false y.cfg) ∧
    (y.cfg.chain.getLsbD j = true →
      (∀ k w, ((s.actAndOnce o m false y.cfg).actAndOnce o j true z.cfg).trig.sets[k]? = some w →
        w.state = .enabled → k = m ∨ k = j) →
      s.cascade o = (s.actAndOnce o m false y.cfg).actAndOnce o j true z.cfg) := by
  have acts : s.performAction o m false y.cfg = s := by rw [State.performAction, action]
  have trig := State.actAndOnce_trig (s := s) (o := o) (chained := false) (z := y) (by rw [acts]; exact held) rfl
  have first : s.trig.set m = y := by simp [TriggerUnit.set, held]
  generalize after : s.actAndOnce o m false y.cfg = u at trig ⊢
  have held' (k : Nat) (other : k ≠ m) : u.trig.sets[k]? = s.trig.sets[k]? := by
    rw [trig, acts]
    exact getElem?_afterOnce other
  have second : u.trig.set j = z := by simp [TriggerUnit.set, held' j apart.symm, heldJ]
  have awake (k : Nat) (on : (u.trig.set k).state = .enabled) : k = m ∨ k = j := by
    by_cases other : k = m
    · exact .inl other
    · exact two k _ ((held' k other).symm.trans (TriggerUnit.set_enabled on)) on
  have passes (k : Nat) (other : k ≠ m) : cascadeTurn o ⟨s, []⟩ k = ⟨s, []⟩ :=
    cascadeTurn_passes o _ k fun on => .inr <| by
      obtain rfl := (two k _ (TriggerUnit.set_enabled on) on).resolve_left other
      refine State.matchesFactor_other _ ?_
      rw [show TriggerUnit.set s.trig k = z by simp [TriggerUnit.set, heldJ]]
      exact unmet
  have starts : cascadeTurn o ⟨s, []⟩ m = [0, 1, 2, 3].foldl (fun k i =>
      if y.cfg.chain.getLsbD i && k.ready i then activate 3 o i true k else k) ⟨u, [m]⟩ := by
    have ready : Cascade.ready ⟨s, []⟩ m = true :=
      (Cascade.ready_iff _ _).mpr ⟨(congrArg TriggerSet.state first).trans enabled, List.not_mem_nil⟩
    have taken : cascadeTurn o ⟨s, []⟩ m = activate 4 o m false ⟨s, []⟩ :=
      if_pos (by rw [ready, show TriggerUnit.set s.trig m = y from first]; exact waits)
    rw [taken, activate]
    simp only [first, after]
  constructor
  · intro unchained
    have ends : cascadeTurn o ⟨s, []⟩ m = ⟨u, [m]⟩ := by
      rw [starts]
      refine foldl_noSet fun i _ => if_neg ?_
      rw [Bool.and_eq_true, Cascade.ready_iff]
      rintro ⟨linked, on, fresh⟩
      rcases awake i on with rfl | rfl
      · exact fresh List.mem_cons_self
      · exact Bool.false_ne_true (unchained.symm.trans linked)
    have rest (i : Nat) : cascadeTurn o ⟨u, [m]⟩ i = ⟨u, [m]⟩ :=
      cascadeTurn_passes o _ i fun on => by
        rcases awake i on with rfl | rfl
        · exact .inl List.mem_cons_self
        · refine .inr (State.matchesFactor_other _ ?_)
          rw [second]
          exact unmet
    exact congrArg Cascade.state (foldl_fourSets small (fun i _ => passes i) ends fun i _ => rest i)
  · intro linked settled
    have asleep (i : Nat) (on : ((u.actAndOnce o j true z.cfg).trig.set i).state = .enabled) : i ∈ [j, m] := by
      rcases settled i _ (TriggerUnit.set_enabled on) on with rfl | rfl <;> simp
    have follows : activate 3 o j true ⟨u, [m]⟩ = ⟨u.actAndOnce o j true z.cfg, [j, m]⟩ := by
      rw [activate]
      simp only [second]
      refine foldl_noSet fun i _ => if_neg ?_
      rw [Bool.and_eq_true, Cascade.ready_iff]
      exact fun h => h.2.2 (asleep i h.2.1)
    have ends : cascadeTurn o ⟨s, []⟩ m = ⟨u.actAndOnce o j true z.cfg, [j, m]⟩ := by
      rw [starts]
      refine foldl_fourSets smallJ (fun i _ other => if_neg ?_) ((if_pos ?_).trans follows) fun i _ => if_neg ?_
      · rw [Bool.and_eq_true, Cascade.ready_iff]
        rintro ⟨-, on, fresh⟩
        obtain rfl := (awake i on).resolve_right other
        exact fresh List.mem_cons_self
      · rw [Bool.and_eq_true, Cascade.ready_iff]
        exact ⟨linked, (congrArg TriggerSet.state second).trans enabledJ, by simp [apart.symm]⟩
      · rw [Bool.and_eq_true, Cascade.ready_iff]
        exact fun h => h.2.2 (asleep i h.2.1)
    exact congrArg Cascade.state (foldl_fourSets small (fun i _ => passes i) ends fun i _ =>
      cascadeTurn_passes o _ i fun on => .inl (asleep i on))

end

/-! #### Alarm changes -/

theorem suspensionCount_eq (after : Level) (sets : List TriggerSet) :
    suspensionCount after sets = if after.emergency then
      sets.countP (fun x => decide (x.state = .enabled) && x.cfg.normalOnly) else 0 := by
  rw [suspensionCount, List.countP_eq_length_filter]

theorem suspendSet_cfg (after : Level) (x : TriggerSet) : (suspendSet after x).cfg = x.cfg := by
  unfold suspendSet
  split
  · split <;> rfl
  · split <;> rfl

/-- What the trigger unit takes of an alarm level before its occurrence (R111). -/
def TriggerUnit.takesLevel (u : TriggerUnit) (after : Level) : TriggerUnit :=
  { u with
    level := after
    suspensions := bumpBy u.suspensions (suspensionCount after u.sets)
    sets := u.sets.map (suspendSet after) }

theorem State.triggerTakesAlarm_eq (s : State) (before after : Level) :
    s.triggerTakesAlarm before after = if before = after then s.trigDo (fun u => u.takesLevel after)
      else (s.trigDo (fun u => u.takesLevel after)).cascade ⟨.alarmChange, after.code⟩ := by
  unfold State.triggerTakesAlarm TriggerUnit.takesLevel
  rfl

/-- Occurrences that no ENABLED set waits for. -/
theorem State.cascades_quiet {s : State} {os : List Occurrence}
    (quiet : ∀ o ∈ os, ∀ y ∈ s.trig.sets, y.state = .enabled → s.matchesFactor y.cfg o = false) : s.cascades os = s := by
  induction os with
  | nil => rfl
  | cons o os ih =>
    rw [State.cascades, List.foldl_cons, s.cascade_quiet o (quiet o List.mem_cons_self)]
    exact ih fun p mem => quiet p (List.mem_cons_of_mem _ mem)

theorem State.routeNotices_quiet {s : State} (before : List RouteEntry) (removed : List Nat)
    (quiet : ∀ y ∈ s.trig.sets, y.state = .enabled → y.cfg.factor ≠ .routeChange) :
    (s.routeNotices before removed).trig = s.trig := by
  have review (os : List Occurrence) (routes : ∀ o ∈ os, o.factor = .routeChange) :
      (s.musterReview.cascades os).trig = s.trig := by
    have same : s.musterReview.trig = s.trig := s.musterReview_changes .trig (by decide)
    rw [State.cascades_quiet fun o mem y held enabled => State.matchesFactor_other _ ?_]
    · exact same
    · rw [routes o mem]
      exact quiet y (same ▸ held) enabled
  have noticed (t : State) : (t.pageNotice .route).trig = t.trig := t.pageNotice_changes _ .trig (by decide)
  unfold State.routeNotices
  dsimp only
  have moves (ids : List Nat) : (if ids = [] then s
      else s.musterReview.cascades (ids.map (fun d => ⟨.routeChange, d⟩))).trig = s.trig := by
    split
    · rfl
    · refine review _ fun o mem => ?_
      obtain ⟨d, -, rfl⟩ := List.mem_map.mp mem
      rfl
  split
  · exact moves _
  · exact (noticed _).trans (moves _)

/-- The trigger unit after an alarm notice that moves no route a set waits for. -/
theorem State.alarmNotice_trig {s : State} (running : s.running = true) (before after : Level) (event : SweepEvent)
    (quiet : ∀ y ∈ s.trig.sets, y.state = .enabled → y.cfg.factor ≠ .routeChange) :
    ∃ u : State, u.trig = s.trig ∧ u.clock = s.clock ∧ u.time = s.time ∧
      (s.alarmNotice before after event).trig = (u.triggerTakesAlarm before after).trig := by
  have told (v : State) (trig : v.trig = s.trig) (clock : v.clock = s.clock) (time : v.time = s.time) :
      ∃ u : State, u.trig = s.trig ∧ u.clock = s.clock ∧ u.time = s.time ∧
        ((((((v.cabinTakesAlarm event).musterTakesAlarm after).triggerTakesAlarm before after).panelDo
          (fun e p => p.takeAlarm e before after)).indicatorTakes after).pageTakesAlarm after).trig =
            (u.triggerTakesAlarm before after).trig := by
    have first := v.cabinTakesAlarm_changes event
    have second := (v.cabinTakesAlarm event).musterTakesAlarm_changes after
    refine ⟨(v.cabinTakesAlarm event).musterTakesAlarm after, (second .trig (by decide)).trans
      ((first .trig (by decide)).trans trig), (second .clock (by decide)).trans ((first .clock (by decide)).trans clock),
      (second .time (by decide)).trans ((first .time (by decide)).trans time), ?_⟩
    rw [State.pageTakesAlarm_changes _ _ .trig (by decide), State.indicatorTakes_trig, State.panelDo_trig]
  have evaluated : OnlyChanges [.route, .ports, .muster, .trig, .page, .panel] s
      (if before.emergency = after.emergency then s else s.reevaluateAllEvent) :=
    .ite (.refl _ s) s.reevaluateAllEvent_changes.widen
  have trig : (if before.emergency = after.emergency then s else s.reevaluateAllEvent).trig = s.trig := by
    split
    · rfl
    · have same : s.reevaluateAll.trig = s.trig := s.reevaluateAll_changes .trig (by decide)
      exact (State.routeNotices_quiet _ _ (by rw [same]; exact quiet)).trans same
  have runs := told _ trig (evaluated .clock (by decide)) (evaluated .time (by decide))
  unfold State.alarmNotice
  split
  · next loading =>
    rw [State.running, loading] at running
    exact nomatch running
  · next fault =>
    rw [State.running, fault] at running
    exact nomatch running
  · exact runs
  · exact runs

/-- The trigger unit after an accepted ALARM frame. -/
theorem State.afterAlarm_trig {s : State} {p : Port} {f : RxFrame} {a : AlarmPayload} {newEpoch : Bool}
    (running : s.running = true) (took : s.takeAlarmFrame f.origin a = (s.acceptAlarm f.origin a newEpoch, true))
    (quiet : ∀ y ∈ s.trig.sets, y.state = .enabled → y.cfg.factor ≠ .routeChange) :
    ∃ u : State, u.trig = s.trig ∧ u.clock = s.clock ∧ u.time = s.time ∧
      (s.afterAlarm p f a).trig = (u.triggerTakesAlarm s.alarm.level a.level).trig := by
  have standing := (s.changeAlarm_rest f.origin a newEpoch (steady := true)).sameStanding
  have changed := s.changeAlarm_changes f.origin a newEpoch
  have trig : (s.changeAlarm f.origin a newEpoch).trig = s.trig := changed .trig (by decide)
  obtain ⟨u, trigU, clock, time, eq⟩ := State.alarmNotice_trig (standing.running.trans running) s.alarm.level a.level
    (sweepEventOf newEpoch s.alarm.level a.level) (by rw [trig]; exact quiet)
  refine ⟨u, trigU.trans trig, clock.trans (changed .clock (by decide)), time.trans (changed .time (by decide)), ?_⟩
  rw [s.afterAlarm_rest p f a .trig (by decide), took]
  exact eq

/-- Where no set is SUSPENDED and the one ENABLED set is not normal-only, a level moves no set. -/
theorem TriggerUnit.takesLevel_still {u : TriggerUnit} {m : Nat} {y : TriggerSet} (sole : u.soleEnabled m y)
    (none : ∀ x ∈ u.sets, x.state ≠ .suspended) (always : y.cfg.normalOnly = false) (after : Level) :
    u.takesLevel after = { u with level := after, suspensions := min 65535 u.suspensions } := by
  have only (x : TriggerSet) (mem : x ∈ u.sets) (enabled : x.state = .enabled) : x = y := by
    obtain ⟨j, held⟩ := List.mem_iff_getElem?.mp mem
    obtain rfl := sole.2.2.2 j x held enabled
    rw [sole.2.1] at held
    exact (Option.some.inj held).symm
  have still : u.sets.map (suspendSet after) = u.sets := by
    refine (List.map_congr_left (g := id) fun x mem => ?_).trans (List.map_id _)
    unfold suspendSet
    split
    · refine if_neg ?_
      rintro ⟨enabled, normal⟩
      rw [only x mem enabled, always] at normal
      cases normal
    · exact if_neg (none x mem)
  have zero : suspensionCount after u.sets = 0 := by
    rw [suspensionCount_eq]
    split
    · refine List.countP_eq_zero.mpr fun x mem => ?_
      rw [Bool.and_eq_true, decide_eq_true_eq]
      rintro ⟨enabled, normal⟩
      rw [only x mem enabled, always] at normal
      cases normal
    · rfl
  rw [TriggerUnit.takesLevel, still, zero]
  rfl

/-- Settles O49: a chained set follows within its set's activation; an alarm level moves the sets before its
occurrence. -/
theorem chainsAndSuspensions : Obligations.ChainsAndSuspensions := by
  unfold Obligations.ChainsAndSuspensions
  constructor
  · intro n s x m j y z running held runs terminal small smallJ apart heldM heldJ enabled enabledJ two factor arg action
      other capture activated
    have expires := State.timerExpires_due running held runs terminal
    have base : OnlyChanges [.trig] s (s.timerExpired n.val x) := s.trigDo_changes _
    have times : (s.timerExpired n.val x).captureTime = s.captureTime := rfl
    have trigB : (s.timerExpired n.val x).trig = { s.trig with
        timers := s.trig.timers.set n.val ((s.timerCfg n.val).mode.expired x), expiries := bump s.trig.expiries } := rfl
    generalize s.timerExpired n.val x = b at expires base times trigB
    have sets : b.trig.sets = s.trig.sets := by rw [trigB]
    have heldB : b.trig.sets[m]? = some y := by rw [sets]; exact heldM
    have heldBJ : b.trig.sets[j]? = some z := by rw [sets]; exact heldJ
    obtain ⟨unchained, chained⟩ := State.cascade_chain (s := b) (o := ⟨.timer, n.val⟩) small smallJ apart heldB heldBJ
      enabled enabledJ (by rw [sets]; exact two) (State.matchesFactor_timer b factor arg) other action
    have acts : b.performAction ⟨.timer, n.val⟩ m false y.cfg = b := by rw [State.performAction, action]
    have trigU := State.actAndOnce_trig (s := b) (o := ⟨.timer, n.val⟩) (chained := false) (z := y)
      (by rw [acts]; exact heldB) rfl
    rw [acts, sets] at trigU
    have onlyU : OnlyChanges [.trig] b (b.actAndOnce ⟨.timer, n.val⟩ m false y.cfg) := by
      rw [State.actAndOnce, acts]
      exact b.trigDo_changes _
    have timesU : (b.actAndOnce ⟨.timer, n.val⟩ m false y.cfg).captureTime = s.captureTime :=
      (State.captureTime_congr (onlyU .clock (by decide)) (onlyU .time (by decide))).trans times
    generalize b.actAndOnce ⟨.timer, n.val⟩ m false y.cfg = u at unchained chained trigU onlyU timesU
    have setsU : u.trig.sets = afterOnce s.trig.sets m y := by rw [trigU]
    have follows : u.performAction ⟨.timer, n.val⟩ j true z.cfg = u.trigDo (fun v => { v with
        captures := v.captures.set z.cfg.actionArg (some ⟨s.captureTime, j, true, .timer, n.val⟩) }) := by
      rw [State.performAction, capture]
      exact congrArg (fun time => u.trigDo (fun v => { v with
        captures := v.captures.set z.cfg.actionArg (some ⟨time, j, true, .timer, n.val⟩) })) timesU
    have heldUJ : u.trig.sets[j]? = some z := by
      rw [setsU, getElem?_afterOnce apart.symm]
      exact heldJ
    have trigV := State.actAndOnce_trig (s := u) (o := ⟨.timer, n.val⟩) (chained := true) (z := z)
      (by rw [follows]; exact heldUJ) rfl
    rw [follows, State.trigDo_trig] at trigV
    have onlyV : OnlyChanges [.trig] u (u.actAndOnce ⟨.timer, n.val⟩ j true z.cfg) := by
      rw [State.actAndOnce, follows]
      exact (u.trigDo_changes _).trans (State.trigDo_changes _ _)
    have settled : ∀ k w, (u.actAndOnce ⟨.timer, n.val⟩ j true z.cfg).trig.sets[k]? = some w →
        w.state = .enabled → k = m ∨ k = j := fun k w found on => by
      by_cases first : k = m
      · exact .inl first
      by_cases second : k = j
      · exact .inr second
      rw [trigV] at found
      have found : (afterOnce u.trig.sets j z)[k]? = some w := found
      rw [getElem?_afterOnce second, setsU, getElem?_afterOnce first] at found
      exact two k w found on
    refine ⟨s.timerExpires n.val, rfl, ?_, fun off => ?_, fun on => ?_⟩
    · rw [expires]
      cases on : y.cfg.chain.getLsbD j with
      | false => rw [unchained on]; exact base.trans onlyU
      | true => rw [chained on settled]; exact base.trans (onlyU.trans onlyV)
    · rw [expires, unchained off, trigU, trigB]
      rfl
    · rw [expires, chained on settled, trigV, trigU, trigB]
      rfl
  · intro p f a s hears parsed change
    have running : (s.heard p).running = true := (s.heard_running p).trans hears.2.1
    have loaded := State.loaded_of_running running
    have alarm := s.heard_alarm p
    have heard := s.heard_changes p
    have trigH : (s.heard p).trig = s.trig := heard .trig (by decide)
    have accepted : ∃ newEpoch, (s.heard p).takeAlarmFrame f.origin a = ((s.heard p).acceptAlarm f.origin a newEpoch, true) := by
      rcases change with none | newer | ⟨same, rose⟩
      · exact ⟨true, State.takeAlarmFrame_newEpoch f.origin loaded (alarm ▸ .inl none)⟩
      · exact ⟨true, State.takeAlarmFrame_newEpoch f.origin loaded (alarm ▸ .inr newer)⟩
      · exact ⟨false, State.takeAlarmFrame_rose f.origin loaded (alarm ▸ same) (alarm ▸ rose)⟩
    obtain ⟨newEpoch, took⟩ := accepted
    have taken (quiet : ∀ y ∈ s.trig.sets, y.state = .enabled → y.cfg.factor ≠ .routeChange) :
        ∃ u : State, u.trig = s.trig ∧ u.captureTime = s.captureTime ∧
          ((s.heard p).afterAlarm p f a).trig = (u.triggerTakesAlarm s.alarm.level a.level).trig := by
      obtain ⟨u, trig, clock, time, eq⟩ := State.afterAlarm_trig (p := p) running took (by rw [trigH]; exact quiet)
      rw [alarm] at eq
      exact ⟨u, trig.trans trigH, State.captureTime_congr (clock.trans (heard .clock (by decide)))
        (time.trans (heard .time (by decide))), eq⟩
    refine ⟨(s.heard p).afterAlarm p f a, congrArg Host.Outcome.next (State.receive_eq hears (classHandler_alarm parsed)),
      fun others => ?_, fun m y sole none always factor => ?_⟩
    · obtain ⟨u, trig, -, eq⟩ := taken fun y mem _ => (others y mem).2
      have level : (u.triggerTakesAlarm s.alarm.level a.level).trig = u.trig.takesLevel a.level := by
        rw [State.triggerTakesAlarm_eq]
        split
        · rfl
        · rw [State.cascade_quiet _ _ fun y mem _ => State.matchesFactor_other _ ?_]
          · rfl
          · obtain ⟨x, held, rfl⟩ := List.mem_map.mp mem
            rw [suspendSet_cfg]
            exact (others x (trig ▸ held)).1
      rw [eq, level, trig, TriggerUnit.takesLevel, suspensionCount_eq]
      congr 1
      refine List.map_congr_left fun x _ => ?_
      unfold suspendSet
      cases a.level.emergency <;> simp
    · intro told activated
      have only (x : TriggerSet) (mem : x ∈ s.trig.sets) (enabled : x.state = .enabled) : x = y := by
        obtain ⟨j, held⟩ := List.mem_iff_getElem?.mp mem
        obtain rfl := sole.2.2.2 j x held enabled
        rw [sole.2.1] at held
        exact (Option.some.inj held).symm
      obtain ⟨u, trig, time, eq⟩ := taken fun x mem enabled => by
        rw [only x mem enabled, factor]
        nofun
      have still : (u.trigDo (fun v => v.takesLevel a.level)).trig = told := by
        show u.trig.takesLevel a.level = told
        rw [trig]
        exact TriggerUnit.takesLevel_still sole none always a.level
      have soleT : (u.trigDo (fun v => v.takesLevel a.level)).trig.soleEnabled m y := by rw [still]; exact sole
      have timeT : (u.trigDo (fun v => v.takesLevel a.level)).captureTime = s.captureTime := time
      rw [eq, State.triggerTakesAlarm_eq]
      generalize u.trigDo (fun v => v.takesLevel a.level) = b at still soleT timeT
      refine ⟨fun bars => ?_, fun differs reached => ?_⟩
      · split
        · exact still
        · next differs =>
          have below : a.level.code < y.cfg.factorArg := bars.resolve_left fun same => differs same.symm
          rw [State.cascade_unmet soleT]
          · exact still
          · simp [State.matchesFactor, factor, below]
      · rw [if_neg fun same => differs same.symm]
        have waits : b.matchesFactor y.cfg ⟨.alarmChange, a.level.code⟩ = true := by
          simp [State.matchesFactor, factor, reached]
        refine ⟨fun action => ?_, fun action => ?_⟩
        · rw [(State.cascade_none soleT waits action).1, still]
        · rw [(State.cascade_capture soleT waits action).1, still, timeT]

end Sys2Proof.Machine

/-! ### The route engine's notices of one destination (R27, R52, R110) -/

namespace Sys2Proof.Machine

/-! #### Tables that differ at one destination -/

theorem mem_ports_of_inUse {s : State} {p : Port} (used : (s.ports.get p).inUse = true) : p ∈ s.portsInUse := by
  cases p <;> simp_all [State.portsInUse, PerPort.get]

/-- Every port in use is marked. -/
theorem foldl_put_get {α : Type} (v : α) (l : List Port) (m : PerPort α) {p : Port} (held : p ∈ l ∨ m.get p = v) :
    (l.foldl (fun m q => m.put q v) m).get p = v := by
  induction l generalizing m with
  | nil => exact held.resolve_left List.not_mem_nil
  | cons q l ih =>
    refine ih _ ?_
    by_cases same : q = p
    · exact .inr (by rw [same]; exact PerPort.get_put_same m p v)
    · refine held.imp (fun mem => (List.mem_cons.mp mem).resolve_left (Ne.symm same)) fun set => ?_
      exact (PerPort.get_put_other m q p v (Ne.symm same)).trans set

theorem find?_dest {t : List RouteEntry} (order : destOrdered t) {e : RouteEntry} (he : e ∈ t) :
    t.find? (fun x => x.dest == e.dest) = some e := by
  cases found : t.find? (fun x => x.dest == e.dest) with
  | none => exact absurd (List.find?_eq_none.mp found e he) (by simp)
  | some x =>
    have same : x.dest = e.dest := by simpa using List.find?_some found
    rw [order.unique (List.mem_of_find?_eq_some found) he same]

/-- A destination two tables hold alike is found alike. -/
theorem find?_dest_congr {t u : List RouteEntry} (order : destOrdered u) {d : Nat}
    (alike : ∀ x, x.dest = d → (x ∈ u ↔ x ∈ t)) :
    u.find? (fun x => x.dest == d) = t.find? (fun x => x.dest == d) := by
  cases found : t.find? (fun x => x.dest == d) with
  | none =>
    rw [List.find?_eq_none] at found ⊢
    exact fun x hx hit => found x ((alike x (by simpa using hit)).mp hx) hit
  | some e =>
    have same : e.dest = d := by simpa using List.find?_some found
    rw [← same]
    exact find?_dest order ((alike e same).mpr (List.mem_of_find?_eq_some found))

/-- What a test admits of an ascending list, where it admits one number alone. -/
theorem filter_one {l : List Nat} (order : l.Pairwise (· < ·)) {d : Nat} (held : d ∈ l) {f : Nat → Bool}
    (others : ∀ x, x ≠ d → f x = false) : l.filter f = if f d = true then [d] else [] := by
  have once : l.filter (· == d) = [d] := by
    have distinct : l.Nodup := order.imp Nat.ne_of_lt
    rw [List.filter_beq, distinct.count, if_pos held, List.replicate_one]
  split
  · next admitted =>
    rw [← once]
    refine List.filter_congr fun x _ => ?_
    by_cases same : x = d
    · rw [same, admitted, beq_self_eq_true]
    · rw [others x same, beq_false_of_ne same]
  · next refused =>
    refine List.filter_eq_nil_iff.mpr fun x _ => ?_
    by_cases same : x = d
    · rwa [same]
    · rw [others x same]
      decide

/-! #### One destination told -/

/-- The other blocks are told of one destination, moved or with changed figures. -/
def State.tellRoute (s : State) (dest : Nat) (moved changed : Bool) : State :=
  let t := if moved = true then s.musterReview.cascade ⟨.routeChange, dest⟩ else s
  if changed = true then t.pageNotice .route else t

theorem State.routeNotices_one {s : State} {before : List RouteEntry} {removed : List Nat} {d : Nat}
    (known : d ∈ removed ∨ ∃ e ∈ s.route.entries, e.dest = d)
    (others : ∀ x, x ≠ d → x ∉ removed ∧
      s.route.entries.find? (fun e => e.dest == x) = before.find? (fun e => e.dest == x)) :
    s.routeNotices before removed = s.tellRoute d
      (removed.contains d || decide (routeOf before d ≠ routeOf s.route.entries d))
      (removed.contains d || decide (figuresIn s.cfg before d ≠ figuresIn s.cfg s.route.entries d)) := by
  have held : d ∈ ascending ((before ++ s.route.entries).map (fun e => e.dest) ++ removed) := by
    rw [mem_ascending, List.mem_append, List.mem_map]
    rcases known with gone | ⟨e, he, same⟩
    · exact .inr gone
    · exact .inl ⟨e, List.mem_append_right _ he, same⟩
  have order := ascending_pairwise ((before ++ s.route.entries).map (fun e => e.dest) ++ removed)
  unfold State.routeNotices State.tellRoute
  dsimp only
  rw [filter_one order held (f := fun d => removed.contains d || decide (routeOf before d ≠ routeOf s.route.entries d)),
    filter_one order held (f := fun d =>
      removed.contains d || decide (figuresIn s.cfg before d ≠ figuresIn s.cfg s.route.entries d))]
  · generalize (removed.contains d || decide (routeOf before d ≠ routeOf s.route.entries d)) = moved
    generalize (removed.contains d || decide (figuresIn s.cfg before d ≠ figuresIn s.cfg s.route.entries d)) = changed
    cases moved <;> cases changed <;> rfl
  · intro x other
    simp [(others x other).1, figuresIn, (others x other).2]
  · intro x other
    simp [(others x other).1, routeOf, (others x other).2]

theorem State.tellRoute_changes (s : State) (dest : Nat) (moved changed : Bool) :
    OnlyChanges [.muster, .trig, .page, .panel] s (s.tellRoute dest moved changed) := by
  have told : OnlyChanges [.muster, .trig, .page, .panel] s
      (if moved = true then s.musterReview.cascade ⟨.routeChange, dest⟩ else s) :=
    .ite (s.musterReview_changes.andThen (State.cascade_changes _ _)) (.refl _ _)
  exact .ite (told.trans (State.pageNotice_changes _ _).widen) told

/-- One destination told as `State.toldOfRoute` says. -/
theorem State.toldOfRoute_tellRoute {s w : State} (only : OnlyChanges [.route, .ports, .ind] s w) (dest : Nat)
    (moved changed : Bool) :
    s.toldOfRoute (w.tellRoute dest moved changed) dest (moved = true) (changed = true) := by
  have muster : w.muster = s.muster := only .muster (by decide)
  have trig : w.trig = s.trig := only .trig (by decide)
  have reviewed := w.musterReview_changes
  have noticed (t : State) : OnlyChanges [.page, .panel] t (if changed = true then t.pageNotice .route else t) :=
    .ite (t.pageNotice_changes _) (.refl _ _)
  refine ⟨fun move => ?_, fun still => ?_, fun change => ?_, fun still stay => ?_, fun m y sole => ⟨fun unmet => ?_, fun move waits => ?_⟩⟩
  · have told := w.tellRoute_changes dest moved changed
    have same : SameCandidates w { w.tellRoute dest moved changed with muster := s.muster } :=
      ⟨told.cfg_eq (by decide), told .alarm (by decide), told .route (by decide)⟩
    rw [same.review (told .clock (by decide)) muster.symm]
    unfold State.tellRoute
    rw [noticed _ .muster (by decide), if_pos move, State.cascade_changes _ _ .muster (by decide),
      State.musterReview, State.takeMuster_muster]
  · unfold State.tellRoute
    rw [if_neg still]
    exact ⟨(noticed w .muster (by decide)).trans muster, (noticed w .trig (by decide)).trans trig⟩
  · unfold State.tellRoute
    rw [if_pos change]
    exact State.finishPage_shown _ _ _
  · unfold State.tellRoute
    rw [if_neg still, if_neg stay]
    exact only
  · have held : w.musterReview.trig = s.trig := (reviewed .trig (by decide)).trans trig
    have quiet : w.musterReview.matchesFactor y.cfg ⟨.routeChange, dest⟩ = false := by
      by_cases factor : y.cfg.factor = .routeChange
      · have args : ¬(y.cfg.factorArg = 0 ∨ dest = y.cfg.factorArg) := fun h =>
          unmet ⟨factor, h.imp_right Eq.symm⟩
        simp [State.matchesFactor, factor, not_or.mp args]
      · exact State.matchesFactor_other _ factor
    unfold State.tellRoute
    rw [noticed _ .trig (by decide), State.cascade_unmet (held ▸ sole) quiet]
    split
    · exact held
    · exact trig
  · have held : w.musterReview.trig = s.trig := (reviewed .trig (by decide)).trans trig
    have met : w.musterReview.matchesFactor y.cfg ⟨.routeChange, dest⟩ = true := by
      simp [State.matchesFactor, waits.1, waits.2.imp_right Eq.symm]
    have time : w.musterReview.captureTime = s.captureTime := State.captureTime_congr
      ((reviewed .clock (by decide)).trans (only .clock (by decide)))
      ((reviewed .time (by decide)).trans (only .time (by decide)))
    have taken : (w.tellRoute dest moved changed).trig = (w.musterReview.cascade ⟨.routeChange, dest⟩).trig := by
      unfold State.tellRoute
      rw [noticed _ .trig (by decide), if_pos move]
    rw [taken]
    refine ⟨fun action => ?_, fun action => ?_⟩
    · rw [(State.cascade_none (held ▸ sole) met action).1, held]
    · rw [(State.cascade_capture (held ▸ sole) met action).1, held, time]

/-- The notices of an event that left one entry other than it was. -/
theorem State.routeNotices_tells {s w : State} (only : OnlyChanges [.route, .ports, .ind] s w)
    (before : destOrdered s.route.entries) (order : destOrdered w.route.entries) {e x : RouteEntry}
    (he : e ∈ s.route.entries) (hx : x ∈ w.route.entries) (same : x.dest = e.dest)
    (others : ∀ y, y.dest ≠ e.dest → (y ∈ w.route.entries ↔ y ∈ s.route.entries)) :
    s.toldOfRoute (w.routeNotices s.route.entries []) e.dest (x.state ≠ e.state ∨ x.nextHop ≠ e.nextHop)
      (figuresOf s.cfg x ≠ figuresOf s.cfg e) := by
  have wasAt := find?_dest before he
  have isAt := find?_dest order hx
  rw [same] at isAt
  have cfg : w.cfg = s.cfg := only.cfg_eq (by decide)
  have told := State.toldOfRoute_tellRoute only e.dest
    (decide (routeOf s.route.entries e.dest ≠ routeOf w.route.entries e.dest))
    (decide (figuresIn w.cfg s.route.entries e.dest ≠ figuresIn w.cfg w.route.entries e.dest))
  rw [State.routeNotices_one (d := e.dest) (.inr ⟨x, hx, same⟩) fun d other => ⟨List.not_mem_nil,
    find?_dest_congr order fun y at_ => others y (at_ ▸ other)⟩]
  have moved : (decide (routeOf s.route.entries e.dest ≠ routeOf w.route.entries e.dest) = true) =
      (x.state ≠ e.state ∨ x.nextHop ≠ e.nextHop) := by
    simp only [routeOf, wasAt, isAt, Option.map_some, decide_eq_true_eq, ne_eq, Option.some.injEq, Prod.mk.injEq,
      Classical.not_and_iff_not_or_not, eq_comm (a := e.state), eq_comm (a := e.nextHop)]
  have changed : (decide (figuresIn w.cfg s.route.entries e.dest ≠ figuresIn w.cfg w.route.entries e.dest) = true) =
      (figuresOf s.cfg x ≠ figuresOf s.cfg e) := by
    simp only [figuresIn, wasAt, isAt, cfg, Option.map_some, decide_eq_true_eq, ne_eq, Option.some.injEq,
      eq_comm (a := figuresOf s.cfg e)]
  rw [moved, changed] at told
  exact told

/-! #### Entries in place of others -/

theorem mem_replaced {t : List RouteEntry} {e x : RouteEntry} (he : e ∈ t) (same : x.dest = e.dest) :
    x ∈ replaceEntry x t := mem_replaceEntry.mpr (.inr ⟨rfl, e, he, same.symm⟩)

theorem mem_replaced_other {t : List RouteEntry} {x y : RouteEntry} (other : y.dest ≠ x.dest) :
    y ∈ replaceEntry x t ↔ y ∈ t := by
  rw [mem_replaceEntry]
  exact ⟨fun h => h.elim And.left fun ⟨eq, _⟩ => absurd (eq ▸ rfl) other, fun h => .inl ⟨h, other⟩⟩

theorem State.keepOrSwitch_keeps (s : State) (e : RouteEntry) (c : RouteCandidate) :
    (s.keepOrSwitch e c).cells = e.cells ∧ (s.keepOrSwitch e c).marks = e.marks := by
  unfold State.keepOrSwitch
  split
  · exact ⟨rfl, rfl⟩
  · split <;> exact ⟨rfl, rfl⟩

theorem State.giveUpRoute_keeps (s : State) (e : RouteEntry) :
    (s.giveUpRoute e).cells = e.cells ∧ (s.giveUpRoute e).marks = e.marks := by
  unfold State.giveUpRoute
  split <;> exact ⟨rfl, rfl⟩

/-- A re-evaluation leaves cells and marks alone. -/
theorem State.reevaluated_keeps (s : State) (e : RouteEntry) :
    (s.reevaluated e).cells = e.cells ∧ (s.reevaluated e).marks = e.marks := by
  unfold State.reevaluated
  split
  · exact ⟨rfl, rfl⟩
  · exact ⟨rfl, rfl⟩
  · split
    · exact s.keepOrSwitch_keeps e _
    · split
      · exact ⟨rfl, rfl⟩
      · exact s.giveUpRoute_keeps e
  · split <;> exact ⟨rfl, rfl⟩

theorem State.restored_cells (s : State) (e : RouteEntry) : (s.restored e).cells = e.cells := (s.reevaluated_keeps e).1

theorem State.restored_eq (s : State) (e : RouteEntry) :
    s.restored e = { s.reevaluated { e with cells := (s.restored e).cells } with marks := (s.restored e).marks } := by
  rw [s.restored_cells e]
  rfl

/-- The marks of R23 become set on every port in use. -/
theorem State.marksAfter_set {s : State} {x y : RouteEntry} (marks : needsMark s.cfg.triggeredThreshold x y = true)
    {p : Port} (used : (s.ports.get p).inUse = true) : (s.marksAfter x y).get p = .set := by
  unfold State.marksAfter
  rw [if_pos marks]
  exact foldl_put_get _ _ _ (.inl (mem_ports_of_inUse used))

theorem State.marksAfter_still {s : State} {x y : RouteEntry}
    (still : needsMark s.cfg.triggeredThreshold x y = false) : s.marksAfter x y = y.marks := by
  rw [State.marksAfter, still]
  exact if_neg Bool.false_ne_true

/-- An entry whose cells were moved, re-evaluated (R8, R10). -/
theorem State.recelled_entries {s : State} (order : destOrdered s.route.entries) {e : RouteEntry}
    (he : e ∈ s.route.entries) (cells : List Cell) :
    ((s.routeDo fun r => { r with entries := replaceEntry { e with cells } r.entries }).reevaluate e.dest).route.entries =
      replaceEntry (s.restored { e with cells }) s.route.entries := by
  let u := s.routeDo fun r => { r with entries := replaceEntry { e with cells } r.entries }
  have held : u.routeEntry e.dest = some { e with cells } :=
    State.routeEntry_of_mem (s := u) (replaceEntry_ordered order) (mem_replaced (x := { e with cells }) he rfl)
  rw [State.reevaluate_entries (s := u) held]
  exact replaceEntry_replaceEntry (e := u.restored { e with cells }) (u.restored_dest _).symm _

theorem State.recelled_changes (s : State) (dest : Nat) (f : RouteEngine → RouteEngine) :
    OnlyChanges [.route, .ports, .ind] s ((s.routeDo f).reevaluate dest) :=
  (s.routeDo_changes f).andThen (State.reevaluate_changes _ _)

/-- What a re-evaluation after moved cells leaves in the table, and whom it is told. -/
theorem State.recelled_told {s : State} (order : destOrdered s.route.entries) {e : RouteEntry}
    (he : e ∈ s.route.entries) (cells : List Cell) {w : State}
    (is : w = (s.routeDo fun r => { r with entries := replaceEntry { e with cells } r.entries }).reevaluate e.dest) :
    s.restored { e with cells } ∈ (w.routeNotices s.route.entries []).route.entries ∧
    s.toldOfRoute (w.routeNotices s.route.entries []) e.dest
      ((s.restored { e with cells }).state ≠ e.state ∨ (s.restored { e with cells }).nextHop ≠ e.nextHop)
      (figuresOf s.cfg (s.restored { e with cells }) ≠ figuresOf s.cfg e) ∧
    ∀ x, x.dest ≠ e.dest → (x ∈ (w.routeNotices s.route.entries []).route.entries ↔ x ∈ s.route.entries) := by
  have table : w.route.entries = replaceEntry (s.restored { e with cells }) s.route.entries :=
    is ▸ State.recelled_entries order he cells
  have dest : (s.restored { e with cells }).dest = e.dest := s.restored_dest _
  have held : s.restored { e with cells } ∈ w.route.entries := table ▸ mem_replaced he dest
  have others (x : RouteEntry) (other : x.dest ≠ e.dest) : x ∈ w.route.entries ↔ x ∈ s.route.entries :=
    table ▸ mem_replaced_other (dest.symm ▸ other)
  have kept : (w.routeNotices s.route.entries []).route = w.route := State.routeNotices_changes _ _ _ .route (by decide)
  rw [kept]
  exact ⟨held, State.routeNotices_tells (is ▸ s.recelled_changes _ _) order (table ▸ replaceEntry_ordered order) he held
    dest others, others⟩

end Sys2Proof.Machine

/-! ### The deadlines of the destination table (R10, R17, R19) -/

namespace Sys2Proof.Machine

section
variable {s : State} {e : RouteEntry} (running : s.running = true) (law : s.routeLaw) (he : e ∈ s.route.entries)
include running law he

theorem State.expireCell_due {n : Nat} {c : Cell} (cell : e.cells[n]? = some c) (live : c.state = .live)
    (late : c.refreshed + 3 * (s.cfg.advertInterval * 1000) ≤ s.clock) :
    s.expireCell e.dest n = ((s.routeDo fun r => { r with
      entries := replaceEntry { e with cells := e.cells.set n { c with state := .expired } } r.entries }).reevaluate
        e.dest).routeNotices s.route.entries [] := by
  have due : s.cellDue c = true := by simp [State.cellDue, State.advertMs, live, late]
  unfold State.expireCell
  rw [State.routeEntry_of_mem law.1.2.1 he]
  dsimp only
  rw [cell]
  exact if_pos ⟨running, due⟩

theorem State.endHoldDown_due {d : Nat} (state : e.state = .holdDown) (deadline : e.holdDownDeadline = some d)
    (late : d ≤ s.clock) :
    s.endHoldDown e.dest = (s.storeEntry e (s.afterHoldDown e d)).routeNotices s.route.entries [] := by
  unfold State.endHoldDown
  rw [State.routeEntry_of_mem law.1.2.1 he]
  dsimp only
  rw [deadline]
  exact if_pos ⟨running, state, late⟩

theorem State.flushEntry_due {d : Nat} (pinned : e.pinned = false) (state : e.state = .unreachable)
    (since : e.unreachableSince = some d) (late : d + 6 * (s.cfg.advertInterval * 1000) ≤ s.clock) :
    s.flushEntry e.dest = (s.routeDo fun r => { r with
      entries := removeEntry e.dest r.entries
      flushedEntries := bump r.flushedEntries }).routeNotices s.route.entries [e.dest] := by
  have due : s.flushDue e = true := by simp [State.flushDue, State.advertMs, pinned, state, since, due, late]
  unfold State.flushEntry
  rw [State.routeEntry_of_mem law.1.2.1 he]
  exact if_pos ⟨running, due⟩

end

/-- The entry after its hold-down, as it is stored. -/
theorem State.afterHoldDown_stored (s : State) (e : RouteEntry) (d : Nat) (state : e.state = .holdDown) :
    (∀ c, s.bestRoute e.cells (fun _ => true) = some c →
      s.afterHoldDown e d = e.takeRoute c ∧
        ∀ q, (s.ports.get q).inUse = true → (s.marksAfter e (s.afterHoldDown e d)).get q = .set) ∧
    (s.bestRoute e.cells (fun _ => true) = none → s.afterHoldDown e d = e.becomeUnreachable d ∧
      s.marksAfter e (s.afterHoldDown e d) = e.marks) := by
  refine ⟨fun c best => ?_, fun none => ?_⟩
  · have taken : s.afterHoldDown e d = e.takeRoute c := by rw [State.afterHoldDown, best]
    refine ⟨taken, fun q used => State.marksAfter_set ?_ used⟩
    rw [taken, needsMark, state]
    rfl
  · have given : s.afterHoldDown e d = e.becomeUnreachable d := by rw [State.afterHoldDown, none]
    refine ⟨given, ?_⟩
    rw [given, State.marksAfter_still]
    · rfl
    · rw [needsMark, state]
      rfl

/-- Settles O33: each due deadline writes one entry of the table, or removes it, and tells of it. -/
theorem routeDeadlinesTaken : Obligations.RouteDeadlinesTaken := by
  unfold Obligations.RouteDeadlinesTaken
  intro e s running law he
  obtain ⟨-, order, -⟩ := law.1
  have restoring := (State.routeLaw_iff s).mp law
  refine ⟨fun n c cell live late => ?_, fun d state deadline late => ?_, fun d pinned state since late => ?_⟩
  · refine ⟨_, rfl, (State.routeLaw_iff _).mpr (s.expireCell_restoring restoring _ _), ?_⟩
    obtain ⟨held, told, others⟩ := State.recelled_told order he (e.cells.set n.val { c with state := .expired }) rfl
    have only := s.expireCell_changes e.dest n.val
    rw [State.expireCell_due running law he cell live late] at only ⊢
    exact ⟨⟨_, held, s.restored_cells _, s.restored_eq _, told⟩, others, only⟩
  · refine ⟨_, rfl, (State.routeLaw_iff _).mpr (s.endHoldDown_restoring restoring _), ?_⟩
    have only := s.endHoldDown_changes e.dest
    rw [State.endHoldDown_due running law he state deadline late] at only ⊢
    obtain ⟨taken, given⟩ := s.afterHoldDown_stored e d state
    let x : RouteEntry := { s.afterHoldDown e d with marks := s.marksAfter e (s.afterHoldDown e d) }
    have table := s.storeEntry_entries e (s.afterHoldDown e d)
    have dest : x.dest = e.dest := (s.afterHoldDown_law e d).2
    have held : x ∈ (s.storeEntry e (s.afterHoldDown e d)).route.entries := table ▸ mem_replaced he dest
    have others (y : RouteEntry) (other : y.dest ≠ e.dest) :
        y ∈ (s.storeEntry e (s.afterHoldDown e d)).route.entries ↔ y ∈ s.route.entries :=
      table ▸ mem_replaced_other (x := x) (dest.symm ▸ other)
    have told := State.routeNotices_tells (s.storeEntry_changes e (s.afterHoldDown e d)).widen order
      (table ▸ replaceEntry_ordered order) he held dest others
    have kept : ((s.storeEntry e (s.afterHoldDown e d)).routeNotices s.route.entries []).route =
        (s.storeEntry e (s.afterHoldDown e d)).route := State.routeNotices_changes _ _ _ .route (by decide)
    refine ⟨⟨x, kept ▸ held, fun c best => ⟨?_, (taken c best).2⟩, fun none => ?_, told⟩, kept ▸ others, only⟩
    · show x = _
      exact congrArg (fun y : RouteEntry => { y with marks := x.marks }) (taken c best).1
    · show { s.afterHoldDown e d with marks := s.marksAfter e (s.afterHoldDown e d) } = _
      rw [(given none).2, (given none).1]
      rfl
  · refine ⟨_, rfl, (State.routeLaw_iff _).mpr (s.flushEntry_restoring restoring _), ?_⟩
    have only := s.flushEntry_changes e.dest
    rw [State.flushEntry_due running law he pinned state since late] at only ⊢
    let u := s.routeDo fun r => { r with
      entries := removeEntry e.dest r.entries
      flushedEntries := bump r.flushedEntries }
    have kept : (u.routeNotices s.route.entries [e.dest]).route = u.route :=
      State.routeNotices_changes _ _ _ .route (by decide)
    have gone (x : RouteEntry) : x ∈ u.route.entries ↔ x ∈ s.route.entries ∧ x.dest ≠ e.dest := mem_removeEntry
    have told := State.toldOfRoute_tellRoute (w := u) (s.routeDo_changes _).widen e.dest true true
    have one := State.routeNotices_one (s := u) (before := s.route.entries) (removed := [e.dest]) (d := e.dest)
      (.inl List.mem_cons_self) fun x other => ⟨by simpa using other, find?_dest_congr (order.sublist List.filter_sublist)
        fun y at_ => (gone y).trans (and_iff_left (at_ ▸ other))⟩
    simp only [List.contains_cons, beq_self_eq_true, Bool.true_or] at one
    refine ⟨fun x => ?_, by rw [kept]; rfl, ?_, only⟩
    · rw [kept, gone x]
      exact and_congr_right fun hx => not_congr ⟨fun same => destOrdered.unique order hx he same, fun eq => eq ▸ rfl⟩
    · rw [one]
      simpa using told

end Sys2Proof.Machine

/-! ### One entry of an ADVERT frame (R7, R8, R9, R20) -/

namespace Sys2Proof.Machine

/-! #### The slots a frame matches, and the cells it refreshes -/

theorem mem_matchingSlots {cfg : ConfigCopy} {p : Port} {sender n : Nat} : n ∈ matchingSlots cfg p sender ↔
    n < 6 ∧ ∃ l, cfg.neighbours[n]? = some l ∧ l.node = sender ∧ l.port = p := by
  rw [matchingSlots, List.mem_filter, List.mem_range]
  refine and_congr_right fun _ => ?_
  cases cfg.neighbours[n]? <;> simp

theorem refreshCells_get (now : Nat) (slots : List Nat) (a : AdvertEntry) (cells : List Cell) (n : Nat) :
    (n ∈ slots → (refreshCells now slots a cells)[n]? = cells[n]?.map fun _ => liveCell now a) ∧
    (n ∉ slots → (refreshCells now slots a cells)[n]? = cells[n]?) := by
  rw [refreshCells, List.getElem?_mapIdx]
  exact ⟨fun mem => by simp [mem], fun off => by simp [off]⟩

theorem AdvertEntry.outOfRange_iff (a : AdvertEntry) : a.outOfRange = true ↔
    a.dest = 0 ∨ DestKind.ofCode a.kindCode = none ∨ 63 < a.hop ∨ 4095 < a.nextNode := by
  simp [AdvertEntry.outOfRange, or_assoc]

/-- The changes that set the marks (R23). -/
theorem needsMark_iff (threshold : Nat) (x y : RouteEntry) : needsMark threshold x y = true ↔
    (x.state = .reachable ∧ (y.state = .holdDown ∨ y.state = .unreachable)) ∨
    ((x.state = .holdDown ∨ x.state = .unreachable) ∧ y.state = .reachable) ∨
    (x.state = .reachable ∧ y.state = .reachable ∧ (x.nextHop ≠ y.nextHop ∨ (x.cost ≠ y.cost ∧
      (x.cost + threshold ≤ y.cost ∨ y.cost + threshold ≤ x.cost)))) := by
  unfold needsMark
  cases x.state <;> cases y.state <;> simp

/-! #### Re-evaluation in like states -/

theorem SameRouting.reevaluated {s t : State} (h : SameRouting s t) (clock : t.clock = s.clock) :
    t.reevaluated = s.reevaluated := by
  have current : t.currentCandidate = s.currentCandidate := by
    funext e
    unfold State.currentCandidate
    rw [h.candidateAt]
  funext e
  unfold State.reevaluated State.keepOrSwitch State.giveUpRoute
  rw [current, h.bestRoute, h.cfg, clock]

/-- What was told of a destination is told of it from an earlier state of the same blocks. -/
theorem State.toldOfRoute_earlier {s u t : State} (only : OnlyChanges [.ports, .ind] s u) {dest : Nat}
    {moved changed : Prop} (told : u.toldOfRoute t dest moved changed) : s.toldOfRoute t dest moved changed := by
  have muster : u.muster = s.muster := only .muster (by decide)
  have trig : u.trig = s.trig := only .trig (by decide)
  have time : u.captureTime = s.captureTime :=
    State.captureTime_congr (only .clock (by decide)) (only .time (by decide))
  unfold State.toldOfRoute at told
  rw [muster, trig, time] at told
  obtain ⟨reviews, still, shown, quiet, trigger⟩ := told
  exact ⟨reviews, still, shown, fun a b => only.andThen (quiet a b) (c := [.route, .ports, .ind]), trigger⟩

/-- An event that leaves the table as it was has nothing to tell. -/
theorem State.routeNotices_same {s : State} {before : List RouteEntry} (same : s.route.entries = before) :
    s.routeNotices before [] = s := by
  subst same
  simp [State.routeNotices]

/-! #### The frame's work -/

section
variable {s : State} {p : Port} {sender : Nat}

theorem State.takeAdvert_stranger (running : s.running = true) (entries : List AdvertEntry)
    (stranger : ∀ n, n ∉ matchingSlots s.cfg p sender) : s.takeAdvert p sender entries =
      s.routeDo fun r => { r with nonNeighbourAdverts := bump r.nonNeighbourAdverts } := by
  unfold State.takeAdvert
  rw [if_pos running, List.eq_nil_iff_forall_not_mem.mpr stranger]

theorem State.takeAdvert_neighbour (running : s.running = true) (entries : List AdvertEntry) {n : Nat}
    (slot : n ∈ matchingSlots s.cfg p sender) {w : AdvertWork}
    (work : entries.foldl (AdvertWork.take (matchingSlots s.cfg p sender)) ⟨s, []⟩ = w) :
    s.takeAdvert p sender entries = w.state.routeNotices s.route.entries w.removed := by
  unfold State.takeAdvert
  rw [if_pos running]
  split
  · next none => exact absurd (none ▸ slot) List.not_mem_nil
  · next k more slots => rw [← work, slots]

end

section
variable {s : State} {slots : List Nat} {a : AdvertEntry}

theorem AdvertWork.take_skipped {w : AdvertWork} (skipped : a.outOfRange = true) : w.take slots a =
    { w with state := w.state.routeDo fun r => { r with skippedEntries := bump r.skippedEntries } } := by
  unfold AdvertWork.take
  rw [if_pos skipped]

theorem AdvertWork.take_held {w : AdvertWork} (range : ¬a.outOfRange = true) {e : RouteEntry}
    (held : w.state.routeEntry a.dest = some e) :
    w.take slots a = { w with state := w.state.refreshEntry slots a e } := by
  unfold AdvertWork.take
  rw [if_neg range, held]

theorem AdvertWork.take_new {w : AdvertWork} (range : ¬a.outOfRange = true) (absent : w.state.routeEntry a.dest = none)
    {kind : DestKind} (code : DestKind.ofCode a.kindCode = some kind) : w.take slots a =
      if a.cost < 65535 ∧ a.nextNode ≠ w.state.cfg.nodeNumber then w.create slots a kind else w := by
  unfold AdvertWork.take
  rw [if_neg range, absent, code]

theorem AdvertWork.create_room {w : AdvertWork} (room : w.state.route.entries.length < 48) (kind : DestKind) :
    w.create slots a kind = { w with state := w.state.createEntry slots a kind } := by
  unfold AdvertWork.create
  exact if_pos room

theorem AdvertWork.create_evicts {w : AdvertWork} (full : w.state.route.entries.length = 48) {v : RouteEntry}
    (chosen : w.state.evictee = some v) (kind : DestKind) : w.create slots a kind =
      ⟨(w.state.routeDo fun r => { r with
          entries := removeEntry v.dest r.entries
          evictedEntries := bump r.evictedEntries }).createEntry slots a kind, v.dest :: w.removed⟩ := by
  have cap : ¬w.state.route.entries.length < tableCap := by rw [full]; decide
  unfold AdvertWork.create
  rw [if_neg cap, chosen]

theorem AdvertWork.create_drops {w : AdvertWork} (full : w.state.route.entries.length = 48)
    (chosen : w.state.evictee = none) (kind : DestKind) : w.create slots a kind =
      { w with state := w.state.routeDo fun r => { r with droppedDestinations := bump r.droppedDestinations } } := by
  have cap : ¬w.state.route.entries.length < tableCap := by rw [full]; decide
  unfold AdvertWork.create
  rw [if_neg cap, chosen]

/-! #### A created entry -/

/-- The entry as it is created, before its re-evaluation (R9). -/
def State.madeEntry (s : State) (slots : List Nat) (a : AdvertEntry) (kind : DestKind) : RouteEntry :=
  { RouteEntry.fresh a.dest kind false s.clock with
    cells := refreshCells s.clock slots a (List.replicate 6 Cell.empty) }

theorem State.createEntry_entries (order : destOrdered s.route.entries)
    (absent : ∀ x ∈ s.route.entries, x.dest ≠ a.dest) (kind : DestKind) :
    (s.createEntry slots a kind).route.entries =
      replaceEntry (s.restored (s.madeEntry slots a kind)) (insertEntry (s.madeEntry slots a kind) s.route.entries) := by
  let x := s.madeEntry slots a kind
  let u := s.routeDo fun r => { r with entries := insertEntry x r.entries }
  have held : u.routeEntry a.dest = some x := State.routeEntry_of_mem (s := u) (e := x)
    (insertEntry_ordered order absent) (mem_insertEntry.mpr (.inl rfl))
  exact State.reevaluate_entries (s := u) held

theorem State.mem_createEntry (order : destOrdered s.route.entries)
    (absent : ∀ x ∈ s.route.entries, x.dest ≠ a.dest) (kind : DestKind) :
    s.restored (s.madeEntry slots a kind) ∈ (s.createEntry slots a kind).route.entries ∧
    ∀ x, x.dest ≠ a.dest → (x ∈ (s.createEntry slots a kind).route.entries ↔ x ∈ s.route.entries) := by
  have dest : (s.restored (s.madeEntry slots a kind)).dest = a.dest := s.restored_dest _
  rw [State.createEntry_entries order absent]
  refine ⟨mem_replaced (mem_insertEntry.mpr (.inl rfl)) dest, fun x other => ?_⟩
  rw [mem_replaced_other (dest.symm ▸ other), mem_insertEntry]
  exact or_iff_right fun eq => other (eq ▸ rfl)

/-- A created entry is UNREACHABLE or reached, and marked when it is (R9, R23). -/
theorem State.restored_made (kind : DestKind) :
    ((s.restored (s.madeEntry slots a kind)).state = .reachable → ∀ q, (s.ports.get q).inUse = true →
      (s.restored (s.madeEntry slots a kind)).marks.get q = .set) ∧
    ((s.restored (s.madeEntry slots a kind)).state ≠ .reachable →
      (s.restored (s.madeEntry slots a kind)).marks = ⟨.clear, .clear⟩) := by
  have mark (y : RouteEntry) : needsMark s.cfg.triggeredThreshold (s.madeEntry slots a kind) y =
      decide (y.state = .reachable) := by
    show needsMark _ _ _ = _
    unfold needsMark
    cases y.state <;> rfl
  refine ⟨fun reached q used => State.marksAfter_set ?_ used, fun lost => ?_⟩
  · rw [mark]
    exact decide_eq_true reached
  · refine (State.marksAfter_still ?_).trans (s.reevaluated_keeps _).2
    rw [mark]
    exact decide_eq_false lost

end

/-! #### The entry that gives way (R20) -/

theorem oldestUnreachable_eq {t : List RouteEntry} (order : destOrdered t) {v : RouteEntry}
    (idle : v ∈ t ∧ v.pinned = false ∧ v.state = .unreachable)
    (first : ∀ x, x ∈ t ∧ x.pinned = false ∧ x.state = .unreachable →
      v.unreachableSince.getD 0 < x.unreachableSince.getD 0 ∨
        (v.unreachableSince.getD 0 = x.unreachableSince.getD 0 ∧ v.dest ≤ x.dest)) :
    oldestUnreachable t = some v := by
  have mem (x : RouteEntry) : x ∈ t.filter (fun e => !e.pinned && decide (e.state = .unreachable)) ↔
      x ∈ t ∧ x.pinned = false ∧ x.state = .unreachable := by simp [List.mem_filter]
  unfold oldestUnreachable
  refine leastBy_eq_some (fun x y h => ?_) (fun x => ?_) (fun x y z h k => ?_) (fun x hx h k => ?_) ((mem v).mpr idle)
    fun x hx => ?_
  · simp at h ⊢
    omega
  · simp
  · simp at h k ⊢
    omega
  · have same : x.dest = v.dest := by
      simp at h k
      omega
    exact destOrdered.unique order ((mem x).mp hx).1 idle.1 same
  · have := first x ((mem x).mp hx)
    simp
    omega

theorem oldestUnreachable_eq_none {t : List RouteEntry}
    (none : ∀ x, ¬(x ∈ t ∧ x.pinned = false ∧ x.state = .unreachable)) : oldestUnreachable t = .none :=
  leastBy_eq_none fun x hx => none x (by simpa [List.mem_filter] using hx)

theorem State.mem_venues {s : State} {x : RouteEntry} : x ∈ s.route.entries.filter (fun e =>
      !e.pinned && decide (e.state = .reachable) && decide (e.kind = .venue) && !s.referenced e.dest) ↔
    x ∈ s.route.entries ∧ x.pinned = false ∧ x.state = .reachable ∧ x.kind = .venue ∧
      ∀ i ∈ s.prog.items, i.venue ≠ x.dest := by
  simp [List.mem_filter, State.referenced, and_assoc]

theorem State.costliestVenue_eq {s : State} (order : destOrdered s.route.entries) {v : RouteEntry}
    (venue : v ∈ s.route.entries ∧ v.pinned = false ∧ v.state = .reachable ∧ v.kind = .venue ∧
      ∀ i ∈ s.prog.items, i.venue ≠ v.dest)
    (first : ∀ x, x ∈ s.route.entries ∧ x.pinned = false ∧ x.state = .reachable ∧ x.kind = .venue ∧
      (∀ i ∈ s.prog.items, i.venue ≠ x.dest) → x.cost < v.cost ∨ (x.cost = v.cost ∧ x.dest ≤ v.dest)) :
    s.costliestVenue = some v := by
  unfold State.costliestVenue
  refine leastBy_eq_some (fun x y h => ?_) (fun x => ?_) (fun x y z h k => ?_) (fun x hx h k => ?_)
    (State.mem_venues.mpr venue) fun x hx => ?_
  · simp at h ⊢
    omega
  · simp
  · simp at h k ⊢
    omega
  · have same : x.dest = v.dest := by
      simp at h k
      omega
    exact destOrdered.unique order (State.mem_venues.mp hx).1 venue.1 same
  · have := first x (State.mem_venues.mp hx)
    simp
    omega

theorem State.evictee_oldest {s : State} {v : RouteEntry} (oldest : oldestUnreachable s.route.entries = some v) :
    s.evictee = some v := by
  rw [State.evictee, oldest]

theorem State.evictee_venue {s : State} (none : oldestUnreachable s.route.entries = .none) :
    s.evictee = s.costliestVenue := by
  rw [State.evictee, none]

/-! #### The count of evictions -/

theorem State.requestTriggered_evicted (s : State) (p : Port) :
    (s.requestTriggered p).route.evictedEntries = s.route.evictedEntries := by
  have asked : (s.requestToken p .triggered).route = s.route := s.requestToken_changes p .triggered .route (by decide)
  show (s.requestToken p .triggered).route.evictedEntries = s.route.evictedEntries
  rw [asked]

theorem State.markBecameSet_evicted (s : State) (p : Port) :
    (s.markBecameSet p).route.evictedEntries = s.route.evictedEntries := by
  unfold State.markBecameSet
  split
  · rfl
  · split
    · exact s.requestTriggered_evicted p
    · split
      · split <;> rfl
      · exact s.requestTriggered_evicted p

theorem State.storeEntry_evicted (s : State) (before after : RouteEntry) :
    (s.storeEntry before after).route.evictedEntries = s.route.evictedEntries := by
  have marked (l : List Port) (t : State) :
      (l.foldl State.markBecameSet t).route.evictedEntries = t.route.evictedEntries := by
    induction l generalizing t with
    | nil => rfl
    | cons p l ih => exact (ih _).trans (t.markBecameSet_evicted p)
  unfold State.storeEntry
  split
  · exact marked _ _
  · rfl

theorem State.reevaluate_evicted (s : State) (dest : Nat) :
    (s.reevaluate dest).route.evictedEntries = s.route.evictedEntries := by
  unfold State.reevaluate
  split
  · rfl
  · refine (State.storeEntry_evicted _ _ _).trans ?_
    unfold State.countHoldDown
    split <;> rfl

end Sys2Proof.Machine

/-! ### ADVERT frames (R7, R8, R9, R20) -/

namespace Sys2Proof.Machine

/-- Settles O31: the frame's one entry is skipped, refreshes the entry it names or creates it. -/
theorem advertFrameTaken : Obligations.AdvertFrameTaken := by
  unfold Obligations.AdvertFrameTaken
  intro p f a s hears parsed law slot skipped live marked idle venue since givesWay created
  let u := s.heard p
  let t := u.takeAdvert p f.sender [a]
  have handled : classHandler p .advert f = some (fun s => s.takeAdvert p f.sender [a]) := by
    simp only [classHandler, parsed, Option.map_some]
  have taken : exec (.advertFrame p f) s = .next t := congrArg Host.Outcome.next (State.receive_eq hears handled)
  have heard : OnlyChanges [.ports, .ind] s u := s.heard_changes p
  have only : OnlyChanges [.route, .ports, .muster, .trig, .page, .panel, .ind] s t :=
    heard.andThen (u.takeAdvert_changes p f.sender [a])
  have route : u.route = s.route := heard .route (by decide)
  have prog : u.prog = s.prog := s.heard_prog p
  have running : u.running = true := (s.heard_running p).trans hears.2.1
  have restoring : u.Restoring [] := heard.restoring ((State.routeLaw_iff s).mp law)
  have order : destOrdered u.route.entries := restoring.order
  have slots (n : Nat) : n ∈ matchingSlots u.cfg p f.sender ↔ slot n := by
    rw [mem_matchingSlots, s.heard_cfg p]
  have same : u.reevaluated = s.reevaluated := heard.sameRouting.reevaluated (heard .clock (by decide))
  have liveCell : liveCell u.clock a = live := by rw [s.heard_clock p]; rfl
  have range : a.outOfRange = true ↔ skipped := a.outOfRange_iff
  have restored (e : RouteEntry) :
      u.restored e = { s.reevaluated { e with cells := (u.restored e).cells } with marks := (u.restored e).marks } :=
    same ▸ u.restored_eq e
  -- one entry of the frame, from the state that heard it
  have worked (w : AdvertWork) {n : Nat} (at_ : slot n)
      (work : AdvertWork.take (matchingSlots u.cfg p f.sender) ⟨u, []⟩ a = w) :
      t = w.state.routeNotices u.route.entries w.removed :=
    State.takeAdvert_neighbour running [a] ((slots n).mpr at_) work
  have quiet (w : State) {n : Nat} (at_ : slot n) (entries : w.route.entries = u.route.entries)
      (work : AdvertWork.take (matchingSlots u.cfg p f.sender) ⟨u, []⟩ a = ⟨w, []⟩) : t = w :=
    (worked ⟨w, []⟩ at_ work).trans (State.routeNotices_same entries)
  have counted (w : RouteEngine → RouteEngine) (is : t = u.routeDo w) :
      OnlyChanges [.route, .ports, .ind] s t ∧ t.route = w s.route := by
    rw [is, State.routeDo_route, route]
    exact ⟨heard.andThen (u.routeDo_changes w), rfl⟩
  -- a created entry, in a table made ready for it
  have making {n : Nat} (at_ : slot n) {kind : DestKind} (code : DestKind.ofCode a.kindCode = some kind)
      (g : RouteEngine → RouteEngine) (removed : List Nat) (order' : destOrdered (g u.route).entries)
      (absent : ∀ x ∈ (g u.route).entries, x.dest ≠ a.dest)
      (work : AdvertWork.take (matchingSlots u.cfg p f.sender) ⟨u, []⟩ a =
        ⟨(u.routeDo g).createEntry (matchingSlots u.cfg p f.sender) a kind, removed⟩) :
      created t ∧ (∀ x, x.dest ≠ a.dest → (x ∈ t.route.entries ↔ x ∈ (g u.route).entries)) ∧
        t.route.evictedEntries = (g u.route).evictedEntries := by
    let v := u.routeDo g
    have kept : t.route = (v.createEntry (matchingSlots u.cfg p f.sender) a kind).route := by
      rw [worked _ at_ work]
      exact State.routeNotices_changes _ _ _ .route (by decide)
    obtain ⟨held, others⟩ := State.mem_createEntry (s := v) (slots := matchingSlots u.cfg p f.sender) order' absent kind
    obtain ⟨set, clear⟩ := State.restored_made (s := v) (slots := matchingSlots u.cfg p f.sender) (a := a) kind
    rw [← kept] at held others
    refine ⟨⟨_, held, kind, code, fun m => ?_, ?_, fun reached q used => set reached q ?_, clear⟩, others, ?_⟩
    · have cell := refreshCells_get u.clock (matchingSlots u.cfg p f.sender) a (List.replicate 6 Cell.empty) m
      rw [liveCell] at cell
      rw [v.restored_cells]
      refine ⟨fun hit => (cell.1 ((slots m).mpr hit)).trans ?_, fun off small => (cell.2 (mt (slots m).mp off)).trans ?_⟩
      · rw [List.getElem?_replicate, if_pos hit.1]
        rfl
      · rw [List.getElem?_replicate, if_pos small]
    · rw [← s.heard_clock p]
      exact restored (u.madeEntry (matchingSlots u.cfg p f.sender) a kind)
    · exact (s.heard_inUse p q).trans used
    · rw [kept]
      exact State.reevaluate_evicted _ _
  refine ⟨t, taken, (State.routeLaw_iff t).mpr (u.takeAdvert_restoring restoring _ _ _), fun stranger => ?_,
    fun ⟨n, at_⟩ skip => ?_, fun ⟨n, at_⟩ fits e he dest => ?_, fun ⟨n, at_⟩ fits absent => ?_, only⟩
  · exact counted _ (State.takeAdvert_stranger running [a] fun n mem => stranger n ((slots n).mp mem))
  · exact counted _ (quiet _ at_ rfl (AdvertWork.take_skipped (range.mpr skip)))
  · have he : e ∈ u.route.entries := route ▸ he
    have work := worked _ at_ (AdvertWork.take_held (w := ⟨u, []⟩) (mt range.mp fits)
      (dest ▸ State.routeEntry_of_mem order he))
    obtain ⟨held, told, others⟩ := State.recelled_told order he
      (refreshCells u.clock (matchingSlots u.cfg p f.sender) a e.cells)
      (w := u.refreshEntry (matchingSlots u.cfg p f.sender) a e) (by unfold State.refreshEntry; rw [← dest])
    let x := u.restored { e with cells := refreshCells u.clock (matchingSlots u.cfg p f.sender) a e.cells }
    have marks : needsMark u.cfg.triggeredThreshold e x = true ↔ marked e x := s.heard_cfg p ▸ needsMark_iff _ e x
    refine ⟨x, work ▸ held, fun m => ?_, restored _, fun moved q used => ?_, fun still => ?_, ?_, ?_⟩
    · have cell := refreshCells_get u.clock (matchingSlots u.cfg p f.sender) a e.cells m
      rw [liveCell] at cell
      rw [u.restored_cells]
      exact ⟨fun hit => cell.1 ((slots m).mpr hit), fun off => cell.2 (mt (slots m).mp off)⟩
    · refine State.marksAfter_set (s := u) (x := { e with cells := _ }) (y := u.reevaluated _) ?_
        ((s.heard_inUse p q).trans used)
      exact marks.mpr moved
    · exact (State.marksAfter_still (Bool.not_eq_true _ ▸ mt marks.mp still)).trans (u.reevaluated_keeps _).2
    · rw [← s.heard_cfg p, work, ← dest]
      exact State.toldOfRoute_earlier heard told
    · intro y other
      rw [work, ← route]
      exact others y (dest ▸ other)
  · have absent : ∀ e ∈ u.route.entries, e.dest ≠ a.dest := route ▸ absent
    obtain ⟨kind, code⟩ := Option.ne_none_iff_exists'.mp fun none => fits (.inr (.inl none))
    have unheld : u.routeEntry a.dest = none := by simpa [State.routeEntry] using absent
    have work := AdvertWork.take_new (w := ⟨u, []⟩) (slots := matchingSlots u.cfg p f.sender) (mt range.mp fits) unheld code
    have cfg : u.cfg = s.cfg := s.heard_cfg p
    refine ⟨fun poisoned => ?_, fun cheap other => ⟨fun room => ?_, fun full => ⟨fun v gives => ?_, fun none => ?_⟩⟩⟩
    · have refused : ¬(a.cost < 65535 ∧ a.nextNode ≠ u.cfg.nodeNumber) := fun ⟨cheap, other⟩ =>
        poisoned.elim (Nat.ne_of_lt cheap) (cfg ▸ other)
      rw [quiet u at_ rfl (work.trans (if_neg refused))]
      exact ⟨route, heard⟩
    all_goals rw [if_pos ⟨cheap, cfg ▸ other⟩] at work
    · obtain ⟨made, others, -⟩ := making at_ code id [] order absent
        (work.trans (AdvertWork.create_room (w := ⟨u, []⟩) (route ▸ room) kind))
      exact ⟨made, fun x other => (others x other).trans (route ▸ Iff.rfl)⟩
    · have chosen : u.evictee = some v := by
        rcases gives with ⟨isIdle, first⟩ | ⟨busy, isVenue, first⟩
        · exact State.evictee_oldest (oldestUnreachable_eq order (route.symm ▸ isIdle) (route.symm ▸ first))
        · rw [State.evictee_venue (oldestUnreachable_eq_none (route.symm ▸ busy))]
          exact State.costliestVenue_eq order (prog.symm ▸ route.symm ▸ isVenue) (prog.symm ▸ route.symm ▸ first)
      have hv : v ∈ u.route.entries := State.evictee_mem chosen
      obtain ⟨made, others, count⟩ := making at_ code (fun r => { r with
          entries := removeEntry v.dest r.entries
          evictedEntries := bump r.evictedEntries }) [v.dest] (order.sublist List.filter_sublist)
        (fun x hx => absent x (mem_removeEntry.mp hx).1)
        (work.trans (AdvertWork.create_evicts (w := ⟨u, []⟩) (route ▸ full) chosen kind))
      refine ⟨made, fun x other => (others x other).trans ?_, route ▸ count⟩
      rw [mem_removeEntry, ← route]
      exact and_congr_right fun hx => not_congr ⟨fun same => destOrdered.unique order hx hv same, fun eq => eq ▸ rfl⟩
    · have chosen : u.evictee = .none := by
        rw [State.evictee_venue (oldestUnreachable_eq_none (route.symm ▸ fun x => (none x).1))]
        refine leastBy_eq_none fun x hx => (none x).2 ?_
        have := State.mem_venues.mp hx
        rwa [route, prog] at this
      obtain ⟨only', same⟩ := counted _ (quiet _ at_ rfl (work.trans
        (AdvertWork.create_drops (w := ⟨u, []⟩) (route ▸ full) chosen kind)))
      exact ⟨same, only'⟩

end Sys2Proof.Machine

/-! ### The entries of an ADVERT frame in turn (R8) -/

namespace Sys2Proof.Machine

/-- Two states in which the route engine works alike. -/
structure SameEngine (s t : State) : Prop where
  clock : t.clock = s.clock
  start : t.start = s.start
  alarm : t.alarm = s.alarm
  prog : t.prog = s.prog
  route : t.route = s.route
  use : ∀ p, (t.ports.get p).inUse = (s.ports.get p).inUse

theorem SameEngine.refl (s : State) : SameEngine s s := ⟨rfl, rfl, rfl, rfl, rfl, fun _ => rfl⟩

theorem SameEngine.symm {s t : State} (h : SameEngine s t) : SameEngine t s :=
  ⟨h.clock.symm, h.start.symm, h.alarm.symm, h.prog.symm, h.route.symm, fun p => (h.use p).symm⟩

theorem SameEngine.trans {s t u : State} (h : SameEngine s t) (k : SameEngine t u) : SameEngine s u :=
  ⟨k.clock.trans h.clock, k.start.trans h.start, k.alarm.trans h.alarm, k.prog.trans h.prog, k.route.trans h.route,
    fun p => (k.use p).trans (h.use p)⟩

/-- A change outside what the route engine works with. -/
theorem OnlyChanges.sameEngine {a : List Block} {s t : State} (h : OnlyChanges a s t)
    (use : ∀ p, (t.ports.get p).inUse = (s.ports.get p).inUse)
    (off : Block.within a [.ports, .bus, .time, .muster, .cabin, .trig, .page, .panel, .ind, .status, .pins,
      .pending] = true := by rfl) : SameEngine s t := by
  have k := h.widen off
  exact ⟨k .clock (by decide), k .start (by decide), k .alarm (by decide), k .prog (by decide), k .route (by decide), use⟩

theorem State.requestToken_sameEngine (s : State) (p : Port) (kind : TokenKind) : SameEngine s (s.requestToken p kind) :=
  (s.requestToken_changes p kind).sameEngine fun q => ((s.requestToken_sameFaultSide p kind).ports q).1

section
variable {s t : State} (h : SameEngine s t)
include h

theorem SameEngine.cfg : t.cfg = s.cfg := by
  rw [State.cfg, State.cfg, h.start]

theorem SameEngine.portsInUse : t.portsInUse = s.portsInUse := by
  unfold State.portsInUse
  exact List.filter_congr fun p _ => h.use p

theorem SameEngine.reevaluated : t.reevaluated = s.reevaluated :=
  (SameRouting.of_alarm h.cfg h.alarm).reevaluated h.clock

theorem SameEngine.routeDo (f : RouteEngine → RouteEngine) : SameEngine (s.routeDo f) (t.routeDo f) :=
  ⟨h.clock, h.start, h.alarm, h.prog, congrArg f h.route, h.use⟩

theorem SameEngine.requestTriggered (p : Port) : SameEngine (s.requestTriggered p) (t.requestTriggered p) := by
  have asked := ((s.requestToken_sameEngine p .triggered).symm.trans h).trans (t.requestToken_sameEngine p .triggered)
  unfold State.requestTriggered
  rw [h.clock]
  exact asked.routeDo _

theorem SameEngine.markBecameSet (p : Port) : SameEngine (s.markBecameSet p) (t.markBecameSet p) := by
  unfold State.markBecameSet
  rw [h.start, h.route, h.clock, h.cfg]
  split
  · exact h
  · split
    · exact h.requestTriggered p
    · split
      · split
        · exact h
        · exact h.routeDo _
      · exact h.requestTriggered p

omit h in
theorem SameEngine.marksBecameSet (l : List Port) : ∀ {s t : State}, SameEngine s t →
    SameEngine (l.foldl State.markBecameSet s) (l.foldl State.markBecameSet t) := by
  induction l with
  | nil => exact id
  | cons p l ih => exact fun h => ih (h.markBecameSet p)

theorem SameEngine.storeEntry (before after : RouteEntry) :
    SameEngine (s.storeEntry before after) (t.storeEntry before after) := by
  unfold State.storeEntry
  rw [h.cfg, h.portsInUse]
  split
  · exact .marksBecameSet _ (h.routeDo _)
  · exact h.routeDo _

theorem SameEngine.countHoldDown (before after : RouteEntry) :
    SameEngine (s.countHoldDown before after) (t.countHoldDown before after) := by
  unfold State.countHoldDown
  split
  · exact h.routeDo _
  · exact h

theorem SameEngine.routeEntry : t.routeEntry = s.routeEntry := by
  funext d
  rw [State.routeEntry, State.routeEntry, h.route]

theorem SameEngine.reevaluate (dest : Nat) : SameEngine (s.reevaluate dest) (t.reevaluate dest) := by
  unfold State.reevaluate
  rw [h.routeEntry, h.reevaluated]
  split
  · exact h
  · exact (h.countHoldDown _ _).storeEntry _ _

theorem SameEngine.refreshEntry (slots : List Nat) (a : AdvertEntry) (e : RouteEntry) :
    SameEngine (s.refreshEntry slots a e) (t.refreshEntry slots a e) := by
  unfold State.refreshEntry
  rw [h.clock]
  exact (h.routeDo _).reevaluate _

theorem SameEngine.createEntry (slots : List Nat) (a : AdvertEntry) (kind : DestKind) :
    SameEngine (s.createEntry slots a kind) (t.createEntry slots a kind) := by
  unfold State.createEntry
  rw [h.clock]
  exact (h.routeDo _).reevaluate _

theorem SameEngine.evictee : t.evictee = s.evictee := by
  unfold State.evictee State.costliestVenue State.referenced
  rw [h.route, h.prog]

end

section
variable {v w : AdvertWork} (h : SameEngine v.state w.state)
include h

theorem SameEngine.create (slots : List Nat) (a : AdvertEntry) (kind : DestKind) :
    SameEngine (v.create slots a kind).state (w.create slots a kind).state := by
  unfold AdvertWork.create
  rw [h.route, h.evictee]
  split
  · exact h.createEntry _ _ _
  · split
    · exact h.routeDo fun r => { r with droppedDestinations := bump r.droppedDestinations }
    · exact (h.routeDo _).createEntry _ _ _

theorem SameEngine.take (slots : List Nat) (a : AdvertEntry) :
    SameEngine (v.take slots a).state (w.take slots a).state := by
  unfold AdvertWork.take
  rw [h.routeEntry, h.cfg]
  split
  · exact h.routeDo fun r => { r with skippedEntries := bump r.skippedEntries }
  · split
    · exact h.refreshEntry _ _ _
    · split
      · exact h
      · split
        · exact h.create _ _ _
        · exact h

omit h in
theorem SameEngine.takeAll (slots : List Nat) (entries : List AdvertEntry) : ∀ {v w : AdvertWork},
    SameEngine v.state w.state →
      SameEngine (entries.foldl (AdvertWork.take slots) v).state (entries.foldl (AdvertWork.take slots) w).state := by
  induction entries with
  | nil => exact id
  | cons a as ih => exact fun h => ih (h.take slots a)

end

theorem State.heard_sameEngine (s : State) (p : Port) : SameEngine s (s.heard p) :=
  (s.heard_changes p).sameEngine (s.heard_inUse p)

/-- The route engine after the frame of a neighbour: the work of its entries. -/
theorem State.takeAdvert_route {s : State} {p : Port} {sender n : Nat} (running : s.running = true)
    (entries : List AdvertEntry) (slot : n ∈ matchingSlots s.cfg p sender) :
    SameEngine (entries.foldl (AdvertWork.take (matchingSlots s.cfg p sender)) ⟨s, []⟩).state
      (s.takeAdvert p sender entries) := by
  rw [State.takeAdvert_neighbour running entries slot rfl]
  have notices := State.routeNotices_changes (entries.foldl (AdvertWork.take (matchingSlots s.cfg p sender)) ⟨s, []⟩).state
    s.route.entries (entries.foldl (AdvertWork.take (matchingSlots s.cfg p sender)) ⟨s, []⟩).removed
  have ports := notices .ports (by decide)
  exact notices.sameEngine fun q => by rw [ports]

/-- Settles O32: a frame's work goes on as the work of a frame of its other entries, from a state in which the route
engine works alike. -/
theorem advertEntriesInTurn : Obligations.AdvertEntriesInTurn := by
  unfold Obligations.AdvertEntriesInTurn
  intro p f first others a more s hears hearsFirst hearsOthers senderFirst senderOthers parsed parsedFirst parsedOthers
    neighbour
  have runs {t : State} {g : RxFrame} {entries : List AdvertEntry} (hears : t.hears p g)
      (parsed : parseAdvert g.payload = some entries) :
      exec (.advertFrame p g) t = .next ((t.heard p).takeAdvert p g.sender entries) :=
    congrArg Host.Outcome.next (State.receive_eq (handle := fun s => s.takeAdvert p g.sender entries) hears
      (by simp only [classHandler, parsed, Option.map_some]))
  let h := s.heard p
  let u := h.takeAdvert p first.sender [a]
  have running : h.running = true := (s.heard_running p).trans hears.2.1
  have only : OnlyChanges [.route, .ports, .muster, .trig, .page, .panel, .ind] s u :=
    (s.heard_changes p).andThen (h.takeAdvert_changes p first.sender [a])
  have cfg : u.cfg = s.cfg := only.cfg_eq (by decide)
  have again : u.hears p others := by
    obtain ⟨used, runs, short, stranger, range⟩ := hearsOthers
    refine ⟨?_, (only.running_eq (by decide)).trans runs, short, cfg.symm ▸ stranger, range⟩
    exact (((h.takeAdvert_sameFaultSide p first.sender [a]).ports p).1.trans (s.heard_inUse p p)).trans used
  refine ⟨h.takeAdvert p f.sender (a :: more), u, (u.heard p).takeAdvert p others.sender more,
    runs hears parsed, runs hearsFirst parsedFirst, runs again parsedOthers, ?_⟩
  obtain ⟨l, hl, node, port⟩ := neighbour
  obtain ⟨n, hn⟩ := List.mem_iff_getElem?.mp hl
  have small : n < 6 := by
    have := (List.getElem?_eq_some_iff.mp hn).1
    rw [List.length_take] at this
    omega
  rw [List.getElem?_take_of_lt small] at hn
  have slot : n ∈ matchingSlots h.cfg p f.sender := mem_matchingSlots.mpr ⟨small, l, s.heard_cfg p ▸ hn, node, port⟩
  have slots : matchingSlots (u.heard p).cfg p others.sender = matchingSlots h.cfg p f.sender := by
    rw [u.heard_cfg p, cfg, s.heard_cfg p, senderOthers]
  have alike : SameEngine ([a].foldl (AdvertWork.take (matchingSlots h.cfg p f.sender)) ⟨h, []⟩).state (u.heard p) := by
    refine SameEngine.trans ?_ (u.heard_sameEngine p)
    rw [← senderFirst] at slot ⊢
    exact State.takeAdvert_route running [a] slot
  have whole := State.takeAdvert_route running (a :: more) slot
  have rest := State.takeAdvert_route ((u.heard_running p).trans again.2.1) more (slots ▸ slot)
  rw [slots] at rest
  have both := SameEngine.takeAll (w := ⟨u.heard p, []⟩) (matchingSlots h.cfg p f.sender) more alike
  exact whole.route.trans (both.trans rest).route.symm

end Sys2Proof.Machine

/-! ### Input lines and the cabin bus (R80, R81, R86, R87, R92, R93) -/

namespace Sys2Proof.Machine

/-! #### Input lines -/

theorem set_of_getElem? {α : Type} {l : List α} {n : Nat} {x : α} (held : l[n]? = some x) : l.set n x = l := by
  obtain ⟨small, rfl⟩ := List.getElem?_eq_some_iff.mp held
  exact List.set_getElem_self small

theorem CabinUnit.line_of_getElem? {u : CabinUnit} {n : Nat} {l : LineRecord} (held : u.lines[n]? = some l) :
    u.line n = l := by
  simp [CabinUnit.line, held]

section
variable {s : State} {n : Nat} {l : LineRecord} (running : s.running = true) (held : s.cabin.lines[n]? = some l)
include running held

/-- A transition writes pin and line record. -/
theorem State.lineMoves_away {high : Bool} (away : s.pinLevel n ≠ high) :
    s.lineMoves n high = ({ s with pins := { s.pins with lines := s.pins.lines.set n high } } : State).cabinDo
      fun u => { u with
        lines := u.lines.set n (l.moved s.clock high).1
        rejectedBounces := if (l.moved s.clock high).2 = true then bump u.rejectedBounces else u.rejectedBounces } := by
  have line := CabinUnit.line_of_getElem? held
  unfold State.lineMoves
  rw [if_neg away]
  refine (if_pos running).trans ?_
  unfold State.cabinDo
  dsimp only
  rw [line]
  generalize l.moved s.clock high = r
  obtain ⟨x, bounced⟩ := r
  cases bounced <;> rfl

/-- A due debounce deadline at a line that left its stable level. -/
theorem State.debounceEnds_away {d : Nat} (deadline : l.deadline = some d) (late : d ≤ s.clock)
    (away : l.stable ≠ some (s.pinLevel n)) :
    s.debounceEnds n = if l.counts (s.pinLevel n) = true then (s.cabinDo fun u => { u with
        lines := u.lines.set n { l with stable := some (s.pinLevel n), deadline := none } }).countedEdge n l.function
      else s.cabinDo fun u => { u with
        lines := u.lines.set n { l with stable := some (s.pinLevel n), deadline := none } } := by
  have line := CabinUnit.line_of_getElem? held
  have ends : due l.deadline s.clock = true := by simp [due, deadline, late]
  unfold State.debounceEnds
  rw [line]
  dsimp only
  rw [if_pos ⟨running, ends⟩, if_neg away]
  rfl

end

theorem LineRecord.moved_eq (l : LineRecord) (now : Nat) (high : Bool) :
    (l.stable ≠ some high → l.deadline = none → l.moved now high = ({ l with deadline := some (now + l.debounce) }, false)) ∧
    (l.stable = some high → l.deadline ≠ none → l.moved now high = ({ l with deadline := none }, true)) ∧
    ((l.stable = some high ↔ l.deadline = none) → l.moved now high = (l, false)) := by
  cases deadline : l.deadline <;> by_cases stable : l.stable = some high <;>
    simp [LineRecord.moved, deadline, stable]

/-- Settles O41: a transition moves the line record by its stable level and deadline, the deadline the stable level. -/
theorem linesDebounced : Obligations.LinesDebounced := by
  unfold Obligations.LinesDebounced
  intro n s l running held high
  have away : s.pinLevel n.val ≠ !high := by
    show high ≠ !high
    cases high <;> decide
  obtain ⟨leaves, bounces, stays⟩ := l.moved_eq s.clock (!high)
  refine ⟨congrArg Host.Outcome.next (if_pos rfl), ⟨s.lineMoves n.val (!high), rfl, ?_⟩, fun d deadline late moved uncounted => ?_⟩
  · rw [State.lineMoves_away running held away]
    have still (same : l.moved s.clock (!high) = (l, false)) : ({ s.cabin with
        lines := s.cabin.lines.set n.val (l.moved s.clock (!high)).1
        rejectedBounces := if (l.moved s.clock (!high)).2 = true then bump s.cabin.rejectedBounces
          else s.cabin.rejectedBounces } : CabinUnit) = s.cabin := by
      rw [same]
      dsimp only
      rw [set_of_getElem? held, if_neg Bool.false_ne_true]
    refine ⟨rfl, fun off none => ?_, fun back pending => ?_, fun off pending => ?_, fun back none => ?_, fun b off => ?_⟩
    · rw [leaves off none]
      rfl
    · rw [bounces back pending]
      rfl
    · exact still (stays (iff_of_false off pending))
    · exact still (stays (iff_of_true back none))
    · cases b with
      | pins => exact absurd (by decide) off
      | cabin => exact absurd (by decide) off
      | _ => rfl
  · refine ⟨s.debounceEnds n.val, rfl, ?_⟩
    have quiet : l.counts (s.pinLevel n.val) = false := by
      have level : s.pinLevel n.val = high := rfl
      rw [level]
      unfold LineRecord.counts openLevel
      cases function : l.function <;> cases edge : l.edge <;> simp [function, edge] at uncounted ⊢ <;>
        simp [uncounted]
    rw [State.debounceEnds_away running held deadline late moved, if_neg (by rw [quiet]; exact Bool.false_ne_true)]
    exact ⟨rfl, s.cabinDo_changes _⟩

/-! #### Reports of a CABIN node (R85, R90) -/

theorem State.request_ports_congr {s t : State} (start : t.start = s.start) (ports : t.ports = s.ports) (p : Port)
    (cls : FrameClass) (key : QueueKey) (content : QueueContent) :
    (t.request p cls key content).ports = (s.request p cls key content).ports := by
  rw [State.request_ports, State.request_ports, start, ports]

theorem State.ownFrame_congr {s t : State} (start : t.start = s.start) (cls : FrameClass) (payload : List Byte) :
    t.ownFrame cls payload = s.ownFrame cls payload := by
  unfold State.ownFrame State.cfg
  rw [start]

section
variable {s t : State} (start : t.start = s.start) (ports : t.ports = s.ports)
include start ports

/-- The report of a service change, against a state of the same start block and ports. -/
theorem State.serviceChange_ports (service : ServiceState) (request : Nat) :
    (t.serviceChange service request).ports = (s.request .a .service (.cabin s.cfg.cabinNumber)
      (.fixed (s.ownFrame .service (servicePayload s.cfg.cabinNumber service request)))).ports := by
  let u := t.cabinDo fun u => { u with service := service, request := request }
  have cfg : u.cfg = s.cfg := congrArg (fun b : StartBlock => b.config.getD ConfigCopy.unset) start
  show (u.queueService.pageNotice .service).ports = _
  rw [State.pageNotice_changes _ _ .ports (by decide)]
  show (u.request .a .service (.cabin u.cfg.cabinNumber) (.fixed (u.ownFrame .service
    (servicePayload u.cfg.cabinNumber service request)))).ports = _
  rw [cfg, State.ownFrame_congr (s := s) (t := u) start, State.request_ports_congr (s := s) (t := u) start ports]

/-- The report of a sweep change, against a state of the same start block and ports. -/
theorem State.sweepChange_ports (sweep : SweepState) :
    (t.sweepChange sweep).ports = (s.request .a .sweep (.cabin s.cfg.cabinNumber)
      (.fixed (s.ownFrame .sweep (sweepPayload s.cfg.cabinNumber sweep t.sweepMinuteNow)))).ports := by
  let u := t.cabinDo fun u => { u with sweep := sweep, sweepMinute := t.sweepMinuteNow }
  have cfg : u.cfg = s.cfg := congrArg (fun b : StartBlock => b.config.getD ConfigCopy.unset) start
  show (u.queueSweep.pageNotice .sweep).ports = _
  rw [State.pageNotice_changes _ _ .ports (by decide)]
  show (u.request .a .sweep (.cabin u.cfg.cabinNumber) (.fixed (u.ownFrame .sweep
    (sweepPayload u.cfg.cabinNumber sweep t.sweepMinuteNow)))).ports = _
  rw [cfg, State.ownFrame_congr (s := s) (t := u) start, State.request_ports_congr (s := s) (t := u) start ports]

end

/-! #### The cabin bus -/

theorem State.takeTally_shown (s : State) {before after : List TallyEntry}
    (moved : uncheckedCount before ≠ uncheckedCount after ∨ assistCount before ≠ assistCount after) :
    (s.takeTally before after).shown := by
  unfold State.takeTally
  rw [if_neg (Classical.not_and_iff_not_or_not.mpr moved)]
  exact State.finishPage_shown _ _ _

theorem State.takeTally_still (s : State) {before after : List TallyEntry}
    (unchecked : uncheckedCount before = uncheckedCount after) (assist : assistCount before = assistCount after) :
    OnlyChanges [.cabin] s (s.takeTally before after) := by
  unfold State.takeTally
  rw [if_pos ⟨unchecked, assist⟩]
  exact s.cabinDo_changes _

theorem State.takeSweep_held {s : State} (running : s.running = true) {l : List TallyEntry}
    (tally : s.cabin.tally = some l) {w : SweepPayload} (named : ∃ x ∈ l, x.cabin = w.cabin) :
    s.takeSweep w = s.takeTally l (l.map fun x => if x.cabin = w.cabin then { x with sweep := w.sweep } else x) := by
  have any : l.any (fun x => decide (x.cabin = w.cabin)) = true := by simpa using named
  unfold State.takeSweep
  rw [if_pos running, tally]
  exact if_pos any

theorem State.takeSweep_absent {s : State} {w : SweepPayload}
    (absent : ∀ l, s.cabin.tally = some l → ∀ x ∈ l, x.cabin ≠ w.cabin) : s.takeSweep w = s := by
  unfold State.takeSweep
  split
  · split
    · rfl
    · next l tally =>
      have none : ¬l.any (fun x => decide (x.cabin = w.cabin)) = true := by simpa using absent l tally
      exact if_neg none
  · rfl

/-- The record a CABIN frame brings (R86). -/
def CabinPayload.info (c : CabinPayload) : CabinInfo :=
  ⟨c.version, c.greeting, c.occupancy, c.embarkDay, c.disembarkDay⟩

theorem State.takeCabinInfo_cabin (s : State) (c : CabinPayload) :
    (s.takeCabinInfo c).cabin = { s.cabin with info := (s.takeCabinInfo c).cabin.info } ∧
    ((s.cabin.info = none ∨ ∃ h, s.cabin.info = some h ∧ newer 8 c.version h.version = true) →
      (s.takeCabinInfo c).cabin.info = some c.info) ∧
    (∀ h, s.cabin.info = some h → newer 8 c.version h.version = false → s.takeCabinInfo c = s) := by
  have taken : ((s.cabinDo fun u => { u with info := some c.info }).pageNotice .cabinInfo).cabin =
      { s.cabin with info := some c.info } := State.pageNotice_changes _ _ .cabin (by decide)
  unfold State.takeCabinInfo
  cases info : s.cabin.info with
  | none =>
    refine ⟨?_, fun _ => ?_, fun h held => nomatch held⟩
    · exact taken.trans (congrArg (fun i => { s.cabin with info := i }) (congrArg CabinUnit.info taken).symm)
    · exact congrArg CabinUnit.info taken
  | some h =>
    dsimp only
    cases fresh : newer 8 c.version h.version with
    | true =>
      refine ⟨?_, fun _ => congrArg CabinUnit.info taken, fun k held old => ?_⟩
      · exact taken.trans (congrArg (fun i => { s.cabin with info := i }) (congrArg CabinUnit.info taken).symm)
      · rw [Option.some.inj held] at fresh
        rw [fresh] at old
        cases old
    | false =>
      refine ⟨rfl, fun new => ?_, fun _ _ _ => rfl⟩
      rcases new with none | ⟨k, held, new⟩
      · cases none
      · rw [Option.some.inj held, new] at fresh
        cases fresh

theorem State.takeCabin_other {s : State} {c : CabinPayload}
    (other : s.cfg.role ≠ .cabin ∨ c.cabin ≠ s.cfg.cabinNumber) : s.takeCabin c = s := by
  refine if_neg ?_
  rintro ⟨-, role, cabin⟩
  exact other.elim (· role) (· cabin)

theorem State.takeCabin_own {s : State} (running : s.running = true) {c : CabinPayload} (role : s.cfg.role = .cabin)
    (cabin : c.cabin = s.cfg.cabinNumber) :
    (c.serviceDone = none → s.takeCabin c = s.takeCabinInfo c) ∧
    ∀ d, c.serviceDone = some d → s.takeCabin c = (s.takeCabinInfo c).serviceDone d := by
  unfold State.takeCabin
  rw [if_pos ⟨running, role, cabin⟩]
  exact ⟨fun none => by rw [none], fun d done => by rw [done]⟩

/-- Settles O43: the two handlers of the cabin unit, at the node that has heard the frame. -/
theorem cabinBusFramesTaken : Obligations.CabinBusFramesTaken := by
  unfold Obligations.CabinBusFramesTaken
  intro p f s hears
  let u := s.heard p
  have heard : OnlyChanges [.ports, .ind] s u := s.heard_changes p
  have running : u.running = true := (s.heard_running p).trans hears.2.1
  have cabin : u.cabin = s.cabin := heard .cabin (by decide)
  have cfg : u.cfg = s.cfg := s.heard_cfg p
  refine ⟨fun w parsed => ?_, fun c parsed => ?_⟩
  · have taken : exec (.sweepFrame p f) s = .next (u.takeSweep w) := congrArg Host.Outcome.next
      (State.receive_eq (handle := fun s => s.takeSweep w) hears (by simp only [classHandler, parsed, Option.map_some]))
    have quiet (absent : ∀ l, s.cabin.tally = some l → ∀ x ∈ l, x.cabin ≠ w.cabin) :
        OnlyChanges [.ports, .ind] s (u.takeSweep w) := by
      rw [State.takeSweep_absent (s := u) (cabin ▸ absent)]
      exact heard
    refine ⟨u.takeSweep w, taken,
      fun none => quiet fun l tally => absurd (none.symm.trans tally) nofun, fun l tally => ⟨fun absent => ?_, fun named => ?_⟩,
      heard.andThen (u.takeSweep_changes w)⟩
    · exact quiet fun k held => Option.some.inj (tally.symm.trans held) ▸ absent
    · intro after
      rw [State.takeSweep_held running (cabin ▸ tally) named]
      refine ⟨(State.takeTally_cabin u l after).trans (by rw [cabin]), fun moved => u.takeTally_shown moved,
        fun unchecked assist => heard.andThen (u.takeTally_still unchecked assist)⟩
  · have taken : exec (.cabinFrame p f) s = .next (u.takeCabin c) := congrArg Host.Outcome.next
      (State.receive_eq (handle := fun s => s.takeCabin c) hears (by simp only [classHandler, parsed, Option.map_some]))
    obtain ⟨informed, fresh, stale⟩ := u.takeCabinInfo_cabin c
    let v := u.takeCabinInfo c
    have info : OnlyChanges [.cabin, .page, .panel] u v := u.takeCabinInfo_changes c
    refine ⟨u.takeCabin c, taken, fun other => ?_,
      fun role number => ?_, heard.andThen (u.takeCabin_changes c)⟩
    · rw [State.takeCabin_other (s := u) (cfg ▸ other)]
      exact heard
    · obtain ⟨without, serviced⟩ := State.takeCabin_own running (cfg.symm ▸ role) (cfg.symm ▸ number)
      have kept : (u.takeCabin c).cabin.info = v.cabin.info := by
        cases done : c.serviceDone with
        | none => rw [without done]
        | some d =>
          rw [serviced d done]
          unfold State.serviceDone
          split
          · rw [State.serviceChange_cabin]
          · rfl
      rw [kept]
      refine ⟨fun new => fresh (cabin.symm ▸ new), fun h held old => ?_, fun none => ?_, fun d done due => ?_,
        fun d done undue => ?_⟩
      · exact (congrArg (fun t : State => t.cabin.info) (stale h (cabin.symm ▸ held) old)).trans (by rw [cabin])
      · rw [without none, ← cabin]
        exact informed
      · have due : v.cabin.service = .makeup ∧ d = v.cabin.request := by
          rw [informed, cabin]
          exact due
        have done : u.takeCabin c = v.serviceChange .none v.cabin.request := (serviced d done).trans (if_pos due)
        refine ⟨?_, done ▸ State.finishPage_shown _ _ _, ?_⟩
        · rw [done, State.serviceChange_cabin, ← cabin, informed]
        · have request : v.cabin.request = s.cabin.request := by rw [informed, cabin]
          rw [done, State.serviceChange_ports (s := u) (info .start (by decide)) (info .ports (by decide)), request, cfg,
            State.ownFrame_congr (s.heard_start p)]
          rfl
      · have undue : ¬(v.cabin.service = .makeup ∧ d = v.cabin.request) := by
          rw [informed, cabin]
          exact undue
        have done : u.takeCabin c = v.cabinDo fun u => { u with staleServiceDone := bump u.staleServiceDone } :=
          (serviced d done).trans (if_neg undue)
        rw [done, ← cabin]
        exact congrArg (fun b : CabinUnit => { b with staleServiceDone := bump b.staleServiceDone }) informed

end Sys2Proof.Machine

/-! ### Counted edges (R82 to R90, R110, R126) -/

namespace Sys2Proof.Machine

/-! #### The presence deadline through a change of quiet (R126) -/

theorem State.finishPage_presence (s : State) (set : Bool) (cause : PageCause) :
    (s.finishPage set cause).page.presence = s.page.presence := by
  obtain ⟨h, n, page⟩ := s.finishPage_page set cause
  rw [page, PageSelector.select_keeps]

theorem State.quietChanged_presence (s : State) (before : Bool) :
    (s.quietChanged before).page.presence = s.page.presence := by
  unfold State.quietChanged
  dsimp only
  split
  · rfl
  · split
    · rfl
    · show (if s.page.selected.isRotation = true then { s.page with dwell := some s.dwellFrom } else s.page).presence = _
      split <;> rfl

theorem State.pagePresence_presence (s : State) : s.pagePresence.page.presence =
    if s.page.quiet = true then some (s.clock + s.cfg.presenceDwell * 1000) else s.page.presence := by
  refine (State.finishPage_presence _ _ _).trans ((State.quietChanged_presence _ _).trans ?_)
  show (if s.page.quiet = true then _ else s.page : PageSelector).presence = _
  split <;> rfl

/-! #### Changes of service and sweep state -/

section
variable {v : State}

theorem State.serviceButton_refused (emergency : v.alarm.level.emergency = true) (b : ServiceButton) :
    v.serviceButton b = v.cabinDo fun u => { u with ignoredButtonEdges := bump u.ignoredButtonEdges } :=
  if_pos emergency

theorem State.serviceButton_taken (calm : v.alarm.level.emergency = false) (b : ServiceButton) :
    v.serviceButton b = v.serviceChange (serviceAfter v.cabin.service b)
      (requestAfter v.cabin.request (serviceAfter v.cabin.service b)) :=
  if_neg (by rw [calm]; exact Bool.false_ne_true)

theorem State.sweepEdge_taken {x : SweepEdge} {after : SweepState} (moves : sweepAfter v.cabin.sweep x = some after) :
    v.sweepEdge x = v.sweepChange after := by
  rw [State.sweepEdge, moves]

theorem State.sweepEdge_still {x : SweepEdge} (still : sweepAfter v.cabin.sweep x = none) : v.sweepEdge x = v := by
  rw [State.sweepEdge, still]

theorem State.sweepMinuteNow_eq (s : State) :
    s.sweepMinuteNow = if s.time.state = .unset then none else some s.programmeMinute := by
  unfold State.sweepMinuteNow
  cases s.time.state <;> rfl

theorem sweepMinuteOctets_eq (minute : Option Nat) : sweepMinuteOctets minute = octets3 (minute.getD 16777215) := by
  cases minute <;> rfl

/-- A line of function PRESENCE or TRIGGER_ONLY is matched by its number. -/
theorem State.matchesFactor_input {n : Nat} {x : LineRecord} (line : v.cabin.lines[n]? = some x)
    (available : x.function.available = true) {c : TriggerCfg} (factor : c.factor = .input) (arg : c.factorArg = n) :
    v.matchesFactor c ⟨.input, n⟩ = true := by
  simp [State.matchesFactor, State.lineAvailable, factor, arg, line, available]

theorem State.inputOccurs_quiet {n : Nat}
    (quiet : ∀ x ∈ v.trig.sets, x.state = .enabled → x.cfg.factor = .input → x.cfg.factorArg ≠ n) :
    v.inputOccurs n = v := by
  refine v.cascade_quiet _ fun y held enabled => ?_
  by_cases factor : y.cfg.factor = .input
  · have other : n ≠ y.cfg.factorArg := Ne.symm (quiet y held enabled factor)
    simp [State.matchesFactor, factor, other]
  · exact State.matchesFactor_other _ factor

theorem State.countedEdge_lines (v : State) (n : Nat) (f : LineFunction) :
    (v.countedEdge n f).cabin.lines = v.cabin.lines := by
  have swept (x : SweepEdge) : (v.sweepEdge x).cabin.lines = v.cabin.lines := by
    unfold State.sweepEdge
    split
    · rw [State.sweepChange_cabin]
    · rfl
  have served (b : ServiceButton) : (v.serviceButton b).cabin.lines = v.cabin.lines := by
    cases level : v.alarm.level.emergency with
    | true => rw [State.serviceButton_refused level, State.cabinDo_cabin]
    | false => rw [State.serviceButton_taken level, State.serviceChange_cabin]
  have occurs : (v.inputOccurs n).cabin = v.cabin := v.inputOccurs_changes n .cabin (by decide)
  have present : (v.inputOccurs n).pagePresence.cabin = v.cabin :=
    ((v.inputOccurs n).pagePresence_changes .cabin (by decide)).trans occurs
  unfold State.countedEdge
  cases f with
  | none => rfl
  | presence => exact congrArg CabinUnit.lines present
  | triggerOnly => exact congrArg CabinUnit.lines occurs
  | privacyButton => exact (apply_ite (fun t : State => t.cabin.lines) _ _ _).trans (by rw [served, ite_self])
  | makeupButton => exact (apply_ite (fun t : State => t.cabin.lines) _ _ _).trans (by rw [served, ite_self])
  | entryContact => exact (apply_ite (fun t : State => t.cabin.lines) _ _ _).trans (by rw [swept, ite_self])
  | crewClear => exact (apply_ite (fun t : State => t.cabin.lines) _ _ _).trans (by rw [swept, ite_self])
  | crewAssist => exact (apply_ite (fun t : State => t.cabin.lines) _ _ _).trans (by rw [swept, ite_self])

/-- At a node that is no CABIN node the service and sweep lines do nothing. -/
theorem State.countedEdge_elsewhere {v : State} (role : v.cfg.role ≠ .cabin) (n : Nat) {f : LineFunction}
    (presence : f ≠ .presence) (trigger : f ≠ .triggerOnly) : v.countedEdge n f = v := by
  cases f with
  | none => rfl
  | presence => exact absurd rfl presence
  | triggerOnly => exact absurd rfl trigger
  | _ => exact if_neg role

end

/-- Settles O42: the debounce deadline of a counted edge is the edge handed on, by the function of its line. -/
theorem countedEdgesTaken : Obligations.CountedEdgesTaken := by
  unfold Obligations.CountedEdgesTaken
  intro n s l d running held deadline late away counts lines afterPrivacy afterMakeup raised serves sweeps
  let record : LineRecord := { l with stable := some (s.pinLevel n.val), deadline := none }
  let v := s.cabinDo fun u => { u with lines := u.lines.set n.val record }
  let t := v.countedEdge n.val l.function
  have is : s.debounceEnds n.val = t :=
    (State.debounceEnds_away running held deadline late away).trans (if_pos counts)
  have base : OnlyChanges [.cabin] s v := s.cabinDo_changes _
  have line : v.cabin.lines[n.val]? = some record := by
    have small : n.val < s.cabin.lines.length := (List.getElem?_eq_some_iff.mp held).1
    show (s.cabin.lines.set n.val record)[n.val]? = some record
    rw [List.getElem?_set_self small]
  have edge {f : LineFunction} (function : l.function = f) : t = v.countedEdge n.val f := by rw [← function]
  have serving {b : ServiceButton} (is : t = v.serviceButton b) (calm : s.alarm.level = .normal ∨ s.alarm.level = .alert) :
      serves t (serviceAfter s.cabin.service b) := by
    have level : v.alarm.level.emergency = false := by
      show s.alarm.level.emergency = false
      rcases calm with h | h <;> rw [h] <;> rfl
    rw [is, State.serviceButton_taken level]
    exact ⟨State.serviceChange_cabin _ _ _, congrArg (PerPort.get · .a) (State.serviceChange_ports (s := s) (t := v) rfl rfl _ _),
      State.finishPage_shown _ _ _⟩
  have sweeping {x : SweepEdge} {after : SweepState} (is : t = v.sweepEdge x)
      (moves : sweepAfter s.cabin.sweep x = some after) : sweeps t after := by
    have minute : v.sweepMinuteNow = if s.time.state = .unset then none else some s.programmeMinute := s.sweepMinuteNow_eq
    have ports := State.sweepChange_ports (s := s) (t := v) rfl rfl after
    rw [sweepPayload, sweepMinuteOctets_eq, minute] at ports
    have change : v.sweepEdge x = v.sweepChange after := State.sweepEdge_taken moves
    rw [is, change]
    exact ⟨(State.sweepChange_cabin _ _).trans (by rw [minute]; rfl), congrArg (PerPort.get · .a) ports, State.finishPage_shown _ _ _⟩
  have staying {x : SweepEdge} (is : t = v.sweepEdge x) (still : sweepAfter s.cabin.sweep x = none) :
      OnlyChanges [.cabin] s t := by
    have stands : v.sweepEdge x = v := State.sweepEdge_still still
    rw [is, stands]
    exact base
  refine ⟨t, congrArg Host.Outcome.next is, ?_, fun function => ?_, fun role presence trigger => ?_,
    fun role button => ⟨fun alarm => ?_, fun calm => ⟨fun function => ?_, fun function => ?_⟩⟩,
    fun role function => ⟨fun from_ => ?_, fun from_ => ?_⟩, fun role function => ⟨fun from_ => ?_, fun from_ => ?_⟩,
    fun role function => ⟨fun from_ => ?_, fun from_ => ?_⟩, fun function quiet => ?_, fun function quiet => ?_,
    fun function m y sole factor arg => ?_, fun function => ?_, is ▸ s.debounceEnds_changes n.val⟩
  · exact v.countedEdge_lines n.val l.function
  · rw [edge function]
    exact ⟨rfl, base⟩
  · have still : t = v := State.countedEdge_elsewhere (v := v) role n.val presence trigger
    rw [still]
    exact ⟨rfl, base⟩
  · have level : v.alarm.level.emergency = true := by
      show s.alarm.level.emergency = true
      rcases alarm with h | h <;> rw [h] <;> rfl
    have refused (b : ServiceButton) (is : t = v.serviceButton b) : t.cabin = { s.cabin with
        lines := lines, ignoredButtonEdges := bump s.cabin.ignoredButtonEdges } ∧ OnlyChanges [.cabin] s t := by
      rw [is, State.serviceButton_refused level]
      exact ⟨rfl, base.trans (v.cabinDo_changes _)⟩
    exact button.elim (fun f => refused .privacy ((edge f).trans (if_pos role)))
      fun f => refused .makeup ((edge f).trans (if_pos role))
  · have after : afterPrivacy = serviceAfter s.cabin.service .privacy := by
      show (match s.cabin.service with | .none => _ | .privacy => _ | .makeup => _ : ServiceState) = _
      cases s.cabin.service <;> rfl
    exact after ▸ serving ((edge function).trans (if_pos role)) calm
  · have after : afterMakeup = serviceAfter s.cabin.service .makeup := by
      show (match s.cabin.service with | .none => _ | .privacy => _ | .makeup => _ : ServiceState) = _
      cases s.cabin.service <;> rfl
    exact after ▸ serving ((edge function).trans (if_pos role)) calm
  · refine sweeping ((edge function).trans (if_pos role)) ?_
    rcases from_ with h | h | h <;> rw [h] <;> rfl
  · refine staying ((edge function).trans (if_pos role)) ?_
    rcases from_ with h | h <;> rw [h] <;> rfl
  · refine sweeping ((edge function).trans (if_pos role)) ?_
    rcases from_ with h | h | h <;> rw [h] <;> rfl
  · refine staying ((edge function).trans (if_pos role)) ?_
    rcases from_ with h | h <;> rw [h] <;> rfl
  · refine sweeping ((edge function).trans (if_pos role)) ?_
    rw [from_]
    rfl
  · refine staying ((edge function).trans (if_pos role)) ?_
    cases at_ : s.cabin.sweep with
    | cleared => exact absurd at_ from_
    | _ => rfl
  · have present : t = v.pagePresence := (edge function).trans (congrArg State.pagePresence (State.inputOccurs_quiet quiet))
    have at_ := v.pagePresence_presence
    rw [present]
    refine ⟨v.pagePresence_changes .trig (by decide), fun on => ⟨at_.trans (if_pos on), State.changeQuiet_shown _ _⟩,
      fun off => at_.trans (if_neg ?_)⟩
    show ¬s.page.quiet = true
    rw [off]
    exact Bool.false_ne_true
  · have occurs : t = v := (edge function).trans (State.inputOccurs_quiet quiet)
    rw [occurs]
    exact base
  · intro activated
    have available : record.function.available = true := by
      show l.function.available = true
      rcases function with f | f <;> rw [f] <;> rfl
    have waits : v.matchesFactor y.cfg ⟨.input, n.val⟩ = true := State.matchesFactor_input line available factor arg
    have trig : t.trig = (v.cascade ⟨.input, n.val⟩).trig := by
      rcases function with f | f
      · rw [edge f]
        exact State.pagePresence_changes _ .trig (by decide)
      · rw [edge f]
        rfl
    rw [trig]
    exact ⟨fun action => (State.cascade_none (s := v) sole waits action).1, fun action => (State.cascade_capture (s := v) sole waits action).1⟩
  · have only : OnlyChanges [.trig, .page, .panel] v t := by
      rcases function with f | f
      · rw [edge f]
        exact (v.inputOccurs_changes n.val).trans (State.pagePresence_changes _).widen
      · rw [edge f]
        exact v.inputOccurs_changes n.val
    exact ⟨only .cabin (by decide), base.andThen only⟩

end Sys2Proof.Machine

/-! ### Ship time: what each operation leaves in the unit (R98 to R105) -/

namespace Sys2Proof.Machine

theorem State.shipMs_congr {s t : State} (clock : t.clock = s.clock) (offset : t.time.offset = s.time.offset) :
    t.shipMs = s.shipMs := by
  unfold State.shipMs
  rw [clock, offset]

theorem State.programmeMinute_congr {s t : State} (clock : t.clock = s.clock)
    (offset : t.time.offset = s.time.offset) : t.programmeMinute = s.programmeMinute := by
  unfold State.programmeMinute
  rw [State.shipMs_congr clock offset]

/-! #### Announcements -/

theorem State.announceMinute_time (s : State) (minute : Nat) :
    (s.announceMinute minute).time = { s.time with notifiedMinute := minute } := by
  unfold State.announceMinute
  dsimp only
  split
  · rw [State.pageNotice_changes _ _ .time (by decide)]
    split
    · rw [State.cascade_changes _ _ .time (by decide), State.progTakesMinute_changes _ _ .time (by decide)]
      rfl
    · rw [State.progTakesMinute_changes _ _ .time (by decide)]
      rfl
  · rfl

theorem State.reachMinute_time (s : State) :
    s.reachMinute.time = { s.time with notifiedMinute := max s.time.notifiedMinute s.programmeMinute } := by
  unfold State.reachMinute
  split
  · next behind => rw [State.announceMinute_time, Nat.max_eq_right (Nat.le_of_lt behind)]
  · next ahead => rw [Nat.max_eq_left (Nat.le_of_not_lt ahead)]

theorem State.announceStep_time (s : State) (kind : StepKind) : (s.announceStep kind).time =
    { s.time with notifiedMinute := notifiedAfter kind s.time.notifiedMinute s.programmeMinute } := by
  unfold State.announceStep
  dsimp only
  split
  · rw [State.pageNotice_changes _ _ .time (by decide), State.cascades_changes _ _ .time (by decide),
      State.progTakesStep_changes _ _ _ _ .time (by decide)]
    rfl
  · rfl

theorem State.announceStep_shown {s : State} (running : s.running = true) (kind : StepKind) :
    (s.announceStep kind).shown := by
  unfold State.announceStep
  dsimp only
  split
  · exact State.finishPage_shown _ _ _
  · next off => exact absurd running off

theorem State.timeNotice_time (s : State) : s.timeNotice.time = s.time := s.timeNotice_changes .time (by decide)

theorem State.timeNotice_shown {s : State} (running : s.running = true) : s.timeNotice.shown := by
  unfold State.timeNotice
  rw [if_pos running]
  exact State.finishPage_shown _ _ _

/-! #### Discipline -/

section
variable {s : State} {r : Int}

theorem State.discipline_first (unset : s.time.state = .unset) :
    s.discipline r = (s.timeDo fun u => u.step r).announceStep .first := if_pos unset

theorem State.slewBeacon_time (s : State) (r : Int) : (s.slewBeacon r).time = (s.time.slew s.clock r).resync := by
  unfold State.slewBeacon
  dsimp only
  split
  · rfl
  · exact State.timeNotice_time _

theorem State.discipline_slews (known : s.time.state ≠ .unset) (near : r.natAbs ≤ s.cfg.slewWindow) :
    (s.discipline r).time = (s.time.slew s.clock r).resync := by
  unfold State.discipline
  rw [if_neg known, if_pos near]
  exact s.slewBeacon_time r

theorem TimeUnit.resync_eq {u : TimeUnit} (known : u.state ≠ .unset) :
    ∃ d, u.resync = { u with state := .synced, staleDeadline := d } := by
  unfold TimeUnit.resync
  split
  · next unset => exact absurd unset known
  · next synced => exact ⟨u.staleDeadline, by rw [← synced]⟩
  · exact ⟨none, rfl⟩
  · exact ⟨none, rfl⟩

theorem State.discipline_steps (known : s.time.state ≠ .unset) (wide : ¬r.natAbs ≤ s.cfg.slewWindow) {q : Int}
    (confirm : s.time.confirm = some q) (near : (r - q).natAbs ≤ s.cfg.slewWindow) : s.discipline r =
      (s.timeDo fun u => { u.step r with stepsTaken := bump u.stepsTaken }).announceStep (stepKindOf r) := by
  unfold State.discipline State.stepBeacon
  rw [if_neg known, if_neg wide, confirm]
  exact if_pos near

theorem State.discipline_waits (known : s.time.state ≠ .unset) (wide : ¬r.natAbs ≤ s.cfg.slewWindow)
    (far : ∀ q, s.time.confirm = some q → ¬(r - q).natAbs ≤ s.cfg.slewWindow) : s.discipline r = s.timeDo fun u =>
      { u with confirm := some r, unconfirmedSteps := bump u.unconfirmedSteps } := by
  unfold State.discipline State.stepBeacon
  rw [if_neg known, if_neg wide]
  cases confirm : s.time.confirm with
  | none => rfl
  | some q => exact if_neg (far q confirm)

/-- The discipline leaves table and selection alone. -/
theorem State.discipline_table (s : State) (r : Int) : (s.discipline r).time.sources = s.time.sources ∧
    (s.discipline r).time.selected = s.time.selected ∧
    (s.discipline r).time.refusedSources = s.time.refusedSources := by
  by_cases unset : s.time.state = .unset
  · rw [State.discipline_first unset, State.announceStep_time]
    exact ⟨rfl, rfl, rfl⟩
  · by_cases near : r.natAbs ≤ s.cfg.slewWindow
    · rw [State.discipline_slews unset near]
      obtain ⟨d, eq⟩ := TimeUnit.resync_eq (u := s.time.slew s.clock r) unset
      rw [eq]
      exact ⟨rfl, rfl, rfl⟩
    · by_cases confirmed : ∃ q, s.time.confirm = some q ∧ (r - q).natAbs ≤ s.cfg.slewWindow
      · obtain ⟨q, confirm, close⟩ := confirmed
        rw [State.discipline_steps unset near confirm close, State.announceStep_time]
        exact ⟨rfl, rfl, rfl⟩
      · rw [State.discipline_waits unset near fun q confirm close => confirmed ⟨q, confirm, close⟩]
        exact ⟨rfl, rfl, rfl⟩

end

/-! #### The source table -/

section
variable {u : TimeUnit} {x : TimeSource}

theorem mem_addSource {y : TimeSource} {l : List TimeSource} : y ∈ addSource x l ↔ y = x ∨ y ∈ l :=
  mem_insertBy x y l

/-- What an offer may change, and the record a new selection empties (R98, R99). -/
theorem TimeUnit.offer_rest (u : TimeUnit) (x : TimeSource) : u.offer x = { u with
      sources := (u.offer x).sources
      selected := (u.offer x).selected
      ownStratum := (u.offer x).ownStratum
      confirm := if u.selected = (u.offer x).selected then u.confirm else none
      refusedSources := (u.offer x).refusedSources } := by
  unfold TimeUnit.offer
  split
  · rfl
  · split
    · rfl
    · split
      · split
        · rfl
        · simp
      · simp

theorem TimeUnit.offer_held (held : ∃ y ∈ u.sources, y.sender = x.sender) (y : TimeSource) :
    y ∈ (u.offer x).sources ↔ y = x ∨ (y ∈ u.sources ∧ y.sender ≠ x.sender) := by
  have any : u.sources.any (fun y => decide (y.sender = x.sender)) = true := by simpa using held
  unfold TimeUnit.offer
  rw [if_pos any]
  exact mem_addSource.trans (or_congr_right mem_removeSource)

theorem TimeUnit.offer_room (absent : ∀ y ∈ u.sources, y.sender ≠ x.sender) (room : u.sources.length < sourceCap)
    (y : TimeSource) : y ∈ (u.offer x).sources ↔ y = x ∨ (y ∈ u.sources ∧ y.sender ≠ x.sender) := by
  have none : ¬u.sources.any (fun y => decide (y.sender = x.sender)) = true := by simpa using absent
  unfold TimeUnit.offer
  rw [if_neg none, if_pos room]
  exact mem_addSource.trans (or_congr_right ⟨fun hy => ⟨hy, absent y hy⟩, And.left⟩)

theorem TimeUnit.offer_refused (absent : ∀ y ∈ u.sources, y.sender ≠ x.sender) (full : u.sources.length = 4)
    (worse : ∀ y ∈ u.sources, y.stratum ≤ x.stratum) :
    u.offer x = { u with refusedSources := bump u.refusedSources } := by
  have none : ¬u.sources.any (fun y => decide (y.sender = x.sender)) = true := by simpa using absent
  unfold TimeUnit.offer
  rw [if_neg none, if_neg (by rw [full]; decide)]
  split
  · next y given => exact if_neg (Nat.not_lt.mpr (worse y (leastBy_mem given)))
  · rfl

/-- The order of R98 in full. -/
theorem TimeSource.givenUpBefore_iff (x y : TimeSource) : x.givenUpBefore y = true ↔ y.stratum < x.stratum ∨
    (x.stratum = y.stratum ∧ (x.lastBeacon < y.lastBeacon ∨ (x.lastBeacon = y.lastBeacon ∧ y.sender < x.sender))) := by
  unfold TimeSource.givenUpBefore
  split
  · simp
    omega
  · split
    · simp
      omega
    · simp
      omega

theorem TimeSource.givenUpBefore_false (x y : TimeSource) : x.givenUpBefore y = false ↔ ¬(y.stratum < x.stratum ∨
    (x.stratum = y.stratum ∧ (x.lastBeacon < y.lastBeacon ∨ (x.lastBeacon = y.lastBeacon ∧ y.sender < x.sender)))) := by
  rw [← TimeSource.givenUpBefore_iff, Bool.not_eq_true]

theorem worst_eq {l : List TimeSource} (order : l.Pairwise (fun x y => x.sender < y.sender)) {w : TimeSource}
    (hw : w ∈ l) (worst : ∀ x ∈ l, x = w ∨ x.stratum < w.stratum ∨ (x.stratum = w.stratum ∧
      (w.lastBeacon < x.lastBeacon ∨ (w.lastBeacon = x.lastBeacon ∧ x.sender < w.sender)))) :
    leastBy TimeSource.givenUpBefore l = some w := by
  refine leastBy_eq_some (fun x y h => ?_) (fun x => ?_) (fun x y z h k => ?_) (fun x hx h k => ?_) hw fun x hx => ?_
  · rw [TimeSource.givenUpBefore_iff] at h
    rw [TimeSource.givenUpBefore_false]
    omega
  · rw [TimeSource.givenUpBefore_false]
    omega
  · rw [TimeSource.givenUpBefore_false] at h k ⊢
    omega
  · rw [TimeSource.givenUpBefore_false] at h k
    exact unique_of_ascending order hx hw (by omega)
  · rw [TimeSource.givenUpBefore_false]
    rcases worst x hx with rfl | before
    · omega
    · omega

theorem TimeUnit.offer_displaces (order : u.sources.Pairwise (fun x y => x.sender < y.sender))
    (absent : ∀ y ∈ u.sources, y.sender ≠ x.sender) (full : u.sources.length = 4)
    {w : TimeSource} (hw : w ∈ u.sources) (worst : leastBy TimeSource.givenUpBefore u.sources = some w)
    (better : x.stratum < w.stratum) : (u.offer x).refusedSources = u.refusedSources ∧
    ∀ y, y ∈ (u.offer x).sources ↔ y = x ∨ (y ∈ u.sources ∧ y ≠ w) := by
  have none : ¬u.sources.any (fun y => decide (y.sender = x.sender)) = true := by simpa using absent
  unfold TimeUnit.offer
  rw [if_neg none, if_neg (by rw [full]; decide), worst]
  dsimp only
  rw [if_pos better]
  refine ⟨rfl, fun y => mem_addSource.trans (or_congr_right (mem_removeSource.trans (and_congr_right fun hy => ?_)))⟩
  exact not_congr ⟨fun same => unique_of_ascending order hy hw same, fun eq => eq ▸ rfl⟩

end

end Sys2Proof.Machine

/-! ### BEACON frames (R97, R98, R100, R102, R105) -/

namespace Sys2Proof.Machine

section
variable {s : State} (running : s.running = true) {sender : Nat} {b : BeaconPayload}
include running

theorem State.takeBeacon_unusable (unusable : b.stratum = 15 ∨ b.state ≠ .synced) :
    s.takeBeacon sender b = s.timeDo fun u => { u with unusableBeacons := bump u.unusableBeacons } := by
  unfold State.takeBeacon
  rw [if_pos running, if_pos unusable]

theorem State.takeBeacon_usable (stratum : b.stratum ≠ 15) (synced : b.state = .synced) {o : State}
    (offered : o = s.timeDo fun u => u.offer ⟨sender, b.stratum, s.clock⟩) :
    (o.time.selected = some sender → s.takeBeacon sender b = o.discipline (s.residue b)) ∧
    (o.time.selected ≠ some sender → s.takeBeacon sender b = o) := by
  have same : o.residue b = s.residue b := by
    have offset : o.time.offset = s.time.offset := by
      rw [offered, State.timeDo_time, TimeUnit.offer_rest]
    have clock : o.clock = s.clock := by rw [offered]; rfl
    have cfg : o.cfg = s.cfg := by rw [offered]; rfl
    unfold State.residue
    rw [State.shipMs_congr clock offset, cfg]
  rw [← same, offered]
  unfold State.takeBeacon
  rw [if_pos running, if_neg (fun h => h.elim stratum (· synced))]
  exact ⟨fun chosen => if_pos chosen, fun other => if_neg other⟩

/-- The table after a usable beacon is that of the offer. -/
theorem State.takeBeacon_table (stratum : b.stratum ≠ 15) (synced : b.state = .synced) :
    (s.takeBeacon sender b).time.sources = (s.time.offer ⟨sender, b.stratum, s.clock⟩).sources ∧
    (s.takeBeacon sender b).time.selected = (s.time.offer ⟨sender, b.stratum, s.clock⟩).selected ∧
    (s.takeBeacon sender b).time.refusedSources = (s.time.offer ⟨sender, b.stratum, s.clock⟩).refusedSources := by
  obtain ⟨chosen, other⟩ := State.takeBeacon_usable (sender := sender) running stratum synced rfl
  by_cases h : (s.time.offer ⟨sender, b.stratum, s.clock⟩).selected = some sender
  · rw [chosen h]
    exact State.discipline_table _ _
  · rw [other h]
    exact ⟨rfl, rfl, rfl⟩

end

/-- Settles O45: the offer to the table, then the discipline of the selected source by its residue. -/
theorem beaconFrameTaken : Obligations.BeaconFrameTaken := by
  unfold Obligations.BeaconFrameTaken
  intro p f b s hears parsed law r wide
  let u := s.heard p
  have taken : exec (.beaconFrame p f) s = .next (u.takeBeacon f.sender b) := congrArg Host.Outcome.next
    (State.receive_eq (handle := fun s => s.takeBeacon f.sender b) hears (by simp only [classHandler, parsed, Option.map_some]))
  have heard : OnlyChanges [.ports, .ind] s u := s.heard_changes p
  have running : u.running = true := (s.heard_running p).trans hears.2.1
  have time : u.time = s.time := heard .time (by decide)
  have clock : u.clock = s.clock := s.heard_clock p
  have cfg : u.cfg = s.cfg := s.heard_cfg p
  have law : u.time.Lawful := time ▸ (State.timeLaw_iff s).mp law
  have residue : u.residue b = r := by
    unfold State.residue
    rw [State.shipMs_congr clock (by rw [time]), cfg]
  have wide_iff : wide ↔ s.cfg.slewWindow < r.natAbs := Iff.rfl
  clear_value wide r
  let x : TimeSource := ⟨f.sender, b.stratum, s.clock⟩
  let o : State := u.timeDo fun v => v.offer ⟨f.sender, b.stratum, u.clock⟩
  have offered : o.time = s.time.offer x := by
    show u.time.offer _ = _
    rw [time, clock]
  have rest := s.time.offer_rest x
  rw [← offered] at rest
  refine ⟨u.takeBeacon f.sender b, taken, (State.timeLaw_iff _).mpr (State.takeBeacon_timeLawful law _ _),
    fun unusable => ?_, fun stratum synced => ?_, heard.andThen (u.takeBeacon_changes f.sender b)⟩
  · rw [State.takeBeacon_unusable running unusable, State.timeDo_time, time]
    exact ⟨rfl, heard.andThen (u.timeDo_changes _)⟩
  · obtain ⟨disciplined, alone⟩ := State.takeBeacon_usable (sender := f.sender) running stratum synced (o := o) rfl
    obtain ⟨sources, selected, refused⟩ := State.takeBeacon_table (sender := f.sender) running stratum synced
    rw [time, clock] at sources selected refused
    rw [residue] at disciplined
    have chosen (h : (u.takeBeacon f.sender b).time.selected = some f.sender) :
        o.time.selected = some f.sender ∧ u.takeBeacon f.sender b = o.discipline r := by
      have h' : o.time.selected = some f.sender := by rw [offered, ← selected, h]
      exact ⟨h', disciplined h'⟩
    have runs : o.running = true := running
    have state : o.time.state = s.time.state := by rw [rest]
    have offset : o.time.offset = s.time.offset := by rw [rest]
    have remaining : o.time.slewRemaining = s.time.slewRemaining := by rw [rest]
    have tick : o.time.slewTick = s.time.slewTick := by rw [rest]
    have steps : o.time.stepsTaken = s.time.stepsTaken := by rw [rest]
    have unconfirmed : o.time.unconfirmedSteps = s.time.unconfirmedSteps := by rw [rest]
    have knows (known : s.time.state ≠ .unset) : o.time.state ≠ .unset := fun h => known (state.symm.trans h)
    have window (v : Int) : v.natAbs ≤ o.cfg.slewWindow ↔ v.natAbs ≤ s.cfg.slewWindow := by
      rw [show o.cfg = s.cfg from cfg]
    have confirm : o.time.confirm = if s.time.selected = o.time.selected then s.time.confirm else none := by rw [rest]
    refine ⟨fun free y => ?_, fun absent full worse => ?_, fun absent full w hw better worst => ?_, fun other => ?_,
      fun sel unset => ?_, fun sel known near => ?_, fun sel known far => ⟨fun q was confirmed close => ?_, fun unsure => ?_⟩⟩
    · rw [sources]
      by_cases held : ∃ y ∈ s.time.sources, y.sender = f.sender
      · exact TimeUnit.offer_held (x := x) held y
      · exact TimeUnit.offer_room (x := x) (fun y hy same => held ⟨y, hy, same⟩) (free.resolve_left held) y
    · have kept := TimeUnit.offer_refused (x := x) absent full worse
      have unselected : o.time.selected ≠ some f.sender := by
        rw [offered, kept]
        intro was
        obtain ⟨y, best, same⟩ := Option.map_eq_some_iff.mp ((time ▸ law).selected.symm.trans was)
        exact absent y (leastBy_mem best) same
      rw [alone unselected, offered, kept]
      exact ⟨rfl, heard.andThen (u.timeDo_changes _)⟩
    · have order : s.time.sources.Pairwise (fun x y => x.sender < y.sender) := time ▸ law.order
      rw [sources, refused]
      exact TimeUnit.offer_displaces (x := x) order absent full hw (worst_eq order hw worst) better
    · have unselected : o.time.selected ≠ some f.sender := by
        rw [offered, ← selected]
        exact other
      rw [alone unselected]
      exact ⟨offset, remaining, state⟩
    · obtain ⟨-, is⟩ := chosen sel
      have first := State.discipline_first (s := o) (r := r) (state.trans unset)
      have minute : (u.takeBeacon f.sender b).programmeMinute = (o.timeDo fun v => v.step r).programmeMinute := by
        refine State.programmeMinute_congr (u.takeBeacon_changes f.sender b .clock (by decide)) ?_
        rw [is, first, State.announceStep_time]
      rw [minute, is, first, State.announceStep_time]
      exact ⟨congrArg (· + r) offset, rfl, rfl, rfl, rfl, rfl, steps, State.announceStep_shown (s := o.timeDo _) runs _⟩
    · obtain ⟨-, is⟩ := chosen sel
      have near' : r.natAbs ≤ o.cfg.slewWindow := (window r).mpr (Nat.le_of_not_lt fun h => near (wide_iff.mpr h))
      have slews : (o.discipline r).time = _ := State.discipline_slews (knows known) near'
      obtain ⟨d, eq⟩ := TimeUnit.resync_eq (u := o.time.slew o.clock r) (knows known)
      rw [is, slews, eq]
      refine ⟨offset, rfl, rfl, rfl, ?_⟩
      show (if r = 0 then none else if o.time.slewRemaining = 0 then some (o.clock + 64) else o.time.slewTick) = _
      rw [remaining, tick, show o.clock = s.clock from clock]
    · obtain ⟨isSel, is⟩ := chosen sel
      have holds : o.time.confirm = some q := by rw [confirm, was, isSel, if_pos rfl, confirmed]
      have stepped := State.discipline_steps (s := o) (r := r) (knows known) (mt (window r).mp (Nat.not_le_of_lt (wide_iff.mp far))) holds
        ((window _).mpr close)
      rw [is, stepped, State.announceStep_time]
      exact ⟨congrArg (· + r) offset, rfl, rfl, rfl, rfl, congrArg bump steps, State.announceStep_shown (s := o.timeDo _) runs _⟩
    · obtain ⟨isSel, is⟩ := chosen sel
      have waits := State.discipline_waits (s := o) (r := r) (knows known) (mt (window r).mp (Nat.not_le_of_lt (wide_iff.mp far)))
        fun q holds close => by
          rw [confirm, isSel] at holds
          split at holds
          · next was =>
            rcases unsure with other | none | ⟨k, held, away⟩
            · exact other was
            · rw [none] at holds
              cases holds
            · rw [held] at holds
              cases holds
              exact Nat.not_le_of_lt away ((window _).mp close)
          · cases holds
      rw [is, waits]
      exact ⟨offset, remaining, tick, rfl, state, congrArg bump unconfirmed⟩

end Sys2Proof.Machine

/-! ### The deadlines of ship time (R69, R71, R99, R101, R103, R104) -/

namespace Sys2Proof.Machine

/-! #### Lead detection -/

theorem ProgrammeStore.mem_offer (p : ProgrammeStore) (id : Nat) : id ∈ (p.offer id).spotlight := by
  unfold ProgrammeStore.offer
  split
  · next held => simpa using held
  · split
    · exact List.mem_append_right _ List.mem_cons_self
    · exact List.mem_append_right _ List.mem_cons_self

/-- An id offered again and again stands in the list. -/
theorem ProgrammeStore.mem_offers {l : List Item} {id : Nat} (same : ∀ i ∈ l, i.id = id) (some_ : l ≠ [])
    (p : ProgrammeStore) : id ∈ (l.foldl (fun p i => p.offer i.id) p).spotlight := by
  induction l generalizing p with
  | nil => exact absurd rfl some_
  | cons i l ih =>
    have first : i.id = id := same i List.mem_cons_self
    by_cases last : l = []
    · rw [last, List.foldl_cons, List.foldl_nil, first]
      exact p.mem_offer id
    · exact ih (fun j hj => same j (List.mem_cons_of_mem _ hj)) last _

theorem ProgrammeStore.offers_items (l : List Item) (p : ProgrammeStore) :
    (l.foldl (fun p i => p.offer i.id) p).items = p.items := by
  induction l generalizing p with
  | nil => rfl
  | cons i l ih => exact (ih _).trans (p.offer_items i.id)

theorem State.detectLeads_prog (s : State) (minute : Nat) : (s.detectLeads minute).prog =
    (s.prog.items.filter (detectedAt s.cfg minute)).foldl (fun p i => p.offer i.id) s.prog :=
  State.cascades_changes _ _ .prog (by decide)

/-- The programme store after a minute notice (R69, R71). -/
theorem State.progTakesMinute_prog (s : State) (minute : Nat) : (s.progTakesMinute minute).prog =
    if s.time.state = .unset then s.prog
    else if s.time.state.disciplined = true then
      ((s.prog.expire minute).items.filter (detectedAt s.cfg minute)).foldl (fun p i => p.offer i.id) (s.prog.expire minute)
    else s.prog.expire minute := by
  unfold State.progTakesMinute
  rw [State.pageTakesProgramme_changes _ .prog (by decide)]
  cases state : s.time.state with
  | unset => simp [TimeState.known, TimeState.disciplined, state]
  | synced => simp [TimeState.known, TimeState.disciplined, state, State.detectLeads_prog, State.progDo, State.cfg]
  | holdover => simp [TimeState.known, TimeState.disciplined, state, State.detectLeads_prog, State.progDo, State.cfg]
  | stale => simp [TimeState.known, TimeState.disciplined, state]

/-- An announced minute at a running node (R104). -/
theorem State.announceMinute_running {s : State} (running : s.running = true) (minute : Nat) :
    (s.announceMinute minute).shown ∧
    (s.announceMinute minute).prog = (s.progTakesMinute minute).prog := by
  have same : ((s.timeDo fun u => { u with notifiedMinute := minute }).progTakesMinute minute).prog =
      (s.progTakesMinute minute).prog := by
    rw [State.progTakesMinute_prog, State.progTakesMinute_prog]
    rfl
  unfold State.announceMinute
  dsimp only
  split
  · refine ⟨State.finishPage_shown _ _ _, ?_⟩
    rw [State.pageNotice_changes _ _ .prog (by decide)]
    split
    · rw [State.cascade_changes _ _ .prog (by decide)]
      exact same
    · exact same
  · next off => exact absurd running off

theorem State.announceMinute_stopped {s : State} (stopped : s.running = false) (minute : Nat) :
    s.announceMinute minute = s.timeDo fun u => { u with notifiedMinute := minute } := by
  unfold State.announceMinute
  dsimp only
  split
  · next on => exact absurd (stopped.symm.trans on) Bool.false_ne_true
  · rfl

/-! #### Slew ticks and sources -/

theorem TimeUnit.tickSlew_up {u : TimeUnit} (up : 0 < u.slewRemaining) : u.tickSlew = { u with
      offset := u.offset + 1
      slewRemaining := u.slewRemaining - 1
      slewTick := if u.slewRemaining - 1 = 0 then none else u.slewTick.map (· + 64) } := by
  unfold TimeUnit.tickSlew
  rw [if_pos up]

theorem TimeUnit.tickSlew_down {u : TimeUnit} (down : u.slewRemaining < 0) : u.tickSlew = { u with
      offset := u.offset - 1
      slewRemaining := u.slewRemaining + 1
      slewTick := if u.slewRemaining + 1 = 0 then none else u.slewTick.map (· + 64) } := by
  have not : ¬0 < u.slewRemaining := by omega
  unfold TimeUnit.tickSlew
  rw [if_neg not]
  simp only [Int.sub_neg, ← Int.sub_eq_add_neg]

theorem State.slewTicks_due {s : State} {d : Nat} (tick : s.time.slewTick = some d) (late : d ≤ s.clock)
    (left : s.time.slewRemaining ≠ 0) : s.slewTicks = if 0 < s.time.slewRemaining
      then (s.timeDo TimeUnit.tickSlew).reachMinute else s.timeDo TimeUnit.tickSlew := by
  have ends : due s.time.slewTick s.clock = true := by simp [due, tick, late]
  exact if_pos ⟨ends, left⟩

theorem TimeUnit.holdOver_keeps (u : TimeUnit) (until_ : Nat) : (u.holdOver until_).sources = u.sources ∧
    (u.holdOver until_).offset = u.offset ∧ (u.holdOver until_).slewRemaining = u.slewRemaining := by
  unfold TimeUnit.holdOver
  split <;> exact ⟨rfl, rfl, rfl⟩

theorem State.expireSource_due {s : State} (running : s.running = true) (law : s.time.Lawful) {x : TimeSource}
    (hx : x ∈ s.time.sources) (late : x.lastBeacon + 3 * (s.cfg.beaconInterval * 1000) ≤ s.clock) {t : State}
    (expired : t = s.timeDo fun u => ({ u with sources := removeSource x.sender u.sources }.reselect).holdOver
      (s.clock + s.cfg.staleLimit * 60000)) :
    s.expireSource x.sender = if s.time.state = t.time.state then t else t.timeNotice := by
  have found : s.time.sources.find? (fun y => decide (y.sender = x.sender)) = some x := by
    cases search : s.time.sources.find? (fun y => decide (y.sender = x.sender)) with
    | none => exact absurd (List.find?_eq_none.mp search x hx) (by simp)
    | some y =>
      have same : y.sender = x.sender := by simpa using List.find?_some search
      rw [unique_of_ascending law.order (List.mem_of_find?_eq_some search) hx same]
  unfold State.expireSource
  rw [found, expired]
  exact if_pos ⟨running, late⟩

/-- Settles O46: each deadline is one change of the unit, announced where the minute or the state moves. -/
theorem timeDeadlinesTaken : Obligations.TimeDeadlinesTaken := by
  unfold Obligations.TimeDeadlinesTaken
  intro s
  refine ⟨fun d tick late left => ⟨s.slewTicks, rfl, ?_⟩, fun x hx running law late => ⟨s.expireSource x.sender, rfl, ?_⟩,
    fun d holdover stale late => ⟨s.becomeStale, rfl, ?_⟩, fun behind => ⟨s.reachMinute, rfl, ?_⟩⟩
  · have only := s.slewTicks_changes
    have ticks := State.slewTicks_due tick late left
    let v := s.timeDo TimeUnit.tickSlew
    by_cases up : 0 < s.time.slewRemaining
    · have time : v.time = _ := TimeUnit.tickSlew_up up
      have is : s.slewTicks = v.reachMinute := ticks.trans (if_pos up)
      have minute : s.slewTicks.programmeMinute = v.programmeMinute :=
        State.programmeMinute_congr (only .clock (by decide)) (by rw [is, State.reachMinute_time])
      rw [minute]
      rw [is] at only ⊢
      rw [State.reachMinute_time, time, tick]
      exact ⟨fun _ => ⟨rfl, rfl, rfl⟩, fun down => absurd down (by omega), rfl, rfl, rfl, only⟩
    · have down : s.time.slewRemaining < 0 := by omega
      have time : v.time = _ := TimeUnit.tickSlew_down down
      have is : s.slewTicks = v := ticks.trans (if_neg up)
      rw [is] at only ⊢
      rw [time, tick]
      exact ⟨fun h => absurd h up, fun _ => ⟨rfl, rfl, s.timeDo_changes _⟩, rfl, rfl, rfl, only⟩
  · have law := (State.timeLaw_iff s).mp law
    let w : TimeUnit := { s.time with sources := removeSource x.sender s.time.sources }.reselect
    let v := s.timeDo fun u => ({ u with sources := removeSource x.sender u.sources }.reselect).holdOver
      (s.clock + s.cfg.staleLimit * 60000)
    have is : s.expireSource x.sender = if s.time.state = v.time.state then v else v.timeNotice :=
      State.expireSource_due running law hx late rfl
    have only := s.expireSource_changes x.sender
    have gone (y : TimeSource) : y ∈ removeSource x.sender s.time.sources ↔ y ∈ s.time.sources ∧ y ≠ x :=
      mem_removeSource.trans (and_congr_right fun hy =>
        not_congr ⟨fun same => unique_of_ascending law.order hy hx same, fun eq => eq ▸ rfl⟩)
    have time : (s.expireSource x.sender).time = v.time := by
      rw [is]
      split
      · rfl
      · exact v.timeNotice_time
    refine ⟨(State.timeLaw_iff _).mpr (State.expireSource_timeLawful law _), ?_, ?_, ?_, ?_, ?_, only⟩
    · rw [time]
      intro y
      have sources : v.time.sources = removeSource x.sender s.time.sources := (w.holdOver_keeps _).1
      rw [← gone y, sources]
    · intro synced last
      have empty : removeSource x.sender s.time.sources = [] :=
        List.eq_nil_iff_forall_not_mem.mpr fun y hy => ((gone y).mp hy).2 (last y ((gone y).mp hy).1)
      have held : v.time = { w with state := .holdover, staleDeadline := some (s.clock + s.cfg.staleLimit * 60000) } :=
        if_pos ⟨empty, synced⟩
      have moved : s.time.state ≠ v.time.state := by
        rw [synced, held]
        exact nofun
      refine ⟨by rw [time, held], by rw [time, held], ?_⟩
      rw [is, if_neg moved]
      exact State.timeNotice_shown (s := v) running
    · intro other
      have kept : v.time = w := by
        refine if_neg fun ⟨empty, synced⟩ => ?_
        rcases other with state | ⟨y, hy, apart⟩
        · exact state synced
        · have empty : removeSource x.sender s.time.sources = [] := empty
          exact List.not_mem_nil (empty ▸ (gone y).mpr ⟨hy, apart⟩)
      have still : s.time.state = v.time.state := by
        rw [kept]
        rfl
      rw [is, if_pos still]
      exact ⟨still.symm, by rw [kept]; rfl, s.timeDo_changes _⟩
    · rw [time]
      exact (w.holdOver_keeps _).2.1
    · rw [time]
      exact (w.holdOver_keeps _).2.2
  · have only := s.becomeStale_changes
    have ends : due s.time.staleDeadline s.clock = true := by simp [due, stale, late]
    have is : s.becomeStale = (s.timeDo fun u => { u with state := .stale, staleDeadline := none }).timeNotice :=
      if_pos ⟨holdover, ends⟩
    rw [is] at only ⊢
    exact ⟨State.timeNotice_time _, fun running => State.timeNotice_shown running, only⟩
  · have only := s.reachMinute_changes
    have is : s.reachMinute = s.announceMinute s.programmeMinute := if_pos behind
    rw [is] at only ⊢
    refine ⟨State.announceMinute_time s _, fun stopped => ?_, fun running => ?_, only⟩
    · rw [State.announceMinute_stopped stopped]
      exact s.timeDo_changes _
    · obtain ⟨shown, prog⟩ := State.announceMinute_running running s.programmeMinute
      have store := s.progTakesMinute_prog s.programmeMinute
      have expired : (s.prog.expire s.programmeMinute).items =
          s.prog.items.filter (fun i => decide (s.programmeMinute ≤ i.last)) := by
        refine List.filter_congr fun i _ => ?_
        rw [← decide_not, decide_eq_decide, Nat.not_lt]
      rw [prog]
      refine ⟨shown, fun unset => store.trans (if_pos unset), fun known => ?_, fun runs i hi detected alive alone => ?_⟩
      · rw [store, if_neg known]
        split
        · rw [ProgrammeStore.offers_items, expired]
        · exact expired
      · have known : s.time.state ≠ .unset := by rcases runs with h | h <;> rw [h] <;> exact nofun
        have disciplined : s.time.state.disciplined = true := by rcases runs with h | h <;> rw [h] <;> rfl
        rw [store, if_neg known, if_pos disciplined, expired]
        refine ProgrammeStore.mem_offers (fun j hj => ?_) (List.ne_nil_of_mem (a := i) ?_) _
        · obtain ⟨mem, found⟩ := List.mem_filter.mp hj
          rw [alone j (List.mem_filter.mp mem).1 found]
        · exact List.mem_filter.mpr ⟨List.mem_filter.mpr ⟨hi, decide_eq_true alive⟩, detected⟩

end Sys2Proof.Machine

/-! ### The refresh choice of a PAPER panel, case by case (R142 to R145) -/

namespace Sys2Proof.Machine

section
variable {e : PanelEnv} {p : PanelCtl}

/-! #### The window (R142) -/

theorem PanelCtl.windowCount_prune (e : PanelEnv) (p : PanelCtl) :
    (p.pruneWindow e).windowCount e = p.windowCount e := by
  rw [PanelCtl.windowCount, PanelCtl.countingEntries_prune]
  rfl

theorem PanelCtl.pruneWindow_prune (e : PanelEnv) (p : PanelCtl) :
    (p.pruneWindow e).pruneWindow e = p.pruneWindow e := by
  show ({ p with window := (p.pruneWindow e).countingEntries e } : PanelCtl) = p.pruneWindow e
  rw [PanelCtl.countingEntries_prune]
  rfl

/-- What the choice reads of the window is its count. -/
theorem PanelCtl.choose_prune (e : PanelEnv) (p : PanelCtl) : (p.pruneWindow e).choose e = p.choose e := by
  unfold PanelCtl.choose
  rw [PanelCtl.windowCount_prune]
  rfl

/-! #### The tests (R144) -/

/-- The conditions of a test of the choice hold. -/
def PanelCtl.atTest (e : PanelEnv) (p : PanelCtl) : Prop :=
  p.kind = .paper ∧ p.state = .idle ∧ e.busy = false ∧ p.gapAnyPassed e = true

theorem PanelCtl.tryChoice_off (off : ¬p.atTest e) : p.tryChoice e = p := if_neg off

theorem PanelCtl.tryChoice_none (test : p.atTest e) (choice : p.choose e = none) :
    p.tryChoice e = p.pruneWindow e := by
  have test : p.kind = .paper ∧ p.state = .idle ∧ e.busy = false ∧ p.gapAnyPassed e = true := test
  rw [← PanelCtl.choose_prune] at choice
  unfold PanelCtl.tryChoice
  rw [if_pos test]
  dsimp only
  rw [choice]

theorem PanelCtl.tryChoice_full (test : p.atTest e) {urgent : Bool} (choice : p.choose e = some (.full urgent)) :
    p.tryChoice e = (p.pruneWindow e).startFull e urgent := by
  have test : p.kind = .paper ∧ p.state = .idle ∧ e.busy = false ∧ p.gapAnyPassed e = true := test
  rw [← PanelCtl.choose_prune] at choice
  unfold PanelCtl.tryChoice
  rw [if_pos test]
  dsimp only
  rw [choice]

theorem PanelCtl.tryChoice_partials (test : p.atTest e) {mask : List Nat} {urgent : Bool}
    (choice : p.choose e = some (.partials mask urgent)) :
    p.tryChoice e = (p.pruneWindow e).startPartial e mask urgent := by
  have test : p.kind = .paper ∧ p.state = .idle ∧ e.busy = false ∧ p.gapAnyPassed e = true := test
  rw [← PanelCtl.choose_prune] at choice
  unfold PanelCtl.tryChoice
  rw [if_pos test]
  dsimp only
  rw [choice]

/-- Reading the window first is a test of the choice all the same. -/
theorem PanelCtl.tryChoice_prune (test : p.atTest e) : (p.pruneWindow e).tryChoice e = p.tryChoice e := by
  have again : (p.pruneWindow e).atTest e := test
  have choice := p.choose_prune e
  cases chosen : p.choose e with
  | none => rw [PanelCtl.tryChoice_none test chosen, PanelCtl.tryChoice_none again (choice.trans chosen),
      PanelCtl.pruneWindow_prune]
  | some c =>
    cases c with
    | full urgent => rw [PanelCtl.tryChoice_full test chosen, PanelCtl.tryChoice_full again (choice.trans chosen),
        PanelCtl.pruneWindow_prune]
    | partials mask urgent => rw [PanelCtl.tryChoice_partials test chosen,
        PanelCtl.tryChoice_partials again (choice.trans chosen), PanelCtl.pruneWindow_prune]

/-! #### The choice with a FULL request (R144 steps 1 to 3) -/

theorem PanelCtl.defersFull_iff (p : PanelCtl) (r : FullRequest) : p.defersFull r = true ↔
    (p.quiet = true ∧ p.level.emergency = false) ∧ r.urgent = false ∧ r.forced = false := by
  simp [PanelCtl.defersFull, PanelCtl.quietDefers, and_assoc]

section
variable {r : FullRequest} (full : p.full = some r)
include full

theorem PanelCtl.choose_urgent (urgent : r.urgent = true) (room : p.windowCount e < e.cfg.windowCount) :
    p.choose e = some (.full true) := by
  unfold PanelCtl.choose
  rw [full]
  exact if_pos ⟨urgent, room⟩

theorem PanelCtl.choose_urgent_waits (urgent : r.urgent = true) (full' : e.cfg.windowCount ≤ p.windowCount e) :
    p.choose e = none := by
  have kept : p.defersFull r = false := by simp [PanelCtl.defersFull, urgent]
  unfold PanelCtl.choose
  rw [full]
  dsimp only
  rw [if_neg (by omega), if_neg (by omega), if_pos kept, if_neg (by omega)]

theorem PanelCtl.choose_calm (calm : r.urgent = false) (kept : r.forced = true ∨ p.defersFull r = false)
    (room : p.windowCount e < e.cfg.windowCount - 1) : p.choose e = some (.full false) := by
  unfold PanelCtl.choose
  rw [full]
  dsimp only
  rw [if_neg (by simp [calm])]
  rcases kept with forced | kept
  · exact if_pos ⟨forced, room⟩
  · rw [if_pos kept, if_pos room, ite_self]

theorem PanelCtl.choose_calm_waits (calm : r.urgent = false) (kept : p.defersFull r = false)
    (full' : e.cfg.windowCount - 1 ≤ p.windowCount e) : p.choose e = none := by
  unfold PanelCtl.choose
  rw [full]
  dsimp only
  rw [if_neg (by simp [calm]), if_neg (by omega), if_pos kept, if_neg (by omega)]

theorem PanelCtl.choose_deferred (deferred : p.defersFull r = true) : p.choose e = p.choosePartial e := by
  obtain ⟨-, calm, unforced⟩ := (p.defersFull_iff r).mp deferred
  unfold PanelCtl.choose
  rw [full]
  dsimp only
  rw [if_neg (by simp [calm]), if_neg (by simp [unforced]), if_neg (by simp [deferred])]

end

/-! #### The choice without one (R144 steps 4 and 5) -/

theorem PanelCtl.choose_converts (none : p.full = none) (room : p.windowCount e < e.cfg.windowCount)
    (converts : p.converts e = true) : p.choose e = some (.full true) := by
  unfold PanelCtl.choose
  rw [none]
  exact if_pos ⟨room, converts⟩

theorem PanelCtl.choose_partial (none : p.full = none)
    (not : ¬(p.windowCount e < e.cfg.windowCount ∧ p.converts e = true)) : p.choose e = p.choosePartial e := by
  unfold PanelCtl.choose
  rw [none]
  exact if_neg not

theorem PanelCtl.choosePartial_none (none : ∀ r ∈ p.partials, p.defersPartial r = true ∨ p.startable e r.group = false) :
    p.choosePartial e = .none := by
  have empty : p.partials.filter (fun r => !p.defersPartial r && p.startable e r.group) = [] := by
    rw [List.filter_eq_nil_iff]
    intro r hr
    rcases none r hr with deferred | unready
    · simp [deferred]
    · simp [unready]
  unfold PanelCtl.choosePartial
  rw [empty]
  rfl

theorem PanelCtl.choose_idle (none : p.full = none) (still : p.partials = []) : p.choose e = .none := by
  rw [PanelCtl.choose_partial none, PanelCtl.choosePartial_none]
  · simp [still]
  · simp [PanelCtl.converts, still]

/-- A PARTIAL request that is chosen starts a partial refresh; no other choice is left. -/
theorem PanelCtl.choosePartial_cases (e : PanelEnv) (p : PanelCtl) :
    p.choosePartial e = .none ∨ ∃ mask urgent, p.choosePartial e = some (.partials mask urgent) := by
  unfold PanelCtl.choosePartial
  split
  · exact .inl rfl
  · exact .inr ⟨_, _, rfl⟩

end

/-! #### The panel controller of a state -/

theorem PanelCtl.recordOf_num (p : PanelCtl) (n : Nat) : (p.recordOf n).num = n := by
  unfold PanelCtl.recordOf
  split
  · next h found => simpa using List.find?_some found
  · rfl

/-- A full load carries the field numbers 0 to 31 in their order (R137, R145). -/
theorem PanelCtl.fullLoad_nums (p : PanelCtl) :
    ((List.range 32).map (fun n => (p.recordOf n).toLoad)).map (fun x : LoadRecord => x.num) = List.range 32 := by
  rw [List.map_map]
  exact (List.map_congr_left fun n _ => p.recordOf_num n).trans (List.map_id _)

/-- The state is outside LOADING, so that the panel controller works. -/
theorem State.panelAtWork_of {s : State} (loaded : s.start.lifecycle ≠ .loading) : s.panelAtWork = true :=
  decide_eq_true loaded

end Sys2Proof.Machine

/-! ### Loads, the busy input and timeouts of a PAPER panel (R144, R146, R147) -/

namespace Sys2Proof.Machine

/-- A completion just now passes gap_any only where its effective value is 0. -/
theorem PanelCtl.gapAnyPassed_now {e : PanelEnv} {p : PanelCtl} (now : p.lastCompletion = some e.now) :
    p.gapAnyPassed e = true ↔
      ¬0 < effectiveGap e.cfg.gapAnyMicros e.cfg.gapAnyFrames e.cfg.framePeriodMicros := by
  simp only [PanelCtl.gapAnyPassed, now, decide_eq_true_eq]
  omega

theorem PanelCtl.endLoad_paper {e : PanelEnv} {p : PanelCtl} (paper : p.kind = .paper) :
    (p.fellInLoad = true →
      p.endLoad e = (({ p with load := none, fellInLoad := false } : PanelCtl).complete e).tryChoice e) ∧
    (p.fellInLoad = false → p.endLoad e = { p with
      state := .busy, load := none, refreshDeadline := some (e.now + e.cfg.refreshTimeout * 1000) }) := by
  unfold PanelCtl.endLoad
  rw [paper]
  exact ⟨fun fell => if_pos fell, fun stands => if_neg (by rw [stands]; exact Bool.false_ne_true)⟩

section
variable {p : PanelCtl} (e : PanelEnv)

theorem PanelCtl.busyFalls_busy (state : p.state = .busy) : p.busyFalls e = (p.complete e).tryChoice e := by
  cases p; cases state; rfl

theorem PanelCtl.busyFalls_sending (state : p.state = .sending) : p.busyFalls e = { p with fellInLoad := true } := by
  cases p; cases state; rfl

theorem PanelCtl.busyFalls_idle (state : p.state = .idle) :
    p.busyFalls e = ({ p with busyWatch := none } : PanelCtl).tryChoice e := by
  cases p; cases state; rfl

theorem PanelCtl.busyFalls_stuck (state : p.state = .faultWait ∨ p.state = .dead) : p.busyFalls e = p := by
  rcases state with state | state <;> cases p <;> cases state <;> rfl

theorem PanelCtl.busyRises_idle (state : p.state = .idle) :
    p.busyRises e = { p with busyWatch := some (e.now + e.cfg.refreshTimeout * 1000) } := by
  cases p; cases state; rfl

theorem PanelCtl.busyRises_other (state : p.state ≠ .idle) : p.busyRises e = p := by
  unfold PanelCtl.busyRises
  split
  · next idle => exact absurd idle state
  all_goals rfl

end

/-- Settles O55: the end of a load and the edges of the busy input, with the test of the choice a completion is. -/
theorem panelBusyLine : Obligations.PanelBusyLine := by
  unfold Obligations.PanelBusyLine
  intro s loaded paper cfg spaced watch counting goesOn
  have work : s.panelAtWork = true := State.panelAtWork_of loaded
  have reads : s.readsBusy = true := by simp [State.readsBusy, paper, work]
  have onward {e : PanelEnv} {done : PanelCtl} (cfg : e.cfg = s.cfg.panel) (now : e.now = s.clock)
      (low : e.busy = false) (kind : done.kind = .paper) (idle : done.state = .idle) (close : ¬spaced)
      (window : done.window = s.panel.window) (count : done.fullRefreshes = s.panel.fullRefreshes)
      (completion : done.lastCompletion = some s.clock) (run : done.timeoutRun = 0) :
      goesOn done (done.tryChoice e) := by
    have test : done.atTest e :=
      ⟨kind, idle, low, (PanelCtl.gapAnyPassed_now (now ▸ completion)).mpr (cfg ▸ close)⟩
    have entries : done.countingEntries e = counting := by
      unfold PanelCtl.countingEntries
      rw [window, cfg, now]
    have length : done.windowCount e = counting.length := congrArg List.length entries
    have pruned : done.pruneWindow e = { done with window := counting } :=
      congrArg (fun w => ({ done with window := w } : PanelCtl)) entries
    refine ⟨fun none still => ?_, fun r full urgent room => ?_, fun r full closed kept => ?_⟩
    · rw [PanelCtl.tryChoice_none test (PanelCtl.choose_idle none still), pruned]
    · rw [PanelCtl.tryChoice_full test (PanelCtl.choose_urgent full urgent (by rw [length, cfg]; exact room)), pruned,
        ← now]
      exact ⟨rfl, rfl, rfl, rfl, rfl, rfl, now ▸ completion, run, congrArg bump count, _, rfl, rfl, PanelCtl.fullLoad_nums _⟩
    · have closed : e.cfg.windowCount ≤ done.windowCount e := by rw [length, cfg]; exact closed
      have waits : done.choose e = none := by
        by_cases urgent : r.urgent = true
        · exact PanelCtl.choose_urgent_waits full urgent closed
        · refine PanelCtl.choose_calm_waits full (Bool.not_eq_true _ ▸ urgent) ?_ (by omega)
          rw [← Bool.not_eq_true, done.defersFull_iff]
          rintro ⟨⟨quiet, level⟩, calm, unforced⟩
          rcases kept with h | h | h | h
          · exact urgent h
          · exact Bool.false_ne_true (unforced.symm.trans h)
          · exact Bool.false_ne_true (h.symm.trans quiet)
          · exact Bool.false_ne_true (level.symm.trans h)
      rw [PanelCtl.tryChoice_none test waits, pruned]
  refine ⟨fun sending => ?_, fun high => ?_, fun low => ?_⟩
  · intro done
    let t := s.panelDo fun e p => p.endLoad e
    obtain ⟨fell, stands⟩ := PanelCtl.endLoad_paper (e := s.panelEnv) paper
    have finished (h : s.panel.fellInLoad = true) : t.panel = done.tryChoice s.panelEnv := fell h
    refine ⟨t, congrArg Host.Outcome.next (if_pos ⟨work, sending⟩), stands, fun h => ?_, s.panelDo_changes _⟩
    rw [finished h]
    refine ⟨fun off => PanelCtl.tryChoice_off fun ⟨_, _, low, passed⟩ => ?_, fun close low =>
      onward rfl rfl low paper rfl close rfl rfl rfl rfl⟩
    rcases off with spaced | high
    · exact (PanelCtl.gapAnyPassed_now (e := s.panelEnv) (p := done) rfl).mp passed spaced
    · exact Bool.false_ne_true (low.symm.trans high)
  · intro done
    let v := s.busyPin false
    let t := v.panelDo fun e p => p.busyFalls e
    have runs : exec .panelBusyFall s = .next t :=
      congrArg Host.Outcome.next ((if_pos high).trans (if_pos reads))
    have only : OnlyChanges [.pins, .panel] s t := (s.busyPin_changes false).andThen (v.panelDo_changes _)
    refine ⟨t, runs, rfl, fun busy => ?_, fun sending => ?_, fun idle none still => ?_, fun stuck => ?_, only⟩
    · have finished : t.panel = done.tryChoice v.panelEnv := PanelCtl.busyFalls_busy _ busy
      rw [finished]
      refine ⟨fun spaced => PanelCtl.tryChoice_off fun ⟨_, _, low, passed⟩ => ?_, fun close =>
        onward rfl rfl rfl paper rfl close rfl rfl rfl rfl⟩
      exact (PanelCtl.gapAnyPassed_now (e := v.panelEnv) (p := done) rfl).mp passed spaced
    · exact PanelCtl.busyFalls_sending _ sending
    · let q : PanelCtl := { s.panel with busyWatch := .none }
      have tried : t.panel = q.tryChoice v.panelEnv := PanelCtl.busyFalls_idle _ idle
      by_cases test : q.atTest v.panelEnv
      · rw [tried, PanelCtl.tryChoice_none test (PanelCtl.choose_idle none still)]
        exact ⟨rfl, idle⟩
      · rw [tried, PanelCtl.tryChoice_off test]
        exact ⟨rfl, idle⟩
    · exact PanelCtl.busyFalls_stuck _ stuck
  · let v := s.busyPin true
    let t := v.panelDo fun e p => p.busyRises e
    have runs : exec .panelBusyRise s = .next t :=
      congrArg Host.Outcome.next ((if_neg (by rw [low]; exact Bool.false_ne_true)).trans (if_pos reads))
    have only : OnlyChanges [.pins, .panel] s t := (s.busyPin_changes true).andThen (v.panelDo_changes _)
    exact ⟨t, runs, rfl, PanelCtl.busyRises_idle _, PanelCtl.busyRises_other _, only⟩

end Sys2Proof.Machine

/-! ### Timeouts and the retry of a PAPER panel (R147, R181) -/

namespace Sys2Proof.Machine

section
variable (e : PanelEnv) (p : PanelCtl)

theorem PanelCtl.timeOut_few (urgent : Bool) (few : p.timeoutRun < 2) : p.timeOut e urgent = { p with
    panelTimeouts := bump p.panelTimeouts
    timeoutRun := p.timeoutRun + 1
    refreshDeadline := none
    busyWatch := none
    refreshUrgent := urgent
    state := .faultWait
    retryDeadline := some (e.now + 30000) } :=
  if_pos (Nat.succ_lt_succ few)

theorem PanelCtl.timeOut_third (urgent : Bool) (third : 2 ≤ p.timeoutRun) : p.timeOut e urgent = { p with
    panelTimeouts := bump p.panelTimeouts
    timeoutRun := p.timeoutRun + 1
    refreshDeadline := none
    busyWatch := none
    refreshUrgent := urgent
    state := .dead
    pending := []
    full := none
    partials := [] } :=
  if_neg (Nat.not_lt_of_le (Nat.succ_le_succ third))

theorem State.faultCondition_of_failed {s : State} (paper : s.panel.kind = .paper)
    (failed : s.panel.state = .faultWait ∨ s.panel.state = .dead) : s.faultCondition = true := by
  rcases failed with h | h <;> simp [State.faultCondition, paper, h]

/-- The request a retry stands with: urgent where one was, forced where one stood forced (R147). -/
theorem mergeFull_retry (full : Option FullRequest) (urgent : Bool) : ∃ r, mergeFull full urgent false = some r ∧
    (r.urgent = true ↔ (∃ x, full = some x ∧ x.urgent = true) ∨ urgent = true) ∧
    (r.forced = true ↔ ∃ x, full = some x ∧ x.forced = true) := by
  cases full with
  | none => exact ⟨_, rfl, by simp, by simp⟩
  | some x => exact ⟨_, rfl, by simp, by simp⟩

/-- A test of the choice leaves IDLE alone or a load that is being sent. -/
theorem PanelCtl.tryChoice_state (idle : p.state = .idle) :
    (p.tryChoice e).state = .idle ∧ (p.tryChoice e).busyWatch = p.busyWatch ∨ (p.tryChoice e).state = .sending := by
  unfold PanelCtl.tryChoice
  split
  · dsimp only
    split
    · exact .inl ⟨idle, rfl⟩
    · exact .inr rfl
    · exact .inr rfl
  · exact .inl ⟨idle, rfl⟩

/-- A deferred FULL request stands after the test. -/
theorem PanelCtl.tryChoice_keeps_full {r : FullRequest} (full : p.full = some r) (deferred : p.defersFull r = true) :
    (p.tryChoice e).full ≠ none := by
  by_cases test : p.atTest e
  · have choice := PanelCtl.choose_deferred (e := e) full deferred
    rcases p.choosePartial_cases e with none | ⟨mask, urgent, some⟩
    · rw [PanelCtl.tryChoice_none test (choice.trans none)]
      exact fun h => nomatch full.symm.trans h
    · rw [PanelCtl.tryChoice_partials test (choice.trans some)]
      show forceFull _ _ p.full ≠ Option.none
      rw [full]
      unfold forceFull
      split <;> exact nofun
  · rw [PanelCtl.tryChoice_off test, full]
    exact nofun

end

theorem State.panelTimesOut_late {s : State} (paper : s.panel.kind = .paper) (urgent : Bool) :
    (s.panelTimesOut urgent).panel = s.panel.timeOut s.panelEnv urgent ∧
    (s.panelTimesOut urgent).ind = { s.ind with fault := true } ∧
    OnlyChanges [.panel, .ind] s (s.panelTimesOut urgent) := by
  let v := s.panelDo fun e p => p.timeOut e urgent
  have condition : v.faultCondition = true := by
    by_cases few : s.panel.timeoutRun < 2
    · have panel : v.panel = _ := s.panel.timeOut_few s.panelEnv urgent few
      exact State.faultCondition_of_failed (by rw [panel]; exact paper) (.inl (by rw [panel]))
    · have panel : v.panel = _ := s.panel.timeOut_third s.panelEnv urgent (Nat.le_of_not_lt few)
      exact State.faultCondition_of_failed (by rw [panel]; exact paper) (.inr (by rw [panel]))
  refine ⟨rfl, ?_, (s.panelDo_changes _).andThen (State.updateFault_changes _)⟩
  show { s.ind with fault := v.faultCondition } = _
  rw [condition]

/-- Settles O57: a due timeout is counted and stops the panel; the retry asks for everything and tests the choice. -/
theorem panelTimeouts : Obligations.PanelTimeouts := by
  unfold Obligations.PanelTimeouts
  intro s d loaded paper due_ late
  have work : s.panelAtWork = true := State.panelAtWork_of loaded
  have isDue (x : Option Nat) (h : x = some d) : due x s.clock = true := by simp [due, h, due_]
  have lates (urgent : Bool) : late (s.panelTimesOut urgent) := by
    obtain ⟨panel, ind, only⟩ := State.panelTimesOut_late paper urgent
    show _ ∧ _
    rw [panel]
    by_cases few : s.panel.timeoutRun < 2
    · rw [PanelCtl.timeOut_few _ _ urgent few]
      exact ⟨rfl, rfl, rfl, rfl, rfl, rfl, fun _ => ⟨rfl, rfl, rfl, rfl, rfl⟩, fun third => absurd few (by omega), ind, only⟩
    · rw [PanelCtl.timeOut_third _ _ urgent (Nat.le_of_not_lt few)]
      exact ⟨rfl, rfl, rfl, rfl, rfl, rfl, fun h => absurd h few, fun _ => ⟨rfl, rfl, rfl, rfl⟩, ind, only⟩
  refine ⟨fun busy deadline => ⟨_, congrArg Host.Outcome.next (if_pos ⟨work, busy, isDue _ deadline⟩), lates _⟩,
    fun idle watch => ⟨_, congrArg Host.Outcome.next (if_pos ⟨work, idle, isDue _ watch⟩), lates _⟩, ?_⟩
  intro stopped deadline cfg counting urgent passes
  let v := s.panelDo fun e p => p.retry e
  let q : PanelCtl := ({ s.panel with
    retryDeadline := none
    pending := s.panel.allPending
    full := mergeFull s.panel.full (s.panel.refreshUrgent || s.panel.partials.any (fun r => r.urgent)) false } : PanelCtl).enterIdle
      s.panelEnv
  have panel : v.updateFault.panel = q.tryChoice s.panelEnv := rfl
  obtain ⟨r, full, r_urgent, r_forced⟩ := mergeFull_retry s.panel.full
    (s.panel.refreshUrgent || s.panel.partials.any (fun r => r.urgent))
  have full : q.full = some r := full
  have r_urgent : r.urgent = true ↔ urgent := by
    rw [r_urgent, Bool.or_eq_true, List.any_eq_true, or_comm, or_assoc]
  have entries : q.countingEntries s.panelEnv = counting := rfl
  have count : q.windowCount s.panelEnv = counting.length := rfl
  have waitsWith {p : PanelCtl} (state : p.state = .idle) (pending : p.pending = q.pending) (partials : p.partials = q.partials)
      (kept : p.full = q.full) : p.state = .idle ∧ p.pending.map (fun x => x.num) = List.range 32 ∧
        p.partials = s.panel.partials ∧ ∃ r, p.full = some r ∧ (r.urgent = true ↔ urgent) := by
    refine ⟨state, ?_, partials, r, kept.trans full, r_urgent⟩
    rw [pending]
    show ((List.range 32).map fun n => (⟨n, s.panel.groupsOf n⟩ : PendingField)).map (fun x => x.num) = _
    rw [List.map_map]
    exact List.map_id _
  obtain ⟨-, -, -, -, -, -, -, -, run, retry⟩ := PanelCtl.tryChoice_side s.panelEnv q
  refine ⟨v.updateFault, congrArg Host.Outcome.next (if_pos ⟨work, stopped, isDue _ deadline⟩), retry, run, rfl, ?_, ?_⟩
  · exact (q.tryChoice_state s.panelEnv rfl).imp_left And.left
  intro waits starts
  have off (h : ¬q.atTest s.panelEnv) : waits := by
    have is : v.updateFault.panel = q := panel.trans (PanelCtl.tryChoice_off h)
    show _ ∧ _
    rw [is]
    exact waitsWith rfl rfl rfl rfl
  have pruned (test : q.atTest s.panelEnv) (none : q.choose s.panelEnv = none) : waits := by
    have is : v.updateFault.panel = q.pruneWindow s.panelEnv := panel.trans (PanelCtl.tryChoice_none test none)
    show _ ∧ _
    rw [is]
    exact waitsWith rfl rfl rfl rfl
  have begins (test : q.atTest s.panelEnv) {tag : Bool} (some_ : q.choose s.panelEnv = some (.full tag)) : starts tag := by
    have is : v.updateFault.panel = (q.pruneWindow s.panelEnv).startFull s.panelEnv tag :=
      panel.trans (PanelCtl.tryChoice_full test some_)
    show _ ∧ _
    rw [is]
    exact ⟨rfl, rfl, rfl, rfl, rfl, rfl, rfl, rfl, _, rfl, rfl, PanelCtl.fullLoad_nums _⟩
  refine ⟨fun high => ⟨off ?_, ?_⟩, fun low idle => ?_, fun low gap => off ?_, fun low gap => ?_,
    (s.panelDo_changes _).andThen (State.updateFault_changes _)⟩
  · exact fun ⟨_, _, low, _⟩ => Bool.false_ne_true (low.symm.trans high)
  · rw [panel, PanelCtl.tryChoice_off fun ⟨_, _, low, _⟩ => Bool.false_ne_true (low.symm.trans high)]
    exact if_pos high
  · rw [panel] at idle ⊢
    rcases q.tryChoice_state s.panelEnv rfl with ⟨-, watch⟩ | sending
    · rw [watch]
      exact if_neg (by rw [show s.panelEnv.busy = false from low]; exact Bool.false_ne_true)
    · exact absurd (idle.symm.trans sending) nofun
  · exact fun ⟨_, _, _, passed⟩ => Bool.false_ne_true (gap.symm.trans passed)
  · have test : q.atTest s.panelEnv := ⟨paper, rfl, low, gap⟩
    have kept (h : passes) : q.defersFull r = false := by
      rw [← Bool.not_eq_true, q.defersFull_iff]
      rintro ⟨⟨quiet, level⟩, -, unforced⟩
      rcases h with h | h | h
      · exact Bool.false_ne_true (h.symm.trans quiet)
      · exact Bool.false_ne_true (level.symm.trans h)
      · exact Bool.false_ne_true (unforced.symm.trans (r_forced.mpr h))
    have calm (h : ¬urgent) : r.urgent = false := Bool.not_eq_true _ ▸ mt r_urgent.mp h
    have deferred (h : ¬urgent) (k : ¬passes) : q.defersFull r = true := by
      refine (q.defersFull_iff r).mpr ⟨⟨?_, ?_⟩, calm h, ?_⟩
      · exact Bool.not_eq_false _ ▸ fun quiet => k (.inl quiet)
      · exact Bool.not_eq_true _ ▸ fun level => k (.inr (.inl level))
      · exact Bool.not_eq_true _ ▸ fun forced => k (.inr (.inr (r_forced.mp forced)))
    refine ⟨fun h room => begins test (PanelCtl.choose_urgent full (r_urgent.mpr h) room),
      fun h closed => pruned test (PanelCtl.choose_urgent_waits full (r_urgent.mpr h) closed),
      fun h k room => begins test (PanelCtl.choose_calm full (calm h) (.inr (kept k)) room),
      fun h k closed => pruned test (PanelCtl.choose_calm_waits full (calm h) (kept k) closed), fun h k => ?_, fun h k still => ?_⟩
    · rw [panel]
      exact q.tryChoice_keeps_full s.panelEnv full (deferred h k)
    · refine pruned test ((PanelCtl.choose_deferred full (deferred h k)).trans (PanelCtl.choosePartial_none fun x hx => ?_))
      exact absurd (show x ∈ s.panel.partials from hx) (still ▸ List.not_mem_nil)

end Sys2Proof.Machine

/-! ### LIT loads, ramp ticks and lamp edges (R148, R150, R180) -/

namespace Sys2Proof.Machine

section
variable {e : PanelEnv} {p : PanelCtl}

theorem PanelCtl.tryLit_none (marked : p.pageMark = false) (still : p.pending = []) : p.tryLit e = p := by
  refine if_neg ?_
  rintro ⟨-, mark | pending⟩
  · exact Bool.false_ne_true (marked.symm.trans mark)
  · exact pending still

/-- A pending load begins from IDLE. -/
theorem PanelCtl.tryLit_begins (idle : p.state = .idle) (load : p.pageMark = true ∨ p.pending ≠ []) :
    p.tryLit e = p.beginLit e := if_pos ⟨idle, load⟩

theorem PanelCtl.tryLit_busy (busy : p.state ≠ .idle) : p.tryLit e = p := if_neg fun h => busy h.1

theorem PanelCtl.beginLit_page (marked : p.pageMark = true) : (p.beginLit e).state = .sending ∧
    (p.beginLit e).pageMark = false ∧ (p.beginLit e).pending = [] ∧
    (p.beginLit e).fullRefreshes = bump p.fullRefreshes := by
  unfold PanelCtl.beginLit
  rw [if_pos marked]
  exact ⟨rfl, rfl, rfl, rfl⟩

theorem PanelCtl.beginLit_fields (marked : p.pageMark = false) : (p.beginLit e).state = .sending ∧
    (p.beginLit e).pending = [] ∧ (p.beginLit e).partialRefreshes = bump p.partialRefreshes := by
  unfold PanelCtl.beginLit
  rw [if_neg (by rw [marked]; exact Bool.false_ne_true)]
  exact ⟨rfl, rfl, rfl⟩

theorem PanelCtl.beginLit_state (e : PanelEnv) (p : PanelCtl) :
    (p.beginLit e).state = .sending ∧ (p.beginLit e).pending = [] := by
  cases marked : p.pageMark with
  | true => exact ⟨(PanelCtl.beginLit_page marked).1, (PanelCtl.beginLit_page marked).2.2.1⟩
  | false => exact ⟨(PanelCtl.beginLit_fields marked).1, (PanelCtl.beginLit_fields marked).2.1⟩

theorem PanelCtl.ramp_due {d g : Nat} (tick : p.rampTick = some d) (target : p.target = some g) :
    p.ramp e = { p with
      luminance := moveToward p.luminance g (rampStep e.cfg p.stepCount)
      stepCount := p.stepCount + 1
      rampTick := if moveToward p.luminance g (rampStep e.cfg p.stepCount) = g then none else some (d + 10) } := by
  unfold PanelCtl.ramp
  rw [tick, target]

/-! #### The blink generator's fields (R180) -/

theorem mem_pendField {f : PendingField} {t : List PendingField} {n : Nat} :
    (∃ x ∈ pendField f t, x.num = n) ↔ (∃ x ∈ t, x.num = n) ∨ f.num = n := by
  unfold pendField
  constructor
  · rintro ⟨x, hx, same⟩
    rcases (mem_insertBy f x _).mp hx with rfl | old
    · exact .inr same
    · exact .inl ⟨x, (List.mem_filter.mp old).1, same⟩
  · intro h
    by_cases same : f.num = n
    · exact ⟨f, (mem_insertBy f f _).mpr (.inl rfl), same⟩
    · obtain ⟨x, hx, at_⟩ := h.resolve_right same
      refine ⟨x, (mem_insertBy f x _).mpr (.inr (List.mem_filter.mpr ⟨hx, ?_⟩)), at_⟩
      exact decide_eq_true (at_ ▸ Ne.symm same)

theorem mem_pendFields {l : List HeldField} {t : List PendingField} {n : Nat} :
    (∃ x ∈ l.foldl (fun t h => pendField ⟨h.record.num, h.groups⟩ t) t, x.num = n) ↔
      (∃ x ∈ t, x.num = n) ∨ ∃ h ∈ l, h.record.num = n := by
  induction l generalizing t with
  | nil => simp
  | cons h l ih =>
    rw [List.foldl_cons, ih, mem_pendField, or_assoc]
    simp [List.mem_cons]

theorem PanelCtl.blinkPhase_paper (paper : p.kind = .paper) : p.blinkPhase e = p := by
  unfold PanelCtl.blinkPhase
  rw [paper]

theorem PanelCtl.blinkPhase_still (still : ∀ h ∈ p.held, h.record.attr ≠ .blink) : p.blinkPhase e = p := by
  have none : p.held.filter (fun h => decide (h.record.attr = .blink)) = [] :=
    List.filter_eq_nil_iff.mpr fun h hh => by simpa using still h hh
  unfold PanelCtl.blinkPhase
  split
  · rfl
  · exact if_pos none

/-- The pending fields with those the blink generator adds. -/
def PanelCtl.blinked (p : PanelCtl) : PanelCtl :=
  { p with
    pending := (p.held.filter (fun h => decide (h.record.attr = .blink))).foldl
      (fun t h => pendField ⟨h.record.num, h.groups⟩ t) p.pending }

theorem PanelCtl.mem_blinked {n : Nat} : (∃ x ∈ p.blinked.pending, x.num = n) ↔
    (∃ x ∈ p.pending, x.num = n) ∨ ∃ h ∈ p.held, h.record.num = n ∧ h.record.attr = .blink := by
  refine mem_pendFields.trans (or_congr_right ?_)
  simp [List.mem_filter, and_assoc, and_comm]

theorem PanelCtl.blinkPhase_lit (lit : p.kind = .lit) : p.blinkPhase e =
    if p.held.filter (fun h => decide (h.record.attr = .blink)) = [] then p else p.blinked.tryLit e := by
  cases p; cases lit; rfl

/-- A load under way keeps the fields pending. -/
theorem PanelCtl.blinkPhase_busy (lit : p.kind = .lit) (busy : p.state ≠ .idle) : p.blinkPhase e = p.blinked := by
  rw [PanelCtl.blinkPhase_lit lit]
  split
  · next none =>
    unfold PanelCtl.blinked
    rw [none, List.foldl_nil]
  · exact PanelCtl.tryLit_busy busy

theorem PanelCtl.blinkPhase_begins (lit : p.kind = .lit) (idle : p.state = .idle)
    (blinks : ∃ h ∈ p.held, h.record.attr = .blink) : p.blinkPhase e = p.blinked.beginLit e := by
  obtain ⟨h, hh, blink⟩ := blinks
  have some_ : p.held.filter (fun h => decide (h.record.attr = .blink)) ≠ [] :=
    List.ne_nil_of_mem (List.mem_filter.mpr ⟨hh, decide_eq_true blink⟩)
  obtain ⟨x, hx, -⟩ := PanelCtl.mem_blinked.mpr (.inr ⟨h, hh, rfl, blink⟩)
  rw [PanelCtl.blinkPhase_lit lit, if_neg some_]
  exact PanelCtl.tryLit_begins idle (.inr (List.ne_nil_of_mem hx))

theorem PanelCtl.endLoad_lit (lit : p.kind = .lit) :
    p.endLoad e = ({ p with state := .idle, load := none } : PanelCtl).tryLit e := by
  cases p; cases lit; rfl

end

/-- Settles O58: a LIT load's end, a ramp tick and the two edges, each one work of the panel controller or the lamp. -/
theorem litPanelAndLamp : Obligations.LitPanelAndLamp := by
  unfold Obligations.LitPanelAndLamp
  intro s period on blinking
  refine ⟨fun loaded lit sending => ?_, fun d g loaded tick target late => ?_, fun edge => ?_, fun abandon => ?_⟩
  · have work : s.panelAtWork = true := State.panelAtWork_of loaded
    let t := s.panelDo fun e p => p.endLoad e
    let q : PanelCtl := { s.panel with state := .idle, load := none }
    have panel : t.panel = q.tryLit s.panelEnv := PanelCtl.endLoad_lit lit
    refine ⟨t, congrArg Host.Outcome.next (if_pos ⟨work, sending⟩), s.panelDo_changes _, fun marked still => ?_,
      fun marked => ?_, fun marked pending => ?_⟩
    · rw [panel]
      exact PanelCtl.tryLit_none marked still
    · rw [panel, PanelCtl.tryLit_begins (p := q) rfl (.inl marked)]
      exact PanelCtl.beginLit_page (p := q) marked
    · rw [panel, PanelCtl.tryLit_begins (p := q) rfl (.inr pending)]
      exact PanelCtl.beginLit_fields (p := q) marked
  · intro size level
    have ends : due s.panel.rampTick s.clock = true := by simp [due, tick, late]
    have runs : (s.panelAtWork && due s.panel.rampTick s.clock) = true := by rw [State.panelAtWork_of loaded, ends]; rfl
    exact ⟨s.panelDo fun e p => p.ramp e, congrArg Host.Outcome.next (if_pos runs), s.panelDo_changes _,
      PanelCtl.ramp_due tick target⟩
  · let v : State := { s with ind := { s.ind with phaseOn := s.blinkOn, lamp := s.lampFor s.ind.level } }
    let t := v.panelDo fun e p => p.blinkPhase e
    have panel : t.panel = s.panel.blinkPhase s.panelEnv := rfl
    have only : OnlyChanges [.ind, .panel] s v := fun b off => by
      cases b with
      | ind => exact absurd (by decide) off
      | _ => rfl
    refine ⟨t, congrArg Host.Outcome.next (if_neg edge), only.trans (v.panelDo_changes _).widen, ?_, fun still => ?_,
      fun lit sending => ?_, fun lit idle blinks => ?_⟩
    · refine congrArg (fun l => { s.ind with phaseOn := s.blinkOn, lamp := l }) ?_
      cases s.ind.level <;> rfl
    · rw [panel]
      rcases still with paper | none
      · exact PanelCtl.blinkPhase_paper paper
      · exact PanelCtl.blinkPhase_still fun h hh blink => none h.record.num ⟨h, hh, rfl, blink⟩
    · rw [panel, PanelCtl.blinkPhase_busy lit (fun idle => nomatch sending.symm.trans idle)]
      exact ⟨sending, rfl, fun n => PanelCtl.mem_blinked⟩
    · obtain ⟨n, h, hh, -, blink⟩ := blinks
      rw [panel, PanelCtl.blinkPhase_begins lit idle ⟨h, hh, blink⟩]
      exact PanelCtl.beginLit_state _ _
  · refine ⟨{ s with ind := { s.ind with lamp := s.lampFor .abandon } }, congrArg Host.Outcome.next (if_pos abandon),
      fun b off => ?_, rfl⟩
    cases b with
    | ind => exact absurd (by decide) off
    | _ => rfl

end Sys2Proof.Machine

/-! ### The groups a partial refresh joins (R144) -/

namespace Sys2Proof.Machine

theorem mem_growMask {pending : List PendingField} {mask : List Nat} {h : Nat} : h ∈ growMask pending mask ↔
    (1 ≤ h ∧ h ≤ 4) ∧ (h ∈ mask ∨ ∃ f ∈ pending, h ∈ f.groups ∧ ∃ x ∈ f.groups, x ∈ mask) := by
  have bounds : h ∈ [1, 2, 3, 4] ↔ 1 ≤ h ∧ h ≤ 4 := by
    simp only [List.mem_cons, List.not_mem_nil, or_false]
    omega
  simp [growMask, List.mem_filter, bounds]

/-- Growing a grown mask adds a group or leaves it as it was. -/
theorem growMask_grows (pending : List PendingField) (m : List Nat) :
    growMask pending (growMask pending m) = growMask pending m ∨
      (growMask pending m).length < (growMask pending (growMask pending m)).length := by
  have sub : (growMask pending m).Sublist (growMask pending (growMask pending m)) := by
    refine List.sublist_filter_iff.mpr ⟨growMask pending m, List.filter_sublist, Eq.symm ?_⟩
    refine List.filter_eq_self.mpr fun h hh => ?_
    simp [hh]
  rcases Nat.lt_or_ge (growMask pending m).length (growMask pending (growMask pending m)).length with longer | same
  · exact .inr longer
  · exact .inl (sub.eq_of_length_le same).symm

theorem growMask_length_le (pending : List PendingField) (m : List Nat) : (growMask pending m).length ≤ 4 :=
  (List.filter_sublist (l := [1, 2, 3, 4])).length_le

/-- Three growths reach every group that four can join. -/
theorem growMask_maskOf (p : PanelCtl) {g : Nat} (range : 1 ≤ g ∧ g ≤ 4) :
    growMask p.pending (p.maskOf g) = p.maskOf g := by
  let m1 := growMask p.pending [g]
  let m2 := growMask p.pending m1
  have held : g ∈ m1 := mem_growMask.mpr ⟨range, .inl List.mem_cons_self⟩
  have one : m1 = [g] ∨ 2 ≤ m1.length := by
    rcases Nat.lt_or_ge m1.length 2 with short | long
    · left
      have pos := List.length_pos_of_mem held
      obtain ⟨x, is⟩ := List.length_eq_one_iff.mp (show m1.length = 1 by omega)
      rw [is] at held ⊢
      rw [List.mem_singleton.mp held]
    · exact .inr long
  have second : growMask p.pending m1 = m1 ∨ 3 ≤ m2.length := by
    rcases one with same | long
    · exact .inl (congrArg (growMask p.pending) same)
    · exact (growMask_grows p.pending [g]).imp_right fun longer => Nat.lt_of_le_of_lt long longer
  have third : growMask p.pending m2 = m2 ∨ 4 ≤ (growMask p.pending m2).length := by
    rcases second with same | long
    · exact .inl (congrArg (growMask p.pending) same)
    · exact (growMask_grows p.pending m1).imp_right fun longer => Nat.lt_of_le_of_lt long longer
  show growMask p.pending (growMask p.pending m2) = growMask p.pending m2
  rcases third with same | long
  · rw [same, same]
  · refine (growMask_grows p.pending m2).resolve_right fun longer => ?_
    have := growMask_length_le p.pending (growMask p.pending m2)
    omega

/-! #### Joined groups -/

/-- A pending field lies in both groups. -/
def PanelCtl.linked (p : PanelCtl) (a b : Nat) : Prop :=
  1 ≤ b ∧ b ≤ 4 ∧ ∃ f ∈ p.pending, a ∈ f.groups ∧ b ∈ f.groups

/-- A group is joined to another by the pending fields. -/
def PanelCtl.joined (p : PanelCtl) (g h : Nat) : Prop := h = g ∨ Relation.TransGen p.linked g h

theorem PanelCtl.joined.tail {p : PanelCtl} {g a b : Nat} (joined : p.joined g a) (link : p.linked a b) :
    p.joined g b :=
  .inr (joined.elim (fun same => .single (same ▸ link)) fun path => path.tail link)

theorem growMask_joined {p : PanelCtl} {g : Nat} {m : List Nat} (joined : ∀ x ∈ m, p.joined g x) :
    ∀ h ∈ growMask p.pending m, p.joined g h := by
  intro h hh
  obtain ⟨⟨low, high⟩, old | ⟨f, hf, inF, x, hx, inM⟩⟩ := mem_growMask.mp hh
  · exact joined h old
  · exact (joined x inM).tail ⟨low, high, f, hf, hx, inF⟩

/-- The mask of a group's partial refresh: all groups that pending fields join to it (R144). -/
theorem PanelCtl.mem_maskOf (p : PanelCtl) {g : Nat} (range : 1 ≤ g ∧ g ≤ 4) (h : Nat) :
    h ∈ p.maskOf g ↔ p.joined g h := by
  constructor
  · have first : ∀ x ∈ [g], p.joined g x := fun x hx => .inl (List.mem_singleton.mp hx)
    exact growMask_joined (growMask_joined (growMask_joined first)) h
  · have start : g ∈ p.maskOf g := by
      refine mem_growMask.mpr ⟨range, .inl (mem_growMask.mpr ⟨range, .inl (mem_growMask.mpr ⟨range, .inl ?_⟩)⟩)⟩
      exact List.mem_cons_self
    have closed {a b : Nat} (mem : a ∈ p.maskOf g) (link : p.linked a b) : b ∈ p.maskOf g := by
      obtain ⟨low, high, f, hf, hx, inF⟩ := link
      rw [← growMask_maskOf p range]
      exact mem_growMask.mpr ⟨⟨low, high⟩, .inr ⟨f, hf, inF, _, hx, mem⟩⟩
    rintro (rfl | path)
    · exact start
    · induction path with
      | single link => exact closed start link
      | tail _ link ih => exact closed ih link

theorem PanelCtl.maskOf_ascending (p : PanelCtl) (g : Nat) : (p.maskOf g).Pairwise (· < ·) := by
  have all : [1, 2, 3, 4].Pairwise (· < ·) := by decide
  exact all.sublist List.filter_sublist

section
variable {e : PanelEnv} {p : PanelCtl} {g : Nat} (range : 1 ≤ g ∧ g ≤ 4)
include range

theorem PanelCtl.startable_iff : p.startable e g = true ↔ ∀ h, p.joined g h → p.gapSamePassed e h = true := by
  simp only [PanelCtl.startable, List.all_eq_true, p.mem_maskOf range]

/-- Two or more groups. -/
theorem PanelCtl.maskOf_several : 2 ≤ (p.maskOf g).length ↔ ∃ h, p.joined g h ∧ h ≠ g := by
  have held : g ∈ p.maskOf g := (p.mem_maskOf range g).mpr (.inl rfl)
  constructor
  · intro several
    refine Classical.byContradiction fun alone => ?_
    have only : ∀ h ∈ p.maskOf g, h = g := fun h hh => by
      refine Classical.byContradiction fun other => ?_
      exact alone ⟨h, (p.mem_maskOf range h).mp hh, other⟩
    have same : p.maskOf g = List.replicate (p.maskOf g).length g := List.eq_replicate_iff.mpr ⟨rfl, only⟩
    have distinct : (p.maskOf g).Nodup := (p.maskOf_ascending g).imp Nat.ne_of_lt
    rw [same, List.nodup_replicate] at distinct
    omega
  · rintro ⟨h, joined, other⟩
    have mem := (p.mem_maskOf range h).mpr joined
    have pair : [g, h].Nodup := by simpa using Ne.symm other
    refine pair.length_le_of_subset fun x hx => ?_
    rcases List.mem_cons.mp hx with rfl | rest
    · exact held
    · rw [List.mem_singleton.mp rest]
      exact mem

end

end Sys2Proof.Machine

/-! ### What the refresh choice starts (R142 to R145) -/

namespace Sys2Proof.Machine

section
variable {e : PanelEnv} {p : PanelCtl}

theorem PartialRequest.before_iff (x y : PartialRequest) : x.before y = true ↔ (x.urgent = true ∧ y.urgent = false) ∨
    (x.urgent = y.urgent ∧ (x.time < y.time ∨ (x.time = y.time ∧ x.group < y.group))) := by
  unfold PartialRequest.before
  cases x.urgent <;> cases y.urgent
  · by_cases time : x.time = y.time <;> simp [time]
  · simp
  · simp
  · by_cases time : x.time = y.time <;> simp [time]

theorem PartialRequest.before_false (x y : PartialRequest) : x.before y = false ↔
    ¬((x.urgent = true ∧ y.urgent = false) ∨
      (x.urgent = y.urgent ∧ (x.time < y.time ∨ (x.time = y.time ∧ x.group < y.group)))) := by
  rw [← PartialRequest.before_iff, Bool.not_eq_true]

theorem PanelCtl.defersPartial_false (p : PanelCtl) (r : PartialRequest) : p.defersPartial r = false ↔
    ((p.quiet = true ∧ p.level.emergency = false) → r.urgent = true ∨ r.exempt = true) := by
  unfold PanelCtl.defersPartial PanelCtl.quietDefers
  cases p.quiet <;> cases p.level.emergency <;> cases r.urgent <;> cases r.exempt <;> decide

/-- A request that may be served now. -/
def PanelCtl.servable (e : PanelEnv) (p : PanelCtl) (r : PartialRequest) : Prop :=
  r ∈ p.partials ∧ p.defersPartial r = false ∧ p.startable e r.group = true

theorem PanelCtl.mem_servable {r : PartialRequest} :
    r ∈ p.partials.filter (fun r => !p.defersPartial r && p.startable e r.group) ↔ p.servable e r := by
  simp [List.mem_filter, PanelCtl.servable]

/-- The group that is served is that of every first request (R144 step 5). -/
theorem PanelCtl.choosePartial_first {r : PartialRequest} (servable : p.servable e r)
    (first : ∀ x, p.servable e x → (r.urgent = true ∧ x.urgent = false) ∨ (r.urgent = x.urgent ∧
      (r.time < x.time ∨ (r.time = x.time ∧ r.group ≤ x.group)))) :
    p.choosePartial e = some (.partials (p.maskOf r.group) (p.maskUrgent (p.maskOf r.group))) := by
  have total (x y : PartialRequest) (h : x.before y = true) : y.before x = false := by
    rw [PartialRequest.before_iff] at h
    rw [PartialRequest.before_false]
    cases hx : x.urgent <;> cases hy : y.urgent <;> simp [hx, hy] at h ⊢ <;> omega
  have irrefl (x : PartialRequest) : x.before x = false := by
    rw [PartialRequest.before_false]
    cases x.urgent <;> simp
  have trans (x y z : PartialRequest) (h : y.before x = false) (k : z.before y = false) : z.before x = false := by
    rw [PartialRequest.before_false] at h k ⊢
    cases hx : x.urgent <;> cases hy : y.urgent <;> cases hz : z.urgent <;> simp [hx, hy, hz] at h k ⊢ <;> omega
  unfold PanelCtl.choosePartial
  split
  · next none => exact absurd (leastBy_none none ▸ PanelCtl.mem_servable.mpr servable) List.not_mem_nil
  · next x chosen =>
    have mine := first x (PanelCtl.mem_servable.mp (leastBy_mem chosen))
    have least := leastBy_least total irrefl trans chosen r (PanelCtl.mem_servable.mpr servable)
    rw [PartialRequest.before_false] at least
    have group : x.group = r.group := by
      rcases mine with ⟨urgent, calm⟩ | ⟨same, order⟩
      · exact absurd (.inl ⟨urgent, calm⟩) least
      · have later : ¬(r.time < x.time ∨ (r.time = x.time ∧ r.group < x.group)) := fun h => least (.inr ⟨same, h⟩)
        omega
    rw [group]

theorem PanelCtl.choosePartial_nothing (none : ∀ r, ¬p.servable e r) : p.choosePartial e = .none := by
  refine PanelCtl.choosePartial_none fun r hr => ?_
  refine Classical.byContradiction fun h => ?_
  simp only [not_or, Bool.not_eq_true, Bool.not_eq_false] at h
  exact none r ⟨hr, h⟩

theorem PanelCtl.converts_iff (range : ∀ r ∈ p.partials, 1 ≤ r.group ∧ r.group ≤ 4) : p.converts e = true ↔
    ∃ r ∈ p.partials, r.urgent = true ∧ (∃ h, p.joined r.group h ∧ h ≠ r.group) ∧
      ¬∀ h, p.joined r.group h → p.gapSamePassed e h = true := by
  simp only [PanelCtl.converts, List.any_eq_true, Bool.and_eq_true, decide_eq_true_eq, Bool.not_eq_true']
  refine exists_congr fun r => and_congr_right fun hr => ?_
  rw [PanelCtl.maskOf_several (range r hr), ← PanelCtl.startable_iff (range r hr), Bool.not_eq_true, and_assoc]

theorem PanelCtl.startFull_forced {r : FullRequest} (full : p.full = some r) (urgent : Bool) :
    (p.startFull e urgent).forcedFullRefreshes =
      if r.forced then bump p.forcedFullRefreshes else p.forcedFullRefreshes := by
  cases p; cases full; rfl

theorem PanelCtl.startFull_unforced (none : p.full = none) (urgent : Bool) :
    (p.startFull e urgent).forcedFullRefreshes = p.forcedFullRefreshes := by
  cases p; cases none; rfl

theorem raiseGroups_get {now : Nat} {mask : List Nat} {groups : List GroupRecord} {i : Nat} {g : GroupRecord}
    (held : groups[i]? = some g) : (raiseGroups now mask groups)[i]? =
      some (if i + 1 ∈ mask then ⟨g.partialCount + 1, some now⟩ else g) := by
  rw [raiseGroups, List.getElem?_mapIdx, held]
  simp

theorem forceFull_reached {limit : Nat} {groups : List GroupRecord} (full : Option FullRequest) {g : GroupRecord}
    (held : g ∈ groups) (reached : limit ≤ g.partialCount) :
    forceFull limit groups full = some (full.elim ⟨false, true⟩ fun r => { r with forced := true }) := by
  have any : groups.any (fun g => decide (limit ≤ g.partialCount)) = true :=
    List.any_eq_true.mpr ⟨g, held, decide_eq_true reached⟩
  unfold forceFull
  rw [if_pos any]
  cases full <;> rfl

theorem forceFull_below {limit : Nat} {groups : List GroupRecord} (full : Option FullRequest)
    (below : ∀ g ∈ groups, g.partialCount < limit) : forceFull limit groups full = full := by
  have none : ¬groups.any (fun g => decide (limit ≤ g.partialCount)) = true := by simpa using below
  exact if_neg none

theorem PanelCtl.maskUrgent_iff (p : PanelCtl) (mask : List Nat) : p.maskUrgent mask = true ↔
    ∃ x ∈ p.partials, x.urgent = true ∧ x.group ∈ mask := by
  simp [PanelCtl.maskUrgent]

theorem PendingField.within_eq (mask : List Nat) (f : PendingField) :
    f.within mask = decide (∀ g ∈ f.groups, g ∈ mask) := by
  rw [Bool.eq_iff_iff]
  simp [PendingField.within]

end

/-- Settles O56: each of the commands is a test of the choice, which the requests decide. -/
theorem refreshStarts : Obligations.RefreshStarts := by
  unfold Obligations.RefreshStarts
  intro c s loaded paper idle low gap command range cfg counting quieted linked joined startable ready first converted
    partialsOpen
  have work : s.panelAtWork = true := State.panelAtWork_of loaded
  have test : s.panel.atTest s.panelEnv := ⟨paper, idle, low, gap⟩
  let t := s.panelDo fun e p => p.tryChoice e
  have runs : exec c s = .next t := by
    rcases command with rfl | rfl | ⟨g, rfl, passed⟩
    · exact congrArg Host.Outcome.next (if_pos work)
    · have pruned : (s.panelDo fun e p => (p.pruneWindow e).tryChoice e) = t :=
        congrArg (fun q => ({ s with panel := q } : State)) (PanelCtl.tryChoice_prune test)
      exact congrArg Host.Outcome.next ((if_pos work).trans pruned)
    · have tests : (s.panelDo fun e p => if p.gapSamePassed e (g.val + 1) then p.tryChoice e else p) = t :=
        congrArg (fun q => ({ s with panel := q } : State)) (if_pos passed)
      exact congrArg Host.Outcome.next ((if_pos work).trans tests)
  refine ⟨t, runs, s.panelDo_changes _, ?_⟩
  intro fullStarts nothing
  have count : s.panel.windowCount s.panelEnv = counting.length := rfl
  have rests (none : s.panel.choose s.panelEnv = none) : nothing := PanelCtl.tryChoice_none test none
  have begins {urgent : Bool} (some_ : s.panel.choose s.panelEnv = some (.full urgent)) {forced : Bool}
      (forces : ((s.panel.pruneWindow s.panelEnv).startFull s.panelEnv urgent).forcedFullRefreshes =
        if forced then bump s.panel.forcedFullRefreshes else s.panel.forcedFullRefreshes) : fullStarts urgent forced := by
    have is : t.panel = (s.panel.pruneWindow s.panelEnv).startFull s.panelEnv urgent := PanelCtl.tryChoice_full test some_
    show _ ∧ _
    rw [is]
    exact ⟨rfl, rfl, rfl, rfl, rfl, rfl, rfl, rfl, forces, _, rfl, rfl, PanelCtl.fullLoad_nums _⟩
  have converts : s.panel.converts s.panelEnv = true ↔ ∃ r ∈ s.panel.partials, r.urgent = true ∧
      (∃ h, joined r.group h ∧ h ≠ r.group) ∧ ¬startable r.group := PanelCtl.converts_iff range
  have servable (r : PartialRequest) : s.panel.servable s.panelEnv r ↔ ready r := by
    refine and_congr_right fun hr => and_congr (PanelCtl.defersPartial_false _ _) (PanelCtl.startable_iff (range r hr))
  have choice (isOpen : partialsOpen) : s.panel.choose s.panelEnv = s.panel.choosePartial s.panelEnv := by
    rcases isOpen with ⟨none, stays⟩ | ⟨r, full, calm, unforced, quiet⟩
    · exact PanelCtl.choose_partial none fun ⟨room, conv⟩ => stays ⟨none, room, converts.mp conv⟩
    · exact PanelCtl.choose_deferred full ((PanelCtl.defersFull_iff _ r).mpr ⟨quiet, calm, unforced⟩)
  refine ⟨fun r full urgent => ⟨fun room => ?_, fun closed => ?_⟩, fun r full calm kept => ⟨fun room => ?_, fun closed => ?_⟩,
    fun ⟨absent, room, request⟩ => ?_, fun r isOpen isFirst => ?_, fun isOpen none => ?_⟩
  · exact begins (PanelCtl.choose_urgent full urgent room) (PanelCtl.startFull_forced (p := s.panel.pruneWindow s.panelEnv) full true)
  · exact rests (PanelCtl.choose_urgent_waits full urgent closed)
  · refine begins (PanelCtl.choose_calm full calm ?_ room)
      (PanelCtl.startFull_forced (p := s.panel.pruneWindow s.panelEnv) full false)
    rw [← Bool.not_eq_true (s.panel.defersFull r), PanelCtl.defersFull_iff]
    by_cases forced : r.forced = true
    · exact .inl forced
    · exact .inr fun ⟨quiet, _, _⟩ => forced (kept quiet)
  · refine rests (PanelCtl.choose_calm_waits full calm ?_ closed)
    rw [← Bool.not_eq_true, PanelCtl.defersFull_iff]
    exact fun ⟨quiet, _, unforced⟩ => Bool.false_ne_true (unforced.symm.trans (kept quiet))
  · exact begins (PanelCtl.choose_converts absent room (converts.mpr request))
      (PanelCtl.startFull_unforced (p := s.panel.pruneWindow s.panelEnv) absent true)
  · have group : 1 ≤ r.group ∧ r.group ≤ 4 := range r isFirst.1.1
    let mask := s.panel.maskOf r.group
    have chosen := (choice isOpen).trans (PanelCtl.choosePartial_first ((servable r).mpr isFirst.1)
      fun x h => isFirst.2 x ((servable x).mp h))
    have is : t.panel = (s.panel.pruneWindow s.panelEnv).startPartial s.panelEnv mask (s.panel.maskUrgent mask) :=
      PanelCtl.tryChoice_partials test chosen
    refine ⟨mask, s.panel.maskOf_ascending _, s.panel.mem_maskOf group, ?_⟩
    intro carried
    have within : PendingField.within mask = carried := funext fun f => f.within_eq mask
    rw [is]
    refine ⟨rfl, rfl, s.panel.maskUrgent_iff mask, ?_, ?_, fun i g held => raiseGroups_get held, ?_, fun below => ?_, rfl, ?_⟩
    · refine List.filter_congr fun x _ => ?_
      simp
    · rw [← within]
      rfl
    · rintro ⟨i, g, -, held, reached⟩
      refine (forceFull_reached s.panel.full (List.mem_of_getElem? held) reached).trans (congrArg some ?_)
      cases s.panel.full <;> rfl
    · exact forceFull_below s.panel.full below
    · refine ⟨_, rfl, rfl, ?_⟩
      rw [← within]
      show ((s.panel.pending.filter (PendingField.within mask)).map fun f => (s.panel.recordOf f.num).toLoad).map
        (fun x : LoadRecord => x.num) = _
      rw [List.map_map]
      exact List.map_congr_left fun f _ => s.panel.recordOf_num f.num
  · exact rests ((choice isOpen).trans (PanelCtl.choosePartial_nothing fun r h => none r ((servable r).mp h)))

end Sys2Proof.Machine

/-! ### The tests of an image and CONFIG_FAULT (R152, R170, R171, R181) -/

namespace Sys2Proof.Machine

/-- More than n entries, as n + 1 distinct ones among them. -/
theorem lt_length_iff_sublist {l : List Nat} (nodup : l.Nodup) (n : Nat) :
    n < l.length ↔ ∃ k : List Nat, k.Nodup ∧ k.length = n + 1 ∧ ∀ x ∈ k, x ∈ l := by
  constructor
  · exact fun long => ⟨l.take (n + 1), nodup.sublist (List.take_sublist _ _), by rw [List.length_take]; omega,
      fun x h => List.mem_of_mem_take h⟩
  · rintro ⟨k, distinct, length, sub⟩
    exact Nat.lt_of_lt_of_le (by omega) (distinct.length_le_of_subset sub)

section
variable (image : List Byte)

theorem imageCheckGood_iff (whole : image.length = 496) : imageCheckGood image = true ↔
    ((List.range 247).map (fun i => imageWord image (2 * i))).sum % 65536 = imageWord image 494 := by
  unfold imageCheckGood
  rw [decide_eq_true_iff, ← wordSum_take 247 image (by omega)]

theorem readImage_checkFailed_iff : readImage image = .checkFailed ↔ imageCheckGood image = false := by
  unfold readImage
  generalize readConfig image 0 = read
  obtain ⟨config, clamps⟩ := read
  cases imageCheckGood image with
  | false => exact ⟨fun _ => rfl, fun _ => rfl⟩
  | true =>
    refine ⟨fun h => ?_, nofun⟩
    rw [if_pos rfl] at h
    split at h
    · dsimp only at h
      split at h <;> exact nomatch h
    · exact nomatch h

theorem readConfig_fst : (readConfig image 0).1 = imageCopy image := congrArg Prod.fst (readConfig_gives image 0)

theorem readImage_structuralError_iff : readImage image = .structuralError ↔ imageCheckGood image = true ∧
    (structureGood image = false ∨ 64 < (tallyCabins (imageCopy image).sweepRanges).length) := by
  rw [← readConfig_fst]
  unfold readImage
  generalize readConfig image 0 = read
  obtain ⟨config, clamps⟩ := read
  cases imageCheckGood image with
  | false => exact ⟨nofun, fun h => nomatch h.1⟩
  | true =>
    rw [if_pos rfl]
    cases structureGood image with
    | false => exact ⟨fun _ => ⟨rfl, .inl rfl⟩, fun _ => rfl⟩
    | true =>
      rw [if_pos rfl]
      dsimp only
      split
      · next few => exact ⟨nofun, fun h => absurd (h.2.resolve_left nofun) (Nat.not_lt.mpr few)⟩
      · next many => exact ⟨fun _ => ⟨rfl, .inr (Nat.lt_of_not_le many)⟩, fun _ => rfl⟩

theorem structureGood_false_iff : structureGood image = false ↔ 6 < imageOctet image 7 ∨ 2 < imageOctet image 8 ∨
    16 < imageOctet image 9 ∨ 4 < imageOctet image 10 ∨ 2 < imageOctet image 11 ∨ imageWord image 0 = 0 ∨
    4095 < imageWord image 0 := by
  rw [← Bool.not_eq_true]
  simp only [structureGood, Bool.and_eq_true, decide_eq_true_eq]
  omega

/-- The roles that use the sweep ranges have the codes 0 and 1 (R172). -/
theorem imageRole_ranged_iff : (imageRole image).ranged = true ↔ imageOctet image 4 ≤ 1 := by
  unfold imageRole
  generalize imageOctet image 4 = code
  match code with
  | 0 => exact ⟨fun _ => by omega, fun _ => rfl⟩
  | 1 => exact ⟨fun _ => by omega, fun _ => rfl⟩
  | 2 => exact ⟨nofun, by omega⟩
  | n + 3 =>
    have top : clamped 0 3 (n + 3) = 3 := by simp [clamped]
    rw [top]
    exact ⟨nofun, by omega⟩

/-- A cabin in one of the sweep ranges as clamped. -/
def rangeHolds (n : Nat) : Prop := ∃ i < imageOctet image 11, (rangeCopy image i).1 ≤ n ∧ n ≤ (rangeCopy image i).2

theorem sweepRanges_ranged (ranged : imageOctet image 4 ≤ 1) :
    (imageCopy image).sweepRanges = (List.range (imageOctet image 11)).map (rangeCopy image) :=
  if_pos ((imageRole_ranged_iff image).mpr ranged)

theorem sweepRanges_unranged (other : ¬imageOctet image 4 ≤ 1) : (imageCopy image).sweepRanges = [] :=
  if_neg (mt (imageRole_ranged_iff image).mp other)

theorem sweepRanges_length_le (few : imageOctet image 11 ≤ 2) : (imageCopy image).sweepRanges.length ≤ 2 := by
  by_cases ranged : imageOctet image 4 ≤ 1
  · rwa [sweepRanges_ranged image ranged, List.length_map, List.length_range]
  · rw [sweepRanges_unranged image ranged]
    exact Nat.zero_le _

theorem sweepRanges_ordered : ∀ r ∈ (imageCopy image).sweepRanges, r.1 ≤ r.2 := by
  intro r held
  by_cases ranged : imageOctet image 4 ≤ 1
  · rw [sweepRanges_ranged image ranged] at held
    obtain ⟨i, -, rfl⟩ := List.mem_map.mp held
    exact Nat.le_trans (Nat.min_le_left _ _) (Nat.le_max_left _ _)
  · rw [sweepRanges_unranged image ranged] at held
    exact absurd held (List.not_mem_nil)

theorem tallyCabins_image_spec (few : imageOctet image 11 ≤ 2) : (tallyCabins (imageCopy image).sweepRanges).Nodup ∧
    ∀ n, n ∈ tallyCabins (imageCopy image).sweepRanges ↔ ∃ r ∈ (imageCopy image).sweepRanges, r.1 ≤ n ∧ n ≤ r.2 :=
  tallyCabins_spec _ (sweepRanges_length_le image few) (sweepRanges_ordered image)

theorem tallyCabins_over_iff (few : imageOctet image 11 ≤ 2) :
    64 < (tallyCabins (imageCopy image).sweepRanges).length ↔ imageOctet image 4 ≤ 1 ∧
      ∃ l : List Nat, l.Nodup ∧ l.length = 65 ∧ ∀ n ∈ l, rangeHolds image n := by
  obtain ⟨nodup, mem⟩ := tallyCabins_image_spec image few
  rw [lt_length_iff_sublist nodup]
  simp only [mem]
  by_cases ranged : imageOctet image 4 ≤ 1
  · simp only [sweepRanges_ranged image ranged, exists_mem_map_iff, List.mem_range, ranged, true_and, rangeHolds]
  · rw [sweepRanges_unranged image ranged]
    constructor
    · rintro ⟨l, -, length, held⟩
      cases l with
      | nil => exact nomatch length
      | cons n l =>
        obtain ⟨r, none, -⟩ := held n (List.mem_cons_self)
        exact absurd none (List.not_mem_nil)
    · exact fun h => absurd h.1 ranged

theorem faultBitRate_eq : faultBitRate image = if imageOctet image 6 = 1 then .kbit250 else .kbit125 := by
  unfold faultBitRate
  match imageOctet image 6 with
  | 0 => rfl
  | 1 => rfl
  | n + 2 =>
    rw [if_neg (show ¬n + 2 ≤ 1 by omega), if_neg (show n + 2 ≠ 1 by omega)]

end

theorem State.finishPage_luminance (s : State) (set : Bool) (cause : PageCause) :
    (s.finishPage set cause).panel.luminance = s.panel.luminance := by
  obtain ⟨-, -, -, luminance, -⟩ :=
    (s.pageDo (fun p => p.select s.arbiter s.dwellFrom set)).handOver_side cause
  exact luminance

/-- Entry to CONFIG_FAULT (R152, R171, R181). -/
theorem State.entersConfigFault_gives (s : State) (image : List Byte) (good : Bool) :
    (s.entersConfigFault image good).start =
        { s.start with lifecycle := .configFault, configGood := some good } ∧
      (s.entersConfigFault image good).ports =
        { s.ports with a := { s.ports.a with inUse := true, bitRate := some (faultBitRate image) } } ∧
      (s.entersConfigFault image good).page.selected = .fallback ∧
      (s.entersConfigFault image good).ind = { s.ind with fault := true } ∧
      (s.panel.kind = .lit → (s.entersConfigFault image good).panel.luminance = 800) := by
  let b := s.startDo fun b => { b with lifecycle := .configFault, configGood := some good }
  let u := (b.usePort .a (faultBitRate image)).panelDo fun _ p => p.enterConfigFault
  have ends : s.entersConfigFault image good = (u.finishPage false .other).updateFault := rfl
  have only := u.finishPage_changes false .other
  have start : (u.finishPage false .other).start = u.start := only .start (by decide)
  have ports : (u.finishPage false .other).ports = u.ports := only .ports (by decide)
  have ind : (u.finishPage false .other).ind = u.ind := only .ind (by decide)
  rw [ends]
  refine ⟨start, ports, ?_, ?_, fun lit => ?_⟩
  · have stopped : (u.finishPage false .other).running = false := by
      rw [State.running, start]
      rfl
    have shown := (u.finishPage_shown false .other).1
    unfold State.arbiter at shown
    rw [if_pos stopped] at shown
    exact shown
  · have faulty : (u.finishPage false .other).faultCondition = true := by
      rw [State.faultCondition, start]
      rfl
    rw [State.updateFault_ind, faulty, ind]
    rfl
  · refine (u.finishPage_luminance false .other).trans ?_
    show (PanelCtl.enterConfigFault s.panel).luminance = 800
    unfold PanelCtl.enterConfigFault
    rw [lit]

theorem State.imageReadEnds_bad {s : State} {image : List Byte} (loading : s.start.lifecycle = .loading)
    (whole : image.length = 496) {good : Bool}
    (bad : readImage image = if good then .structuralError else .checkFailed) :
    s.imageReadEnds image = s.entersConfigFault image good := by
  unfold State.imageReadEnds
  have all : image.take imageLength = image := List.take_of_length_le (Nat.le_of_eq whole)
  rw [if_pos ⟨loading, Nat.le_of_eq whole.symm⟩, all, bad]
  cases good <;> rfl

/-- Settles O6: the two tests by the definition of the image read, and entry to CONFIG_FAULT. -/
theorem badImageFaults : Obligations.BadImageFaults := by
  unfold Obligations.BadImageFaults
  intro image s whole o w passes cabin held structural
  have check : imageCheckGood image = true ↔ passes := imageCheckGood_iff image whole
  have failed : readImage image = .checkFailed ↔ ¬passes := by
    rw [readImage_checkFailed_iff, ← check, Bool.not_eq_true]
  have wrong : readImage image = .structuralError ↔ passes ∧ structural := by
    rw [readImage_structuralError_iff, check]
    refine and_congr_right fun _ => ?_
    by_cases few : imageOctet image 11 ≤ 2
    · rw [structureGood_false_iff, tallyCabins_over_iff image few]
      simp only [or_assoc]
      exact Iff.rfl
    · have many := Nat.lt_of_not_le few
      exact iff_of_true (.inl ((structureGood_false_iff image).mpr (.inr (.inr (.inr (.inr (.inl many)))))))
        (.inr (.inr (.inr (.inr (.inl many)))))
  refine ⟨failed, wrong, fun loading bad => ?_⟩
  have result : readImage image = if decide passes then .structuralError else .checkFailed := by
    by_cases good : passes
    · rw [decide_eq_true good]
      exact wrong.mpr ⟨good, bad.resolve_left (not_not_intro good)⟩
    · rw [decide_eq_false good]
      exact failed.mpr good
  obtain ⟨start, ports, selected, ind, lit⟩ := s.entersConfigFault_gives image (decide passes)
  refine ⟨s.entersConfigFault image (decide passes),
    congrArg Host.Outcome.next (State.imageReadEnds_bad loading whole result), start, ?_, ?_, selected, ?_, ?_, lit,
    s.entersConfigFault_changes image _⟩
  · rw [ports, faultBitRate_eq]
    rfl
  · rw [ports]
  · rw [ind]
  · rw [ind]

end Sys2Proof.Machine

/-! ### Entry to LISTENING (R4, R79, R92, R108, R120, R152, R173) -/

namespace Sys2Proof.Machine

/-! #### A re-evaluation that changes nothing -/

theorem needsMark_self (threshold : Nat) (e : RouteEntry) : needsMark threshold e e = false := by
  rw [← Bool.not_eq_true, needsMark_iff]
  rintro (⟨reached, lost⟩ | ⟨lost, reached⟩ | ⟨-, -, moved | ⟨moved, -⟩⟩)
  · rw [reached] at lost
    exact lost.elim nofun nofun
  · rw [reached] at lost
    exact lost.elim nofun nofun
  · exact moved rfl
  · exact moved rfl

theorem replaceEntry_self {t : List RouteEntry} (order : destOrdered t) {e : RouteEntry} (held : e ∈ t) :
    replaceEntry e t = t := by
  refine (List.map_congr_left fun x hx => ?_).trans (List.map_id t)
  split
  · next same => exact (destOrdered.unique order hx held same).symm
  · rfl

theorem State.reevaluate_still {s : State} (order : destOrdered s.route.entries)
    (still : ∀ e ∈ s.route.entries, s.reevaluated e = e) (d : Nat) : s.reevaluate d = s := by
  cases held : s.routeEntry d with
  | none => exact State.reevaluate_absent held
  | some e =>
    have mem : e ∈ s.route.entries := List.mem_of_find?_eq_some held
    have uncounted : s.countHoldDown e e = s := by
      refine if_neg ?_
      rintro ⟨reached, down⟩
      exact nomatch reached.symm.trans down
    unfold State.reevaluate
    rw [held]
    dsimp only
    rw [still e mem, uncounted, State.storeEntry, needsMark_self, if_neg Bool.false_ne_true,
      State.routeDo, replaceEntry_self order mem]

theorem State.reevaluateAllEvent_still {s : State} (order : destOrdered s.route.entries)
    (still : ∀ e ∈ s.route.entries, s.reevaluated e = e) : s.reevaluateAllEvent = s := by
  have all (l : List Nat) : l.foldl State.reevaluate s = s := by
    induction l with
    | nil => rfl
    | cons d l ih => rw [List.foldl_cons, State.reevaluate_still order still, ih]
  unfold State.reevaluateAllEvent State.reevaluateAll
  rw [all]
  exact State.routeNotices_same rfl

/-! #### The pinned entries (R4) -/

theorem State.candidateAt_empty (s : State) (n : Nat) : s.candidateAt (List.replicate 6 Cell.empty) n = none := by
  unfold State.candidateAt
  split
  · next l c _ cell =>
      have empty : c = Cell.empty := List.eq_of_mem_replicate (List.mem_of_getElem? cell)
      rw [empty]
      rfl
  · rfl

theorem State.reevaluated_fresh (s : State) (dest : Nat) (kind : DestKind) (pinned : Bool) (now : Nat) :
    s.reevaluated (.fresh dest kind pinned now) = .fresh dest kind pinned now := by
  have none : s.bestRoute (List.replicate 6 Cell.empty) (fun _ => true) = none :=
    State.bestRoute_eq_none fun n _ => s.candidateAt_empty n
  rw [State.reevaluated_unreachable rfl]
  exact congrArg (Option.elim · _ _) none

theorem State.reevaluated_pinned (s : State) (cfg : ConfigCopy) (now dest : Nat) :
    s.reevaluated (pinnedEntry cfg now dest) = pinnedEntry cfg now dest := by
  unfold pinnedEntry
  split
  · rfl
  · split <;> exact s.reevaluated_fresh _ _ _ _

/-- The table on entry to LISTENING (R4). -/
def pinnedEntries (cfg : ConfigCopy) (now : Nat) : List RouteEntry := (pinnedIds cfg).map (pinnedEntry cfg now)

theorem pinnedEntries_ordered (cfg : ConfigCopy) (now : Nat) : destOrdered (pinnedEntries cfg now) := by
  refine List.pairwise_map.mpr ((ascending_pairwise _).imp fun {x y} lt => ?_)
  rwa [pinnedEntry_dest, pinnedEntry_dest]

theorem State.routeEntersListening_eq (s : State) : s.routeEntersListening =
    s.routeDo fun r => { r with entries := pinnedEntries s.cfg s.clock } := by
  refine State.reevaluateAllEvent_still (pinnedEntries_ordered _ _) fun e held => ?_
  obtain ⟨d, -, rfl⟩ := List.mem_map.mp held
  exact State.reevaluated_pinned _ _ _ _

theorem mem_pinnedIds (cfg : ConfigCopy) (d : Nat) : d ∈ pinnedIds cfg ↔
    (∃ x ∈ cfg.anchored, x.dest = d) ∨ (∃ x ∈ cfg.labels, x.dest = d) ∨ ∃ x ∈ cfg.signposted, x.dest = d := by
  unfold pinnedIds
  rw [mem_ascending, List.mem_append, List.mem_append, List.mem_map, List.mem_map, List.mem_map, or_assoc]

theorem pinnedEntries_dest (cfg : ConfigCopy) (now d : Nat) :
    (∃ e ∈ pinnedEntries cfg now, e.dest = d) ↔ d ∈ pinnedIds cfg := by
  constructor
  · rintro ⟨e, held, rfl⟩
    obtain ⟨d, mem, rfl⟩ := List.mem_map.mp held
    rwa [pinnedEntry_dest]
  · exact fun mem => ⟨_, List.mem_map_of_mem mem, pinnedEntry_dest cfg now d⟩

theorem pinnedEntry_shape (cfg : ConfigCopy) (now d : Nat) :
    (pinnedEntry cfg now d).pinned = true ∧ (pinnedEntry cfg now d).cells = List.replicate 6 Cell.empty := by
  unfold pinnedEntry
  split
  · exact ⟨rfl, rfl⟩
  · split <;> exact ⟨rfl, rfl⟩

theorem pinnedEntry_anchored {cfg : ConfigCopy} {d : Nat} (anchored : ∃ x ∈ cfg.anchored, x.dest = d) (now : Nat) :
    (pinnedEntry cfg now d).state = .anchor ∧ (pinnedEntry cfg now d).cost = 0 := by
  unfold pinnedEntry
  split
  · exact ⟨rfl, rfl⟩
  · next absent =>
      obtain ⟨x, mem, same⟩ := anchored
      exact absurd (beq_iff_eq.mpr same) (List.find?_eq_none.mp absent x mem)

theorem pinnedEntry_unanchored {cfg : ConfigCopy} {d : Nat} (other : ∀ x ∈ cfg.anchored, x.dest ≠ d) (now : Nat) :
    (pinnedEntry cfg now d).state = .unreachable ∧ (pinnedEntry cfg now d).cost = 65535 ∧
      (pinnedEntry cfg now d).unreachableSince = some now := by
  unfold pinnedEntry
  split
  · next x found =>
      have same := List.find?_some found
      exact absurd (beq_iff_eq.mp same) (other x (List.mem_of_find?_eq_some found))
  · split <;> exact ⟨rfl, rfl, rfl⟩

theorem pinnedEntry_kind (cfg : ConfigCopy) (now d : Nat) : (pinnedEntry cfg now d).kind =
    match cfg.anchored.find? (fun x => x.dest == d) with
    | some x => x.kind
    | none => match cfg.labels.find? (fun x => x.dest == d) with
      | some x => x.kind
      | none => .venue := by
  unfold pinnedEntry
  generalize cfg.anchored.find? (fun x => x.dest == d) = anchor
  generalize cfg.labels.find? (fun x => x.dest == d) = label
  cases anchor with
  | some x => rfl
  | none => cases label <;> rfl

/-! #### The tally (R92) -/

theorem tallyCabins_ascending : ∀ l : List (Nat × Nat), l.length ≤ 2 → (∀ r ∈ l, r.1 ≤ r.2) →
    (tallyCabins l).Pairwise (· < ·)
  | [], _, _ => .nil
  | [r], _, _ => List.pairwise_lt_range'
  | [r, q], _, _ => by
    unfold tallyCabins
    refine List.pairwise_append.mpr ⟨List.pairwise_lt_range', List.pairwise_lt_range', fun x hx y hy => ?_⟩
    rw [mem_rangeCabins] at hx hy
    have above := hy.1
    dsimp only at above
    omega
  | _ :: _ :: _ :: _, h, _ => by simp at h

theorem formTally_none {cfg : ConfigCopy}
    (unused : cfg.role = .cabin ∨ cfg.role = .assembly ∨ cfg.sweepRanges = []) : formTally cfg = none := by
  unfold formTally
  rcases unused with role | role | empty
  · rw [role]
  · rw [role]
  · rw [if_pos empty]
    cases cfg.role <;> rfl

theorem formTally_some {cfg : ConfigCopy} (used : cfg.role = .corridor ∨ cfg.role = .stair)
    (held : cfg.sweepRanges ≠ []) :
    formTally cfg = some ((tallyCabins cfg.sweepRanges).map fun c => (⟨c, .idle⟩ : TallyEntry)) := by
  unfold formTally
  rw [if_neg held]
  rcases used with role | role <;> rw [role]

/-! #### The whole entry -/

theorem PanelCtl.retarget_dayLevel (e : PanelEnv) (p : PanelCtl) : (p.retarget e).dayLevel = p.dayLevel := by
  unfold PanelCtl.retarget
  split <;> rfl

theorem State.finishPage_dayLevel (s : State) (set : Bool) (cause : PageCause) :
    (s.finishPage set cause).panel.dayLevel = s.panel.dayLevel := by
  obtain ⟨-, -, -, -, -, -, -, dayLevel, -⟩ :=
    (s.pageDo (fun p => p.select s.arbiter s.dwellFrom set)).handOver_side cause
  exact dayLevel

/-- The first page of a running node at rest (R121). -/
theorem State.finishPage_first {s : State} (running : s.running = true) (level : s.page.level = .normal)
    (spot : s.page.spotItem = none) (rotation : s.page.rotation = .route) (cause : PageCause) :
    (s.finishPage false cause).page.selected = if s.cfg.role = .cabin then .cabin else .rotation .route := by
  have arbiter : s.arbiter = if s.cfg.role = .cabin then .cabin else .rotation .route := by
    unfold State.arbiter
    rw [running, level, spot, rotation]
    rfl
  obtain ⟨h, n, page⟩ := s.finishPage_page false cause
  rw [page, arbiter]
  unfold PageSelector.select
  split
  · rfl
  · split
    · split <;> rfl
    · next rotates => exact absurd rfl rotates

theorem State.portsEnterListening_ports (s : State) : s.portsEnterListening.ports =
    { a := { s.ports.a with inUse := true, bitRate := some s.cfg.bitRate }
      b := if s.cfg.bothPorts then { s.ports.b with inUse := true, bitRate := some s.cfg.bitRate } else s.ports.b } := by
  unfold State.portsEnterListening
  cases s.cfg.bothPorts <;> rfl

section
variable (u : State)

/-- The route engine, the cabin unit, the trigger unit, the panel controller and the rotation enter LISTENING. -/
def State.listened : State :=
  (((u.routeEntersListening.cabinEntersListening).triggerEntersListening).panelDo
    fun e p => p.enterListening e).pageDo fun p => { p with rotation := .route }

theorem State.listened_eq : u.listened =
    ((((u.routeDo fun r => { r with entries := pinnedEntries u.cfg u.clock }).cabinEntersListening
      ).triggerEntersListening).panelDo fun e p => p.enterListening e).pageDo
        fun p => { p with rotation := .route } := by
  rw [State.listened, State.routeEntersListening_eq]

theorem State.listened_changes : OnlyChanges [.route, .cabin, .trig, .page, .panel] u u.listened := by
  rw [State.listened_eq]
  refine OnlyChanges.trans ?_ (State.pageDo_changes _ _).widen
  refine OnlyChanges.trans ?_ (State.panelDo_changes _ _).widen
  refine OnlyChanges.trans ?_ (State.triggerEntersListening_changes _).widen
  refine OnlyChanges.trans ?_ (State.cabinEntersListening_changes _).widen
  exact (u.routeDo_changes _).widen

theorem State.listened_cfg : u.listened.cfg = u.cfg := u.listened_changes.cfg_eq (by decide)

theorem State.listened_running : u.listened.running = u.running := u.listened_changes.running_eq (by decide)

theorem State.listened_entries : u.listened.route.entries = pinnedEntries u.cfg u.clock := by
  rw [State.listened_eq]
  rfl

theorem State.listened_cabin : u.listened.cabin = { u.cabin with
    lines := u.cfg.lines.mapIdx fun n c => loadLine c (u.pins.lines.getD n true)
    tally := formTally u.cfg } := by
  rw [State.listened_eq]
  rfl

theorem State.listened_sets : u.listened.trig.sets = u.cfg.triggers.map loadSet := by
  rw [State.listened_eq]
  rfl

theorem State.listened_dayLevel : u.listened.panel.dayLevel = u.cfg.panel.dayLevel := by
  rw [State.listened_eq]
  exact PanelCtl.retarget_dayLevel _ _

theorem State.listened_page : u.listened.page = { u.page with rotation := .route } := by
  rw [State.listened_eq]
  rfl

end

theorem State.entersListening_eq (s : State) (config : ConfigCopy) (clamps : Nat) :
    ∃ u, s.entersListening config clamps = u.listened.finishPage false .other ∧
      u.start = StartBlock.listens config clamps s.clock s.start ∧
      u.ports =
        { a := { s.ports.a with inUse := true, bitRate := some config.bitRate }
          b := if config.bothPorts then { s.ports.b with inUse := true, bitRate := some config.bitRate }
            else s.ports.b } ∧
      OnlyChanges [.start, .ports] s u :=
  have used := (s.startDo (StartBlock.listens config clamps s.clock)).portsEnterListening_used.only
  ⟨(s.startDo (StartBlock.listens config clamps s.clock)).portsEnterListening, rfl, used .start (by decide),
    State.portsEnterListening_ports _, (s.startDo_changes _).andThen used⟩

theorem State.imageReadEnds_good {s : State} {image : List Byte} (loading : s.start.lifecycle = .loading)
    (whole : image.length = 496) {config : ConfigCopy} {clamps : Nat} (good : readImage image = .good config clamps) :
    s.imageReadEnds image = s.entersListening config clamps := by
  unfold State.imageReadEnds
  have all : image.take imageLength = image := List.take_of_length_le (Nat.le_of_eq whole)
  rw [if_pos ⟨loading, Nat.le_of_eq whole.symm⟩, all, good]

theorem readImage_ranges {image : List Byte} {config : ConfigCopy} {clamps : Nat}
    (good : readImage image = .good config clamps) :
    config.sweepRanges.length ≤ 2 ∧ ∀ r ∈ config.sweepRanges, r.1 ≤ r.2 := by
  have structural := readImage_structure good
  obtain ⟨rfl, -⟩ := readImage_copy good
  have few : imageOctet image 11 ≤ 2 := by
    simp only [structureGood, Bool.and_eq_true, decide_eq_true_eq] at structural
    exact structural.1.2
  exact ⟨sweepRanges_length_le image few, sweepRanges_ordered image⟩

theorem tally_idle {l : List Nat} (order : l.Pairwise (· < ·)) :
    (l.map fun c => (⟨c, .idle⟩ : TallyEntry)).Pairwise (fun x y => x.cabin < y.cabin) ∧
      (∀ x ∈ l.map fun c => (⟨c, .idle⟩ : TallyEntry), x.sweep = .idle) ∧
      ∀ cabin, (∃ x ∈ l.map fun c => (⟨c, .idle⟩ : TallyEntry), x.cabin = cabin) ↔ cabin ∈ l := by
  refine ⟨List.pairwise_map.mpr order, fun x held => ?_, fun cabin => ?_⟩
  · obtain ⟨c, -, rfl⟩ := List.mem_map.mp held
    rfl
  · rw [exists_mem_map_iff]
    exact exists_eq_right

/-- Settles O5: the blocks enter LISTENING in turn, and the pinned entries, having no candidate, stand as formed. -/
theorem goodImageStartsListening : Obligations.GoodImageStartsListening := by
  unfold Obligations.GoodImageStartsListening
  intro image config clamps s loading whole good level spot
  obtain ⟨u, ends, began, opened, before⟩ := s.entersListening_eq config clamps
  obtain ⟨few, ordered⟩ := readImage_ranges good
  have cfg : u.cfg = config := by
    rw [State.cfg, began]
    rfl
  have running : u.running = true := by
    rw [State.running, began]
    rfl
  have clock : u.clock = s.clock := before .clock (by decide)
  have pins : u.pins = s.pins := before .pins (by decide)
  have was : u.page = s.page := before .page (by decide)
  have page := u.listened_page
  have finish := u.listened.finishPage_changes false .other
  have only : OnlyChanges [.route, .cabin, .trig, .page, .panel] u (u.listened.finishPage false .other) :=
    u.listened_changes.andThen finish
  rw [← ends] at finish only
  have start := (only .start (by decide)).trans began
  have ports := (only .ports (by decide)).trans opened
  have cabin := (finish .cabin (by decide)).trans u.listened_cabin
  have trig : (s.entersListening config clamps).trig = u.listened.trig := finish .trig (by decide)
  have sets : (s.entersListening config clamps).trig.sets = config.triggers.map loadSet := by
    rw [trig, u.listened_sets, cfg]
  have entries : (s.entersListening config clamps).route.entries = pinnedEntries config s.clock := by
    have route : (s.entersListening config clamps).route = u.listened.route := finish .route (by decide)
    rw [route, u.listened_entries, cfg, clock]
  have selected : (s.entersListening config clamps).page.selected =
      if config.role = .cabin then .cabin else .rotation .route := by
    rw [ends, State.finishPage_first (by rw [u.listened_running, running]) (by rw [page, was]; exact level)
      (by rw [page, was]; exact spot) (by rw [page]), u.listened_cfg, cfg]
  have dayLevel : (s.entersListening config clamps).panel.dayLevel = config.panel.dayLevel := by
    rw [ends, State.finishPage_dayLevel, u.listened_dayLevel, cfg]
  rw [cfg, pins] at cabin
  refine ⟨s.entersListening config clamps, congrArg Host.Outcome.next (State.imageReadEnds_good loading whole good),
    by rw [start]; rfl, by rw [start]; rfl, by rw [start]; rfl, by rw [start]; rfl, fun clamped => ?_,
    by rw [start]; rfl, by rw [ports], fun both => ?_, fun one => ?_, fun d => ?_, ?_, fun e held => ?_,
    fun e held => ?_, ?_, fun n l at' => ?_, fun unused => ?_, fun used ranges => ?_, ?_, dayLevel, selected,
    before.andThen only⟩
  · rw [start]
    exact Bool.or_eq_true_iff.mpr (.inr (decide_eq_true clamped))
  · rw [ports]
    exact if_pos both
  · rw [ports]
    exact if_neg (by simp [one])
  · rw [entries, pinnedEntries_dest, mem_pinnedIds]
  · rw [entries]
    exact pinnedEntries_ordered _ _
  · rw [entries] at held
    obtain ⟨d, -, rfl⟩ := List.mem_map.mp held
    obtain ⟨pinned, cells⟩ := pinnedEntry_shape config s.clock d
    rw [pinnedEntry_dest]
    exact ⟨pinned, cells, fun anchored => pinnedEntry_anchored anchored _, fun other => pinnedEntry_unanchored other _⟩
  · rw [entries] at held
    obtain ⟨d, -, rfl⟩ := List.mem_map.mp held
    rw [pinnedEntry_dest]
    exact pinnedEntry_kind _ _ _
  · rw [cabin]
    exact List.length_mapIdx
  · rw [cabin]
    show (config.lines.mapIdx _)[n]? = _
    rw [List.getElem?_mapIdx, at']
    rfl
  · rw [cabin]
    exact formTally_none unused
  · obtain ⟨-, mem⟩ := tallyCabins_spec _ few ordered
    obtain ⟨ascends, idle, cabins⟩ := tally_idle (tallyCabins_ascending _ few ordered)
    refine ⟨_, by rw [cabin]; exact formTally_some used ranges, ascends, idle, fun c => ?_⟩
    rw [cabins, mem]
  · exact sets

end Sys2Proof.Machine

/-! ### The status responder (R177 to R179) -/

namespace Sys2Proof.Machine

/-! #### The octets of a reply's fields -/

theorem octets1_ite (c : Prop) [Decidable c] (x y : Nat) :
    octets1 (if c then x else y) = if c then octets1 x else octets1 y := apply_ite octets1 c x y

theorem signed2_eq (x : Int) : signed2 x = octets2 (x % (2 ^ 16 : Nat)).toNat :=
  congrArg octets2 (BitVec.toNat_ofInt x)

theorem signed4_eq (x : Int) : signed4 x = octets4 (x % (2 ^ 32 : Nat)).toNat :=
  congrArg octets4 (BitVec.toNat_ofInt x)

theorem State.reportedWindow_eq (s : State) : s.reportedWindow =
    if s.panel.kind = .paper then s.panel.windowCount s.panelEnv else 0 := by
  unfold State.reportedWindow
  cases s.panel.kind <;> rfl

/-! #### The answer -/

theorem State.statusReply_code (s : State) (argument : Nat) : ∀ n : Nat, n ≤ 10 → (s.statusReply n argument).1 = n
  | 0, _ | 1, _ | 2, _ | 3, _ | 4, _ | 5, _ | 6, _ | 7, _ | 8, _ | 9, _ | 10, _ => rfl
  | n + 11, known => absurd known (by omega)

/-- A state that differs in the ports and the indicator unit alone, written out. -/
theorem OnlyChanges.ports_ind {s u : State} (only : OnlyChanges [.ports, .ind] s u) :
    u = { s with ports := u.ports, ind := u.ind } := by
  have same (b : Block) (other : b ∉ [Block.ports, .ind]) := only b other
  have clock : u.clock = s.clock := same .clock (by decide)
  have start : u.start = s.start := same .start (by decide)
  have bus : u.bus = s.bus := same .bus (by decide)
  have time : u.time = s.time := same .time (by decide)
  have alarm : u.alarm = s.alarm := same .alarm (by decide)
  have route : u.route = s.route := same .route (by decide)
  have muster : u.muster = s.muster := same .muster (by decide)
  have prog : u.prog = s.prog := same .prog (by decide)
  have cabin : u.cabin = s.cabin := same .cabin (by decide)
  have trig : u.trig = s.trig := same .trig (by decide)
  have page : u.page = s.page := same .page (by decide)
  have panel : u.panel = s.panel := same .panel (by decide)
  have status : u.status = s.status := same .status (by decide)
  have pins : u.pins = s.pins := same .pins (by decide)
  have pending : u.pending = s.pending := same .pending (by decide)
  rw [← clock, ← start, ← bus, ← time, ← alarm, ← route, ← muster, ← prog, ← cabin, ← trig, ← page, ← panel,
    ← status, ← pins, ← pending]

theorem State.takeQuery_idle {s : State} {q : QueryPayload}
    (off : s.start.lifecycle ≠ .operating ∨ q.target ≠ s.cfg.nodeNumber) (p : Port) : s.takeQuery p q = s :=
  if_neg fun on => off.elim (absurd on.1) (absurd on.2)

theorem State.takeQuery_answers {s : State} {q : QueryPayload} (operating : s.start.lifecycle = .operating)
    (target : q.target = s.cfg.nodeNumber) (p : Port) :
    (s.takeQuery p q).status = { s.status with queriesAnswered := bump s.status.queriesAnswered } ∧
      (s.takeQuery p q).panel = (s.readsWindow q.item).panel ∧
      (s.takeQuery p q).ports = (s.request p .status (.statusItem (s.statusReply q.item q.argument).1 q.argument)
        (.fixed (s.ownFrame .status (octets1 (s.statusReply q.item q.argument).1 ++ octets1 q.argument ++
          (s.statusReply q.item q.argument).2)))).ports := by
  unfold State.takeQuery
  rw [if_pos ⟨operating, target⟩]
  have reads : OnlyChanges [.panel] s (s.readsWindow q.item) := .ite (s.panelDo_changes _) (.refl _ _)
  have start : (s.readsWindow q.item).start = s.start := reads .start (by decide)
  have asks := (s.readsWindow q.item).requestOwn_changes p .status
    (.statusItem (s.statusReply q.item q.argument).1 q.argument)
    (octets1 (s.statusReply q.item q.argument).1 ++ octets1 q.argument ++ (s.statusReply q.item q.argument).2)
  have status := (asks .status (by decide)).trans (reads .status (by decide))
  refine ⟨?_, asks .panel (by decide), ?_⟩
  · dsimp only
    rw [show _ = s.status from status]
  · dsimp only
    rw [State.requestOwn, State.ownFrame_congr start]
    exact State.request_ports_congr start (reads .ports (by decide)) _ _ _ _

/-- Settles O60: the layouts of the statement are those of the responder, field function by field function. -/
theorem queryTaken : Obligations.QueryTaken := by
  unfold Obligations.QueryTaken
  intro p f q s hears parsed
  have taken : exec (.queryFrame p f) s = .next ((s.heard p).takeQuery p q) := congrArg Host.Outcome.next
    (State.receive_eq (handle := fun s => s.takeQuery p q) hears (by simp only [classHandler, parsed, Option.map_some]))
  have heard : OnlyChanges [.ports, .ind] s (s.heard p) := s.heard_changes p
  refine ⟨_, taken, fun off => ?_, fun operating target => ?_, ?_⟩
  · rw [State.takeQuery_idle (by rwa [State.heard_start, State.heard_cfg])]
    exact ⟨heard, s.heard_counts p⟩
  · obtain ⟨status, panel, ports⟩ := State.takeQuery_answers (s := s.heard p) (q := q)
      (by rw [State.heard_start]; exact operating) (by rw [State.heard_cfg]; exact target) p
    rw [State.ownFrame_congr (s.heard_start p)] at ports
    have was : (s.heard p).status = s.status := heard .status (by decide)
    refine ⟨by rw [status, was], ?_⟩
    have same {α : Type} (g : State → α) (apart : ∀ ports ind, g { s with ports := ports, ind := ind } = g s) :
        g (s.heard p) = g s := heard.ports_ind ▸ apart _ _
    intro u opt yes signed flags counting perPort report cell route capture counters
    have optional {α : Type} (width : Nat) (g : α → List Byte) (x : Option α) :
        opt width (x.map g) = optionalField width g x := by cases x <;> rfl
    have yesOctet (x : Bool) : yes x = octets1 (boolCode x) := by cases x <;> rfl
    have flagOctet (x y : Bool) : flags x y = octets1 (advertFlags x y) := by cases x <;> cases y <;> rfl
    have reports : report = ZoneReport.data := rfl
    have cells : cell = Cell.data := by
      funext c
      simp only [cell, flagOctet]
      rfl
    have routes : route = RouteEntry.data s.cfg := by
      funext e
      simp only [route, RouteEntry.data, flagOctet, cells, yesOctet]
      refine congrArg (· ++ e.cells.flatMap Cell.data) (append_congr ?_ ?_)
      · refine (append_congr rfl ?_).trans (List.append_assoc _ _ _).symm
        cases e.nextHop with
        | slot n => rfl
        | self =>
          rw [neighbourOf, Option.map_none, Option.getD_none]
          rfl
        | none =>
          rw [neighbourOf, Option.map_none, Option.getD_none]
          rfl
      · cases figuresOf s.cfg e <;> rfl
    have captures : capture = Capture.data := by
      funext c
      simp only [capture, yesOctet, Capture.data]
      cases c.time <;> rfl
    have counted : counters = (s.heard p).counterBlock q.argument := by
      refine Eq.trans ?_ (same (fun s => { s with ports := u.ports }.counterBlock q.argument) fun _ _ => rfl).symm
      simp only [counters]
      generalize q.argument = n
      match n with
      | 0 => rfl
      | 1 => rfl
      | 2 => rfl
      | 3 => rfl
      | 4 => rfl
      | 5 => rfl
      | n + 6 => rfl
    have item (n : Nat) (is : q.item = n) :
        ((s.heard p).statusReply q.item q.argument).2 = ((s.heard p).statusReply n q.argument).2 := by rw [is]
    refine ⟨fun is => ?_, fun is => ?_, ((s.heard p).statusReply q.item q.argument).1,
      ((s.heard p).statusReply q.item q.argument).2, ports, fun is => ?_, fun is => ?_, fun is => ?_, fun is => ?_,
      fun is => ?_, fun is => ?_, fun is => ?_, fun is => ?_, fun is => ?_, fun is => ?_, fun is role => ?_,
      fun is role => ?_, ?_, ?_⟩
    · rw [panel, State.readsWindow, if_pos is]
      exact same (fun s => (s.panelDo fun e p => p.pruneWindow e).panel) fun _ _ => rfl
    · rw [panel, State.readsWindow, if_neg is]
      exact heard .panel (by decide)
    · refine (item 0 is).trans ((same State.identityData fun _ _ => rfl).trans ?_)
      unfold State.identityData
      rw [octets1_ite, ← yesOctet]
      rfl
    · refine (item 1 is).trans ((same State.timeData fun _ _ => rfl).trans ?_)
      have confirm : (fun r => octets4 (signed 4 r)) = signed4 := funext fun r => (signed4_eq r).symm
      unfold State.timeData
      rw [signed2_eq, confirm, optional, optional, optional]
    · refine (item 2 is).trans ((same State.alarmData fun _ _ => rfl).trans ?_)
      unfold State.alarmData
      rw [← optional, ← optional]
    · refine (item 3 is).trans ((same (State.zonesData · q.argument) fun _ _ => rfl).trans ?_)
      unfold State.zonesData
      rw [← optional, ← reports]
    · refine (item 4 is).trans ((same (State.routeData · q.argument) fun _ _ => rfl).trans ?_)
      unfold State.routeData
      rw [← routes]
      exact (optional _ _ _).symm
    · refine (item 5 is).trans ((same State.musterData fun _ _ => rfl).trans ?_)
      unfold State.musterData
      simp only [← optional]
    · exact (item 6 is).trans (same State.programmeData fun _ _ => rfl)
    · refine (item 7 is).trans ((same State.panelData fun _ _ => rfl).trans ?_)
      have kind : octets1 (panelKindCode s.panel.kind) = yes (decide (s.panel.kind = .lit)) := by
        cases s.panel.kind <;> rfl
      unfold State.panelData groupMask
      rw [s.reportedWindow_eq, kind, ← yesOctet, ← optional, List.map_map]
      rfl
    · rw [counted]
      exact item 8 is
    · refine (item 9 is).trans ((same (State.captureData · q.argument) fun _ _ => rfl).trans ?_)
      unfold State.captureData TimerState.runningCode
      simp only [octets1_ite]
      rw [← optional, captures]
      rfl
    · refine (item 10 is).trans ((same State.sweepData fun _ _ => rfl).trans ?_)
      unfold State.sweepData contactCode
      simp only [octets1_ite]
      rw [if_pos role, sweepMinuteOctets_eq, ← optional]
      rfl
    · have data := (item 10 is).trans (same State.sweepData fun _ _ => rfl)
      unfold State.sweepData at data
      rw [if_neg role] at data
      rw [data]
      refine ⟨fun none => ?_, fun l held => ?_⟩
      · rw [none]
        rfl
      · rw [held]
        rfl
    · exact State.statusReply_code _ _ _
    · generalize q.item = n
      intro unknown
      obtain ⟨k, rfl⟩ : ∃ k, n = k + 11 := ⟨n - 11, by omega⟩
      exact ⟨rfl, rfl⟩
  · exact heard.andThen (State.takeQuery_changes _ _ _)

end Sys2Proof.Machine

/-! ### What the pages hold (R26, R73 to R75, R127 to R135) -/

namespace Sys2Proof.Machine

/-! #### Texts -/

/-- The digits of a number, most significant first, without a leading zero. -/
structure IsDigits (n : Nat) (ds : List Nat) : Prop where
  small : ∀ d ∈ ds, d < 10
  value : ds.foldl (fun v d => 10 * v + d) 0 = n
  lead : ds.head? = some 0 → ds = [0]

theorem IsDigits.one {n : Nat} (small : n < 10) : IsDigits n [n] where
  small := fun d h => by rwa [List.mem_singleton.mp h]
  value := by simp
  lead := fun h => by rw [Option.some.inj h]

theorem IsDigits.snoc {n : Nat} {ds : List Nat} (digits : IsDigits (n / 10) ds) (large : 10 ≤ n) :
    IsDigits n (ds ++ [n % 10]) where
  small := fun d h => by
    rcases List.mem_append.mp h with h | h
    · exact digits.small d h
    · rw [List.mem_singleton.mp h]
      omega
  value := by
    rw [List.foldl_append, digits.value]
    exact Nat.div_add_mod n 10
  lead := fun h => by
    have value := digits.value
    cases ds with
    | nil =>
      have zero : 0 = n / 10 := value
      omega
    | cons d ds =>
      rw [digits.lead h] at value
      have zero : 0 = n / 10 := value
      omega

theorem digitsGo_digits (fuel n : Nat) (acc : List TextPiece) (bound : n < 10 ^ (fuel + 1)) :
    ∃ ds, digitsGo (fuel + 1) n acc = ds.map .digit ++ acc ∧ IsDigits n ds := by
  induction fuel generalizing n acc with
  | zero =>
    have small : n < 10 := bound
    exact ⟨[n], if_pos small, .one small⟩
  | succ fuel ih =>
    by_cases small : n < 10
    · exact ⟨[n], if_pos small, .one small⟩
    · obtain ⟨ds, text, digits⟩ := ih (n / 10) (.digit (n % 10) :: acc) (by omega)
      refine ⟨ds ++ [n % 10], (if_neg small).trans (text.trans ?_), digits.snoc (by omega)⟩
      rw [List.map_append, List.append_assoc]
      rfl

theorem clockText_eq (m : Nat) : clockText m = [.digit (m % 1440 / 600), .digit (m % 1440 / 60 % 10), .colon,
    .digit (m % 60 / 10), .digit (m % 10)] := by
  have tens : m % 1440 / 60 / 10 = m % 1440 / 600 := Nat.div_div_eq_div_mul _ _ _
  have minutes : m % 1440 % 60 = m % 60 := Nat.mod_mod_of_dvd m (by decide)
  have units : m % 60 % 10 = m % 10 := Nat.mod_mod_of_dvd m (by decide)
  simp only [clockText, twoDigits, minuteOfDay, tens, minutes, units]
  rfl

section
variable (s : State)

/-! #### Displayed figures (R26, R127) -/

theorem State.distanceText_figures (d : Nat) : distanceText (s.figures d) = match s.routeEntry d with
    | none => [.stock .routePending]
    | some e => match e.state with
      | .anchor => [.stock .here]
      | .reachable => (if 9990 < e.cost then [.moreThan] else []) ++ digitsText (min 999 ((e.cost + 9) / 10)) ++
          [.metres]
      | .holdDown => [.stock .noRoute]
      | .unreachable => [.stock .noRoute] := by
  unfold State.figures
  cases s.routeEntry d with
  | none => rfl
  | some e =>
    rcases e with ⟨_, _, state, cost, _⟩
    cases state with
    | reachable =>
      have beyond : decide (999 < (cost + 9) / 10) = true ↔ 9990 < cost := by
        rw [decide_eq_true_iff]
        omega
      exact congrArg (· ++ digitsText (min 999 ((cost + 9) / 10)) ++ [.metres]) (ite_iff_congr beyond rfl rfl)
    | anchor => rfl
    | holdDown => rfl
    | unreachable => rfl

theorem State.figuresBearing_figures (d : Nat) : figuresBearing (s.figures d) = match s.routeEntry d with
    | none => none
    | some e => match e.nextHop with
      | .slot n => if e.state = .reachable then (s.cfg.neighbours[n]?).map (fun l => l.bearing) else none
      | .self => none
      | .none => none := by
  unfold State.figures
  cases s.routeEntry d with
  | none => rfl
  | some e =>
    rcases e with ⟨_, _, state, _, _, nextHop, _⟩
    cases state <;> cases nextHop <;> rfl

/-! #### Fields of the pages -/

theorem Level.emergency_code (l : Level) : l.emergency = decide (l = .general ∨ l = .abandon) := by
  cases l <;> rfl

theorem State.headerFields_eq : s.headerFields =
    [textField 0 [1] (if s.time.state = .unset then [] else clockText s.programmeMinute),
      ⟨1, .normal, .symbol (if s.page.level = .alert then .crewAlert else .none), [1]⟩] := by
  unfold State.headerFields
  cases s.time.state <;> rfl

theorem arrowAttr_eq (level : Level) (kind : PanelKind) : arrowAttr level kind =
    if level.emergency then (if kind = .lit then .blink else .inverse) else .normal := by
  unfold arrowAttr
  cases kind <;> rfl

theorem State.visibleSignposts_eq : s.visibleSignposts = s.cfg.signposted.filter (fun d =>
    !(s.page.level.emergency && (s.routeEntry d.dest).any (fun e => decide (e.kind = .venue)))) := by
  unfold State.visibleSignposts
  refine List.filter_congr fun d _ => ?_
  cases s.routeEntry d.dest with
  | some e => rfl
  | none => rw [Option.any_none, Bool.and_false]; rfl

/-- The figures of a signpost row, of an entry or of none. -/
theorem State.signpostRow_eq (region : Nat → Nat) (i : Nat) : s.signpostRow region i =
    [textField (4 + 3 * i) [region i] (match s.visibleSignposts[i]? with
        | some d => glyphText d.label
        | none => []),
      ⟨5 + 3 * i, arrowAttr s.page.level s.panel.kind, .arrow (match s.visibleSignposts[i]? with
        | some d => figuresBearing (s.figures d.dest)
        | none => none), [region i]⟩,
      textField (6 + 3 * i) [region i] (match s.visibleSignposts[i]? with
        | some d => distanceText (s.figures d.dest)
        | none => [])] := by
  unfold State.signpostRow
  cases s.visibleSignposts[i]? <;> rfl

theorem uncheckedCount_eq (t : List TallyEntry) : uncheckedCount t =
    t.countP (fun x => decide (x.sweep = .unchecked) || decide (x.sweep = .reopened)) := by
  unfold uncheckedCount
  rw [List.countP_eq_length_filter]
  simp only [Bool.decide_or]

theorem assistCount_eq (t : List TallyEntry) : assistCount t = t.countP (fun x => decide (x.sweep = .assist)) :=
  List.countP_eq_length_filter.symm

theorem State.sweepLine_eq : s.sweepLine = if s.cabin.sweep = .idle then [] else sweepText s.cabin.sweep ++
    match s.cabin.sweepMinute with
    | some m => .joint :: clockText m
    | none => [] := by
  unfold State.sweepLine
  split
  · rfl
  · cases s.cabin.sweepMinute with
    | none => exact (List.append_nil _).symm
    | some m => exact List.append_assoc _ _ _

end

end Sys2Proof.Machine

/-! ### The guidance pages (R127 to R135) -/

namespace Sys2Proof.Machine

/-- Settles O51: each page is composed of the stated records, text by text. -/
theorem guidancePagesCompose : Obligations.GuidancePagesCompose := by
  unfold Obligations.GuidancePagesCompose
  refine ⟨fun n bound => ?_, fun s => ?_⟩
  · obtain ⟨ds, shown, digits⟩ := digitsGo_digits 7 n [] bound
    exact ⟨ds, shown.trans (List.append_nil _), digits.small, digits.value, digits.lead⟩
  · intro emergency text clock entry distance bearing attr header visible rows carries
    have alarmed : emergency = s.page.level.emergency := s.page.level.emergency_code.symm
    have clocks : clock = clockText := funext fun m => (clockText_eq m).symm
    have distances : distance = fun d => distanceText (s.figures d) := funext fun d => (s.distanceText_figures d).symm
    have bearings : bearing = fun d => figuresBearing (s.figures d) := funext fun d => (s.figuresBearing_figures d).symm
    have attrs : attr = arrowAttr s.page.level s.panel.kind := by
      simp only [attr, alarmed]
      exact (arrowAttr_eq _ _).symm
    have headers : header = s.headerFields := by
      simp only [header, clocks]
      exact s.headerFields_eq.symm
    have shown : visible = s.visibleSignposts := by
      simp only [visible, alarmed]
      exact s.visibleSignposts_eq.symm
    have signposts (region : Nat → Nat) : rows region = s.signpostRows region := by
      refine congrArg (List.flatMap · [0, 1, 2, 3]) (funext fun i => ?_)
      rw [s.signpostRow_eq, shown, attrs, bearings, distances]
      cases s.visibleSignposts[i]? <;> rfl
    refine ⟨fun r => ?_, fun r => ?_, ?_⟩
    · rw [alarmed]
      exact Iff.rfl
    · have halves : (fun i => if i ≤ 1 then 2 else 3) = routeRowRegion :=
        funext fun i => ite_iff_congr Nat.lt_succ_iff.symm rfl rfl
      rw [headers, signposts, halves]
      exact Iff.rfl
    · intro page heading named _ labelled target far tallied sweep since
      obtain ⟨abandon, composed, rfl⟩ : ∃ abandon : Bool, s.composePage page = s.musterFields abandon ∧
          heading = if abandon then .goToEmbarkation else .goToAssembly := by
        rcases named with ⟨rfl, rfl⟩ | ⟨rfl, rfl⟩
        · exact ⟨false, rfl, rfl⟩
        · exact ⟨true, rfl, rfl⟩
      have targets : target = s.targetFields abandon := by
        simp only [target, labelled]
        unfold State.targetFields State.targetLabel State.targetDeck State.labelOf
        cases s.muster.dest with
        | none => rfl
        | some d =>
          dsimp only
          cases s.cfg.labels.find? (fun l => l.dest == d) <;> rfl
      have fars : far = s.targetDistance := by
        simp only [far, distances]
        unfold State.targetDistance
        cases s.muster.dest <;> rfl
      have aims : s.muster.dest.bind bearing = s.targetBearing := by
        rw [bearings]
        unfold State.targetBearing
        cases s.muster.dest <;> rfl
      have tallies : tallied = s.tallyFields := by
        simp only [tallied, ← uncheckedCount_eq, ← assistCount_eq]
        unfold State.tallyFields
        cases s.cabin.tally <;> rfl
      have swept : (if s.cabin.sweep = .idle then [] else sweep ++ since) = s.sweepLine := by
        simp only [sweep, since, clocks]
        rw [s.sweepLine_eq]
        exact ite_iff_congr Iff.rfl rfl rfl
      refine ⟨fun other r => ?_, fun cabin r => ?_⟩
      · rw [composed, State.musterFields, if_neg other, headers, signposts, targets, fars, aims, tallies, attrs]
        exact Iff.rfl
      · rw [composed, State.musterFields, if_pos cabin, headers, targets, fars, swept]
        exact Iff.rfl

end Sys2Proof.Machine

/-! ### The content pages (R68, R73 to R75, R130, R133, R134) -/

namespace Sys2Proof.Machine

/-- A ceiling by its quotient and its remainder. -/
theorem ceil_eq (c : Nat) {k : Nat} (positive : 1 ≤ k) :
    (c + k - 1) / k = c / k + if c % k = 0 then 0 else 1 := by
  have whole := Nat.div_add_mod c k
  have below := Nat.mod_lt c positive
  split
  · next none =>
      have is : c + k - 1 = k * (c / k) + (k - 1) := by omega
      rw [is, Nat.mul_add_div positive, Nat.div_eq_of_lt (show k - 1 < k by omega)]
  · next some =>
      have is : c + k - 1 = k * (c / k + 1) + (c % k - 1) := by
        rw [Nat.mul_add]
        omega
      rw [is, Nat.mul_add_div positive, Nat.div_eq_of_lt (show c % k - 1 < k by omega)]

section
variable (s : State)

theorem State.selection_eq : s.selection = s.prog.items.filter (fun i =>
    i.deckMask.getLsbD s.cfg.deck && i.zoneMask.getLsbD s.cfg.zone &&
      (decide (s.time.state = .unset) ||
        decide (s.programmeMinute ≤ i.last ∧ i.start ≤ s.programmeMinute + s.cfg.lookahead))) := by
  have unset : (!s.time.state.known) = decide (s.time.state = .unset) := by
    cases s.time.state <;> rfl
  refine List.filter_congr fun i _ => ?_
  rw [State.selects, inAudience, unset, Bool.decide_and]

theorem State.statusText_eq (i : Item) : s.statusText i = if i.cancelled then [.stock .cancelled]
    else if s.time.state = .unset then []
    else if i.start ≤ s.programmeMinute then [.stock .now]
    else match s.panel.kind with
      | .lit =>
        if i.start ≤ s.programmeMinute + 60 ∧ s.time.state ≠ .stale then
          [.stock .inWord, .space] ++ digitsText (i.start - s.programmeMinute) ++ [.space, .stock .minWord]
        else []
      | .paper => if i.start ≤ s.programmeMinute + 15 then [.stock .soon] else [] := by
  have known : s.time.state.known = false ↔ s.time.state = .unset := by
    cases s.time.state <;> simp [TimeState.known]
  unfold State.statusText
  refine ite_iff_congr Iff.rfl rfl ?_
  by_cases unset : s.time.state = .unset
  · rw [if_pos (known.mpr unset), if_pos unset]
  · rw [if_neg (mt known.mp unset), if_neg unset]
    refine ite_iff_congr Iff.rfl rfl ?_
    have counts : s.time.state.disciplined = true ↔ s.time.state ≠ .stale := by
      revert unset
      cases s.time.state <;> simp [TimeState.disciplined]
    have near (n : Nat) : i.start - s.programmeMinute ≤ n ↔ i.start ≤ s.programmeMinute + n := Nat.sub_le_iff_le_add'
    cases s.panel.kind with
    | lit => exact ite_iff_congr (and_congr (near 60) counts) rfl rfl
    | paper => exact ite_iff_congr (near 15) rfl rfl

/-- The venue field, its way after the name (R74). -/
theorem State.venueText_eq (i : Item) : s.venueText i = if i.venue = 0 then glyphText i.venueLabel
    else (if i.venueLabel = [] then digitsText i.venue else glyphText i.venueLabel) ++ .joint ::
      ((match figuresBearing (s.figures i.venue) with
        | some b => [.arrow b, .joint]
        | none => []) ++ distanceText (s.figures i.venue)) := by
  unfold State.venueText
  refine ite_iff_congr Iff.rfl rfl ?_
  generalize (if i.venueLabel = [] then digitsText i.venue else glyphText i.venueLabel) = label
  cases s.figures i.venue with
  | none => exact List.append_assoc label [.joint] _
  | some figures =>
    cases figures with
    | here => exact List.append_assoc label [.joint] _
    | noRoute => exact List.append_assoc label [.joint] _
    | route metres more bearing =>
      cases bearing with
      | none => exact List.append_assoc label [.joint] _
      | some b => exact List.append_assoc label [.joint, .arrow b, .joint] _

/-- The way to a venue: the arrow of its REACHABLE entry and its distance (R74, R127). -/
theorem State.wayText_eq (d : Nat) : (match figuresBearing (s.figures d) with
      | some b => [.arrow b, .joint]
      | none => []) ++ distanceText (s.figures d) =
    match s.routeEntry d with
    | none => [.stock .routePending]
    | some e => match e.state with
      | .anchor => [.stock .here]
      | .reachable =>
        (match e.nextHop with
          | .slot n => match s.cfg.neighbours[n]? with
            | some l => [.arrow l.bearing, .joint]
            | none => []
          | .self => []
          | .none => []) ++
          (if 9990 < e.cost then [.moreThan] else []) ++ digitsText (min 999 ((e.cost + 9) / 10)) ++ [.metres]
      | .holdDown => [.stock .noRoute]
      | .unreachable => [.stock .noRoute] := by
  rw [s.distanceText_figures, s.figuresBearing_figures]
  cases s.routeEntry d with
  | none => rfl
  | some e =>
    rcases e with ⟨_, _, state, cost, _, nextHop, _⟩
    cases state with
    | reachable =>
      have joined (way : List TextPiece) : way ++ ((if 9990 < cost then [.moreThan] else []) ++
            digitsText (min 999 ((cost + 9) / 10)) ++ [.metres]) =
          way ++ (if 9990 < cost then [.moreThan] else []) ++ digitsText (min 999 ((cost + 9) / 10)) ++ [.metres] := by
        simp only [List.append_assoc]
      cases nextHop with
      | slot n =>
        dsimp only
        rw [if_pos rfl]
        cases s.cfg.neighbours[n]? <;> exact joined _
      | self => exact joined []
      | none => exact joined []
    | anchor => cases nextHop <;> rfl
    | holdDown => cases nextHop <;> rfl
    | unreachable => cases nextHop <;> rfl

theorem State.programmeLine_eq (first j : Nat) : s.programmeLine first j =
    match s.selection[first + j]? with
    | some i =>
      [textField (4 + 3 * j) [if j ≤ 3 then 2 else 3] (clockText i.start ++ .space :: glyphText i.title),
        textField (5 + 3 * j) [if j ≤ 3 then 2 else 3] (s.statusText i),
        textField (6 + 3 * j) [if j ≤ 3 then 2 else 3] (s.venueText i)]
    | none =>
      [textField (4 + 3 * j) [if j ≤ 3 then 2 else 3] [], textField (5 + 3 * j) [if j ≤ 3 then 2 else 3] [],
        textField (6 + 3 * j) [if j ≤ 3 then 2 else 3] []] := by
  have half : (if j < 4 then 2 else 3) = if j ≤ 3 then 2 else 3 := ite_iff_congr Nat.lt_succ_iff rfl rfl
  unfold State.programmeLine
  rw [half]
  cases s.selection[first + j]? with
  | none => rfl
  | some i =>
    dsimp only
    rw [List.append_assoc]
    rfl

theorem State.mem_programmeFields (k : Nat) (r : FieldRecord) : r ∈ s.programmeFields k ↔ r ∈ s.headerFields ∨
    r = textField 2 [1] (digitsText k ++ .slash :: digitsText s.programmePages) ∨
      ∃ j < s.cfg.linesPerPage, r ∈ s.programmeLine ((k - 1) * s.cfg.linesPerPage) j := by
  unfold State.programmeFields
  rw [List.mem_append, List.mem_append, List.mem_singleton, List.mem_flatMap, or_assoc, List.append_assoc]
  simp only [List.mem_range]
  exact Iff.rfl

end

theorem occupancyText_eq (c : CabinInfo) : occupancyText c = match c.occupancy with
    | .vacant => [.stock .vacant]
    | .occupied => [.stock .occupied, .joint] ++ digitsText c.embarkDay ++
        TextPiece.joint :: digitsText c.disembarkDay := by
  unfold occupancyText
  cases c.occupancy with
  | vacant => rfl
  | occupied => exact List.append_assoc _ [TextPiece.joint] _

/-- Settles O52: each page is composed of the stated records, text by text. -/
theorem contentPagesCompose : Obligations.ContentPagesCompose := by
  unfold Obligations.ContentPagesCompose
  intro s positive now lines text glyphs clock header selection pages status venue line carries
  have clocks : clock = clockText := funext fun m => (clockText_eq m).symm
  have headers : header = s.headerFields := by
    simp only [header, clocks]
    exact s.headerFields_eq.symm
  have selected : selection = s.selection := s.selection_eq.symm
  have paged : s.programmePages = pages := by
    simp only [pages, selected]
    exact congrArg (min 4) (ceil_eq _ positive)
  have statuses : status = s.statusText := funext fun i => (s.statusText_eq i).symm
  have venues : venue = s.venueText := by
    funext i
    rw [s.venueText_eq, s.wayText_eq]
    exact ite_iff_congr Iff.rfl rfl rfl
  have lined (k j : Nat) : line k j = s.programmeLine ((k - 1) * lines) j := by
    rw [s.programmeLine_eq, ← selected, ← statuses, ← venues, ← clocks]
    rfl
  refine ⟨paged, fun k _ _ r => ?_, fun n i shown held r => ?_, fun r => ?_⟩
  · simp only [lined, headers, ← paged]
    exact s.mem_programmeFields k r
  · have item : s.page.spotItem.bind s.item = some i := by
      rw [shown]
      exact held
    have composed : s.composePage .spotlight = s.spotlightFields := rfl
    have begins : clockText i.start ++ [.space] ++ s.statusText i = clockText i.start ++ .space :: s.statusText i :=
      List.append_assoc _ _ _
    rw [composed, State.spotlightFields, item, headers, statuses, venues, clocks]
    dsimp only
    rw [begins]
    cases i.category <;> exact Iff.rfl
  · have composed : s.composePage .cabin = s.cabinFields := rfl
    rw [composed, State.cabinFields]
    simp only [occupancyText_eq]
    cases s.cabin.service <;> cases s.cabin.info <;> exact Iff.rfl

end Sys2Proof.Machine
